-- ==== Sys2Proof/Word.lean ====
section
/-! DEFINITION. The words of the part: bytes, sets of tiers as bytes, and the finite tables
that every numbered table of records is held in. -/

namespace Sys2Proof

/-- One byte of a serial line (R167, R177). -/
abbrev Byte := BitVec 8

/-- A set of tiers 0–7: bit `t` is 1 when tier `t` is in the set (R177). -/
abbrev TierSet := BitVec 8

/-- A numbered table of records: the records that differ from the cold record, by rising number.
A number that is not listed holds the cold record (the value its rule gives at cold start). -/
abbrev Table (α : Type) := List (Nat × α)

end Sys2Proof
end

