-- ==== Sys2Proof/Syntax.lean ====
section
/-! DEFINITION. The commands of the part: one constructor for each row of spec/opcode_table.json, with
the operands the outside gives. -/

namespace Sys2Proof

/-- The three masters (00_scope section 5). -/
inductive Master where
  | office | technician | schedule
  deriving DecidableEq, Repr

/-- The two supply lines of section 2.1. -/
inductive SupplyLine where
  | mainsGood | reserveLow
  deriving DecidableEq, Repr

/-- The levels of the two strap pins of one master port, high as `true` (R167). -/
structure StrapPair where
  first : Bool
  second : Bool
  deriving DecidableEq, Repr

/-- The strap pins of the three ports, as they stand at a start. -/
structure Straps where
  office : StrapPair
  technician : StrapPair
  schedule : StrapPair
  deriving DecidableEq, Repr

/-- The eight data symbols of one byte of a return frame, each sampled three times about its centre (R71): bit `i`
of the three fields is the first, second and third sample of data symbol `i`. -/
structure SampledByte where
  first : Byte
  second : Byte
  third : Byte
  deriving DecidableEq, Repr

/-- One stop symbol, sampled three times about its centre (R71): whether each sample has the stop value. -/
structure SampledStop where
  first : Bool
  second : Bool
  third : Bool
  deriving DecidableEq, Repr

/-- The commands. A request row (`subscriberAdd` to `linkRead`) is the taking, by the port of the master
named, of the oldest request that waits in its input queue (R170); its fields are the body of that
message (R177). Every other row is an event at the part's pins, lines or timers. -/
inductive Instr where
  /-- R3: the presence line of source `src` goes to the level `high`. -/
  | sourcePresenceLineChange (src : Nat) (high : Bool)
  /-- R3: the 2 s qualification timer of source `src` expires. -/
  | sourceQualificationExpiry (src : Nat)
  /-- R19: a supply line goes to the level `high`. -/
  | supplyLineChange (line : SupplyLine) (high : Bool)
  /-- R19: the 2 s qualification timer of a supply line expires. -/
  | supplyQualificationExpiry (line : SupplyLine)
  /-- R27: the step timer of slot `slot` expires. -/
  | stepTimerExpiry (slot : Nat)
  /-- R64: the last symbol of the command message leaves. -/
  | transmitCompletion
  /-- R71, R72: the return frame in reception completes; `bytes` are the samples of its bytes, the check byte
  last, and `stops` those of the stop symbol behind each. The start symbol of each byte has begun, or
  the stream would have ended. -/
  | frameReceived (bytes : List SampledByte) (stops : List SampledStop)
  /-- R72: the frame in reception stops short. -/
  | frameStreamTimeout
  /-- R65: the engine takes the oldest frame of the reply buffer. -/
  | replyTake
  /-- R66: the reply window timer expires. -/
  | replyWindowExpiry
  /-- R98: the survey clock reaches the due time of the watch record of `branch`. -/
  | pollDueTime (branch : Nat)
  /-- R101: the survey clock reaches the deadline of the watch record of `branch`. -/
  | stationDeadline (branch : Nat)
  /-- R102: the survey clock reaches the recovery due time of the watch record of `branch`. -/
  | recoveryDueTime (branch : Nat)
  /-- R104: the audit step timer expires. -/
  | auditStepTimerExpiry
  /-- R112: the dwell timer of the conversion in progress expires; `reading` is the detector level in
  steps of the converter at its resolution, which may lie beyond the converter's range. -/
  | dwellExpiry (reading : Nat)
  /-- R140: the minute timer expires. -/
  | minuteTick
  /-- R144: the sweep cursor passes one subscriber record. -/
  | sweepVisit
  /-- R169, R170: a whole master message whose check agrees has been collected on the port of `p`. -/
  | messageReceived (p : Master) (kind tag : Byte) (body : List Byte)
  /-- R169: more than 100 ms pass between two bytes of the message being collected. -/
  | interByteTimeout (p : Master)
  /-- R172: the last byte of the message at the head of the output queue is sent. -/
  | messageSent (p : Master)
  /-- R171: a taken request whose kind is not in the catalogue. -/
  | unknownRequest (p : Master)
  | subscriberAdd (p : Master)
  | subscriberChange (p : Master)
  | subscriberRemove (p : Master)
  | purchase (p : Master)
  | purchaseCancel (p : Master)
  | clockSet (p : Master)
  | rateSet (p : Master)
  | creditSet (p : Master)
  | cycleClose (p : Master)
  | statementRead (p : Master)
  | portLock (p : Master)
  | portUnlock (p : Master)
  | tapInstall (p : Master)
  | tapRemove (p : Master)
  | branchSet (p : Master)
  | branchForce (p : Master)
  | branchRelease (p : Master)
  | carrierOn (p : Master)
  | carrierOff (p : Master)
  | returnOn (p : Master)
  | returnOff (p : Master)
  | linkSet (p : Master)
  | tapQuery (p : Master)
  | tapEcho (p : Master)
  | stationQuery (p : Master)
  | monitorSet (p : Master)
  | alarmResurvey (p : Master)
  /-- R175: RESTART; `straps` are the strap pins as they stand at the restart (R167). -/
  | restart (p : Master) (straps : Straps)
  | slotSet (p : Master)
  | eventSchedule (p : Master)
  | eventCancel (p : Master)
  | sponsor (p : Master)
  | withdraw (p : Master)
  | audienceSet (p : Master)
  | alarmAck (p : Master)
  | identify (p : Master)
  | slotRead (p : Master)
  | subscriberRead (p : Master)
  | tapRead (p : Master)
  | branchRead (p : Master)
  | stationRead (p : Master)
  | alarmListRead (p : Master)
  | eventRead (p : Master)
  | billingRead (p : Master)
  | linkRead (p : Master)
  /-- R176: the restart line is asserted; `intact` says whether the retention supply has held since the
  last cold start, `straps` are the strap pins as they stand. -/
  | restartLine (intact : Bool) (straps : Straps)
  /-- R71: the return line changes toward the start value; each operand says whether one of the three
  centre samples has the start value. -/
  | startIndication (a b c : Bool)
  /-- R169: a byte arrives on the line of master `p`; `stopFound` is false for a framing fault (R167). -/
  | masterPortByteReceived (p : Master) (byte : Byte) (stopFound : Bool)
  deriving DecidableEq, Repr

end Sys2Proof
end

