-- ==== Sys2Proof/Decode.lean ====
section
/-! DEFINITION. Words to commands. No row of spec/opcode_table.json gives bits (00_scope: the reader's
counts have 0 rows with fixed bits or fields), so no word spells a command. -/

namespace Sys2Proof

/-- The command a word spells by the table's bits: none, for the table gives no row bits. The commands'
own wire formats (R168, R177) are read by the machine, from the bytes the commands carry. -/
def decodeTableWord (_nbits _w : Nat) : Option Instr := none

end Sys2Proof
end

