-- ==== Sys2Proof/Config.lean ====
section
/-! DEFINITION. The values the spec leaves open: constants without a body, so that nothing can be
proved of them but what holds of every value. -/

namespace Sys2Proof.Config

/-- UNVERIFIED, a free value (log 4): what the survey clock reads after a time that would take it past
281,474,976,710,655 ms. R94 gives the clock's range and no behaviour at its end. The argument is
the index of the free value. -/
opaque surveyClockPastEnd : Nat → Nat

/-- UNVERIFIED, a free value (log 4): the sync standing a SUBSCRIBER READ reports for a record that
names no tap. R36 defines the standing as the sync status of the record's tap and says nothing for a
record without one. The argument is the index of the free value. -/
opaque syncStandingOfNoTap : Nat → Byte

/-- UNVERIFIED, a free value (log 27): whether a tap status whose housing byte is neither 0 nor 1 reports the
housing open. R177 gives those two values and no reading of another. The argument is the byte. -/
opaque housingPastList : Byte → Bool

/-- UNVERIFIED, a free value (log 27): the place in MAINS, STANDBY, FAILED that the supply byte of a station
status stands for where it is above 2. The argument is the byte. -/
opaque supplyPastList : Byte → Nat

/-- UNVERIFIED, a free value (log 27): whether a station status whose door byte is neither 0 nor 1 reports the
door open. The argument is the byte. -/
opaque doorPastList : Byte → Bool

end Sys2Proof.Config
end

