-- ==== Sys2Proof/Machine/State.lean ====
section
/-! DEFINITION. The state of the part as plain data: every table, setting, timer, queue and flag the
spec gives it, and the machine right after the cold start of a first power-up. Each record's `cold`
value is the value its rule gives at a cold start; a table lists the records that differ from it. -/

namespace Sys2Proof.Machine

/-- Why a command stops the model. All are raised by `exec` on an ill-formed command alone, all safe: the
outside cannot send such a command to the part (log 8). -/
inductive Fault where
  /-- Raised by the source events for a number outside 1–24: the part has no such line. Safe. -/
  | noSuchSource
  /-- Raised by STEP_TIMER_EXPIRY for a slot outside 1–40. Safe. -/
  | noSuchSlot
  /-- Raised by the survey events for a branch outside 1–64. Safe. -/
  | noSuchBranch
  /-- Raised by FRAME_RECEIVED for bytes that are no complete reply frame: such a stream ends by
  FRAME_STREAM_TIMEOUT or goes on (R72, R177). Safe. -/
  | incompleteFrame
  /-- Raised by MESSAGE_RECEIVED for a body above 196 bytes, which no frame can carry (R168). Safe. -/
  | messageTooLong
  deriving DecidableEq, Repr

/-- Why the model gives a command no meaning. -/
inductive Refusal where
  /-- Raised by `exec` alone, for a row of the table that has no meaning in the model. Safe. -/
  | notModelled (mnemonic : String)
  deriving DecidableEq, Repr

/-! ### Sets of masters and of alarm classes -/

/-- A set of masters (R177 sends it as one byte). -/
structure MasterSet where
  office : Bool
  technician : Bool
  schedule : Bool
  deriving DecidableEq, Repr

/-- A set of alarm classes (R131, R177). -/
structure ClassSet where
  plant : Bool
  headend : Bool
  billing : Bool
  deriving DecidableEq, Repr

/-! ### Master ports (chapter 12) -/

/-- A message without its frame: kind, tag and body (R168). -/
structure Msg where
  kind : Byte
  tag : Byte
  body : List Byte
  deriving DecidableEq, Repr

/-- The receiver of a port (R169). -/
inductive Receiver where
  | hunting
  /-- The start marker has been read; the next byte is the length. -/
  | awaitLength
  /-- A length within 4–200 is kept, with the further bytes collected so far. -/
  | collecting (length : Nat) (got : List Byte)
  deriving DecidableEq, Repr

/-- One master port (R167 to R172). -/
structure Port where
  rx : Receiver
  /-- When the 100 ms between two bytes of a message will have passed (R169). -/
  byteTimer : Option Nat
  inQ : List Msg
  inProgress : Option Msg
  outQ : List Msg
  /-- The notices-missed flag (R172). -/
  missed : Bool
  /-- The strap pins as read at the last start (R167). -/
  straps : StrapPair
  /-- The bit rate the straps selected at the last start (R167). -/
  rate : Nat
  /-- The frames whose last byte has been sent, oldest first (an output, log 5). -/
  sent : List (List Byte)
  deriving DecidableEq, Repr

/-- The three ports. -/
structure Ports where
  office : Port
  technician : Port
  schedule : Port
  deriving DecidableEq, Repr

/-! ### Line-up and level ramp (chapters 1, 2 and 7) -/

/-- What a slot does in a power mode (R1). -/
inductive Behaviour where
  | keep | floor | drop
  deriving DecidableEq, Repr

/-- What happens to a sponsor set at a warm restart (R1). -/
inductive WarmBehaviour where
  | retain | all
  deriving DecidableEq, Repr

/-- The kind of an aim (R22); `off` is the spec's NONE. -/
inductive Aim where
  | full | floor | off
  deriving DecidableEq, Repr

/-- Ramp state (R25). -/
inductive Ramp where
  | steady | ramping
  deriving DecidableEq, Repr

/-- Level judgement (R109). -/
inductive Judgement where
  | unjudged | good | low | high | stuck
  deriving DecidableEq, Repr

/-- A slot record with its working fields (R1, R15, R6, section 2.3.1, R24, R109). -/
structure Slot where
  source : Option Nat
  tier : Nat
  sponsors : MasterSet
  target : Nat
  floorLevel : Nat
  period : Nat
  reserve : Behaviour
  conserve : Behaviour
  warm : WarmBehaviour
  owed : Bool
  sourceLost : Bool
  carrierOn : Bool
  level : Option Nat
  ramp : Ramp
  aim : Aim
  aimLevel : Nat
  stepTimer : Option Nat
  shed : Bool
  measured : Option Nat
  judgement : Judgement
  lowCount : Nat
  highCount : Nat
  clearCount : Nat
  deriving DecidableEq, Repr

/-- The cold-start slot record (R1, R34, R109). -/
def Slot.cold : Slot :=
  { source := none, tier := 0, sponsors := ⟨false, false, false⟩, target := 400, floorLevel := 300,
    period := 5, reserve := .keep, conserve := .drop, warm := .retain, owed := false,
    sourceLost := false, carrierOn := false, level := none, ramp := .steady, aim := .off,
    aimLevel := 100, stepTimer := none, shed := false, measured := none, judgement := .unjudged,
    lowCount := 0, highCount := 0, clearCount := 0 }

/-- A source: its presence line, its qualified presence state and its qualification timer (R3). -/
structure Source where
  line : Bool
  present : Bool
  timer : Option Nat
  deriving DecidableEq, Repr

/-- A source at reset. DESIGN CHOICE (log 3), unsafe: the line is high at the first power-up. R5 then
takes PRESENT from it. -/
def Source.cold : Source := { line := true, present := true, timer := none }

/-- The power mode (R20). -/
inductive PowerMode where
  | mains | reserve | conserve
  deriving DecidableEq, Repr

/-- The supply lines, their qualified states (HIGH as `true`), their timers and the mode (R19, R20). -/
structure Power where
  mainsLine : Bool
  reserveLine : Bool
  mainsQ : Bool
  reserveQ : Bool
  mainsTimer : Option Nat
  reserveTimer : Option Nat
  mode : PowerMode
  deriving DecidableEq, Repr

/-- Resolution of the level monitor (R109). -/
inductive Resolution where
  | fine | coarse
  deriving DecidableEq, Repr

/-- The conversion in progress (R112): its slot, the resolution it began with, when its dwell ends, and
whether a change of the slot's carrier or ramp state has disturbed it (R115). -/
structure Conversion where
  slot : Nat
  resolution : Resolution
  expiry : Nat
  disturbed : Bool
  deriving DecidableEq, Repr

/-- The level monitor (R109). -/
structure Monitor where
  enable : Bool
  resolution : Resolution
  tolerance : Nat
  hysteresis : Nat
  persistence : Nat
  settling : Bool
  cursor : Nat
  conversion : Option Conversion
  deriving DecidableEq, Repr

/-! ### Subscribers and taps (chapters 3, 9 and 10) -/

/-- Status of a subscriber record (R36). -/
inductive SubStatus where
  | free | active | removed
  deriving DecidableEq, Repr

/-- Settlement of a purchase entry (R155); `unsettled` is the spec's OPEN. -/
inductive Settlement where
  | unsettled | charged | refunded
  deriving DecidableEq, Repr

/-- A purchase entry (R155). -/
structure Purchase where
  event : Nat
  v : Nat
  kev : Nat
  pev : Nat
  settlement : Settlement
  charge : Option Nat
  deriving DecidableEq, Repr

/-- The counters S_t, K_t and P_t of one tier (R139). -/
structure TierCount where
  s : Nat
  k : Nat
  p : Nat
  deriving DecidableEq, Repr

/-- Counters at 0. -/
def TierCount.cold : TierCount := ⟨0, 0, 0⟩

/-- A subscriber record (R36). -/
structure Subscriber where
  status : SubStatus
  tap : Option Nat
  port : Option Nat
  w : TierSet
  c : TierSet
  locked : Bool
  purchases : List Purchase
  counters : Table TierCount
  deriving DecidableEq, Repr

/-- A FREE record (R36). -/
def Subscriber.cold : Subscriber :=
  { status := .free, tap := none, port := none, w := 0, c := 0, locked := false, purchases := [],
    counters := [] }

/-- One value for each of a tap's ports 1–4. -/
structure Quad (α : Type) where
  p1 : α
  p2 : α
  p3 : α
  p4 : α
  deriving DecidableEq, Repr

/-- Reachability of a tap (R39). -/
inductive Reach where
  | unknown | reachable | unreachable
  deriving DecidableEq, Repr

/-- Sync status of a tap (R39). -/
inductive SyncStatus where
  | inStep | queued | inFlight | failed | mismatch
  deriving DecidableEq, Repr

/-- The masks of the last PORT SET granted to a tap and the revision current at that grant (R39). -/
structure LastSent where
  masks : Quad TierSet
  revision : Nat
  deriving DecidableEq, Repr

/-- A tap record (R39). -/
structure Tap where
  installed : Bool
  branch : Option Nat
  reach : Reach
  heldRev : Option Nat
  reported : Quad (Option TierSet)
  housingOpen : Bool
  sync : SyncStatus
  lastSent : Option LastSent
  deriving DecidableEq, Repr

/-- The cold-start tap record (R39). -/
def Tap.cold : Tap :=
  { installed := false, branch := none, reach := .unknown, heldRev := none,
    reported := ⟨none, none, none, none⟩, housingOpen := false, sync := .inStep, lastSent := none }

/-! ### The control carrier (chapters 4 and 5) -/

/-- Unit classes (R59). -/
inductive UnitClass where
  | tap | station | allTaps
  deriving DecidableEq, Repr

/-- The four requesters (chapter 5). -/
inductive Requester where
  | broadcast | technician | sync | survey
  deriving DecidableEq, Repr

/-- A tier map: the 40 slot tiers in slot order, with the revision (R7). -/
structure TierMap where
  revision : Nat
  tiers : List Nat
  deriving DecidableEq, Repr

/-- The five commands with their content (R61). -/
inductive Command where
  | portSet (masks : Quad TierSet) (map : Option TierMap)
  | portRead
  | echo (token : List Byte)
  | stationPoll
  | mapLoad (map : TierMap)
  deriving DecidableEq, Repr

/-- How an attempt fails (R63). -/
inductive Failure where
  | noReply | faultyReply
  deriving DecidableEq, Repr

/-- The outcome of a transaction (R67). -/
inductive TxnOutcome where
  | done | noReply | faultyReply | carrierOff
  deriving DecidableEq, Repr

/-- The transaction the engine holds (R63). The reply window is in ms. -/
structure Txn where
  requester : Requester
  cls : UnitClass
  addr : Nat
  cmd : Command
  limit : Nat
  windowMs : Nat
  used : Nat
  lastFailure : Option Failure
  deriving DecidableEq, Repr

/-- State of the engine (section 4.3.1). -/
inductive EngineState where
  | idle | sending | awaiting
  deriving DecidableEq, Repr

/-- Receive status of a return frame (R72). -/
inductive RxStatus where
  | framingFault | checkFault | intact
  deriving DecidableEq, Repr

/-- A frame in the reply buffer (R73): its bytes, check byte last, its status and its OVERRUN mark. -/
structure Frame where
  bytes : List Byte
  status : RxStatus
  overrun : Bool
  deriving DecidableEq, Repr

/-- The control carrier engine (R63, R71 to R77). -/
structure Engine where
  state : EngineState
  txn : Option Txn
  window : Option Nat
  buffer : List Frame
  /-- The receiver is within a frame (R71). -/
  inFrame : Bool
  carrierOn : Bool
  returnOn : Bool
  noiseCount : Nat
  noiseActive : Bool
  deriving DecidableEq, Repr

/-- The link settings of the engine (R78). The reply window is in units of 10 ms. -/
structure Link where
  window : Nat
  retries : Nat
  repeats : Nat
  auditInterval : Nat
  deriving DecidableEq, Repr

/-- The broadcast requester (R69, R70). -/
structure Broadcast where
  wanted : Bool
  remaining : Nat
  revisionSent : Nat
  deriving DecidableEq, Repr

/-- Arbitration mode (R81). -/
inductive ArbMode where
  | fixed | rotating
  deriving DecidableEq, Repr

/-- The carrier arbiter (R81). -/
structure Arbiter where
  mode : ArbMode
  order : List Requester
  deriving DecidableEq, Repr

/-- The technician's three queries (R88). -/
inductive QueryKind where
  | tapQuery | tapEcho | stationQuery
  deriving DecidableEq, Repr

/-- An entry of the technician queue (R88); the token is empty but for a TAP ECHO. -/
structure Query where
  number : Nat
  kind : QueryKind
  addr : Nat
  token : List Byte
  deriving DecidableEq, Repr

/-- The technician queue (R88). -/
structure TechQueue where
  waiting : List Query
  inFlight : Option Query
  nextNumber : Nat
  deriving DecidableEq, Repr

/-! ### Plant survey (chapter 6) -/

/-- State of a watch (R95). -/
inductive WatchState where
  | unwatched | watching | pollDue | polled | silent
  deriving DecidableEq, Repr

/-- The recovery poll of a SILENT record (R95); `noPoll` is the spec's NONE. -/
inductive Recovery where
  | noPoll | waiting | due | polled
  deriving DecidableEq, Repr

/-- Supply state of a station (R62). -/
inductive Supply where
  | mains | standby | failed
  deriving DecidableEq, Repr

/-- A station status (R62). -/
structure StationReport where
  supply : Supply
  doorOpen : Bool
  level : Nat
  deriving DecidableEq, Repr

/-- A watch record (R95); times are readings of the survey clock in ms. -/
structure Watch where
  state : WatchState
  interval : Nat
  lastGood : Option Nat
  due : Option Nat
  deadline : Option Nat
  deadlinePassed : Bool
  recovery : Recovery
  recoveryDue : Option Nat
  lastReport : Option StationReport
  deriving DecidableEq, Repr

/-- The cold-start watch record (R95). -/
def Watch.cold : Watch :=
  { state := .unwatched, interval := 300, lastGood := none, due := none, deadline := none,
    deadlinePassed := false, recovery := .noPoll, recoveryDue := none, lastReport := none }

/-- The survey clock and the audit state (R94, R103). -/
structure Survey where
  clock : Nat
  cursor : Nat
  /-- When the audit step timer expires, a reading of the survey clock. -/
  auditTimer : Nat
  stepDue : Bool
  auditInFlight : Option Nat
  deriving DecidableEq, Repr

/-! ### Outages and alarms (chapter 8) -/

/-- A branch record (R122); `out` is the state OUT. -/
structure Branch where
  defined : Bool
  parent : Option Nat
  station : Bool
  interval : Nat
  forced : Bool
  silent : Bool
  supplyFailed : Bool
  installedTaps : Nat
  unreachableTaps : Nat
  out : Bool
  affected : Bool
  shadowed : Bool
  deriving DecidableEq, Repr

/-- The cold-start branch record (R122). -/
def Branch.cold : Branch :=
  { defined := false, parent := none, station := false, interval := 300, forced := false,
    silent := false, supplyFailed := false, installedTaps := 0, unreachableTaps := 0, out := false,
    affected := false, shadowed := false }

/-- An outage episode (R127); `isOpen` is the spec's open. -/
structure Episode where
  isOpen : Bool
  start : Option Nat
  age : Nat
  deriving DecidableEq, Repr

/-- A closed episode (R127). -/
def Episode.cold : Episode := { isOpen := false, start := none, age := 0 }

/-- The alarm kinds in the order of the table of R129. -/
inductive AlarmKind where
  | branchOut | stationSilent | stationSupplyFailed | stationOnStandby | stationDoorOpen
  | tapUnreachable | tapMismatch | tapHousingOpen | sourceLost | slotLow | slotHigh | slotStuck
  | powerReserve | powerConserve | monitorOff | returnNoise | accrualOverrun | cycleOverdue
  deriving DecidableEq, Repr

/-- Severity (R129, R130). -/
inductive Severity where
  | minor | major | critical
  deriving DecidableEq, Repr

/-- Alarm class (R129). -/
inductive AlarmClass where
  | plant | headend | billing
  deriving DecidableEq, Repr

/-- State of an alarm record (R130). -/
inductive AlarmState where
  | active | cleared
  deriving DecidableEq, Repr

/-- An alarm record (R130). The severity is fixed by the kind; the object is 0 for the head end. -/
structure AlarmRecord where
  serial : Nat
  kind : AlarmKind
  object : Nat
  state : AlarmState
  raised : Nat
  cleared : Option Nat
  recurrence : Nat
  audience : MasterSet
  acked : MasterSet
  deriving DecidableEq, Repr

/-- The alarm list (R130) and the three audience filters (R131). -/
structure Alarms where
  records : List AlarmRecord
  incomplete : Bool
  nextSerial : Nat
  officeFilter : ClassSet
  technicianFilter : ClassSet
  scheduleFilter : ClassSet
  deriving DecidableEq, Repr

/-! ### Accrual, events and statements (chapters 9 to 11) -/

/-- A sweep in flight (R139): its cursor and its shown event. -/
structure Sweep where
  cursor : Nat
  shown : Option Nat
  deriving DecidableEq, Repr

/-- The accrual engine (R139), the waiting close (R162) and the rates (R161). -/
structure Billing where
  clock : Nat
  cycle : Nat
  m : Nat
  tc : Nat
  sweep : Option Sweep
  tickPending : Bool
  halted : Bool
  overrun : Bool
  clean : Nat
  /-- When the minute timer expires (R140). -/
  minuteTimer : Nat
  closeWaiting : Bool
  rates : Table Nat
  deriving DecidableEq, Repr

/-- State of an event (R150). -/
inductive EventState where
  | free | scheduled | showing | ended | cancelled
  deriving DecidableEq, Repr

/-- An event record (R150). -/
structure Event where
  state : EventState
  slot : Option Nat
  start : Option Nat
  duration : Option Nat
  ends : Option Nat
  price : Option Nat
  buyers : Nat
  shown : Nat
  deriving DecidableEq, Repr

/-- A FREE event record (R150). -/
def Event.cold : Event :=
  { state := .free, slot := none, start := none, duration := none, ends := none, price := none,
    buyers := 0, shown := 0 }

/-- A settled purchase in a snapshot (R163). -/
structure SettledLine where
  event : Nat
  price : Nat
  settlement : Settlement
  charge : Nat
  deriving DecidableEq, Repr

/-- A subscriber entry of a snapshot (R163). -/
structure SnapshotEntry where
  number : Nat
  status : SubStatus
  tap : Option Nat
  port : Option Nat
  counters : Table TierCount
  lines : List SettledLine
  deriving DecidableEq, Repr

/-- The snapshot of the last closed cycle (R163). -/
structure Snapshot where
  cycle : Nat
  m : Nat
  rates : Table Nat
  entries : List SnapshotEntry
  deriving DecidableEq, Repr

/-- What IDENTIFY reports (R174). -/
structure Ident where
  coldStarted : Bool
  restarts : Nat
  deriving DecidableEq, Repr

/-! ### Outputs -/

/-- A message on the modulator control output (R32): OFF without a level, ON with one. -/
structure ModulatorMsg where
  slot : Nat
  level : Option Nat
  deriving DecidableEq, Repr

/-- A message on the source selector output (R33): the source number, or 0 for none. -/
structure SelectorMsg where
  slot : Nat
  source : Nat
  deriving DecidableEq, Repr

/-- What has left the part towards the plant, oldest first (log 5), and the slot-select output: the slot the
detector's multiplexer is set to, none while the output is not driven (R110, R112). -/
structure Outputs where
  modulator : List ModulatorMsg
  selector : List SelectorMsg
  carrier : List (List Byte)
  slotSelect : Option Nat
  deriving DecidableEq, Repr

/-! ### The state -/

/-- The whole state: the queue of waiting commands, the model's time and free-value index, and the state
of every block of 00_scope section 2. -/
structure State where
  /-- Commands waiting, first in, first out. -/
  pending : List Instr
  /-- Milliseconds since power-up (the model's own, log 1). -/
  now : Nat
  /-- Index of the next free value (the model's own, log 4). -/
  freeIdx : Nat
  ports : Ports
  sources : Table Source
  slots : Table Slot
  revision : Nat
  power : Power
  subs : Table Subscriber
  taps : Table Tap
  syncSet : List Nat
  engine : Engine
  link : Link
  broadcast : Broadcast
  arbiter : Arbiter
  techQ : TechQueue
  watches : Table Watch
  survey : Survey
  monitor : Monitor
  branches : Table Branch
  tierCount : Table Nat
  branchEpisodes : Table Episode
  tierEpisodes : Table Episode
  alarms : Alarms
  billing : Billing
  events : Table Event
  snapshot : Option Snapshot
  ident : Ident
  out : Outputs
  deriving DecidableEq, Repr

/-! ### The machine right after reset -/

/-- The slot numbers 1–40. -/
def slotNumbers : List Nat := List.range' 1 40

/-- The part-started notice of a cold start (R173, R176): kind 166, tag 0, COLD-STARTED 0 and restart
count 0. -/
def coldStartedNotice : Msg := { kind := 166, tag := 0, body := [0, 0, 0] }

/-- The notice of the MONITOR_OFF alarm raised at the cold start (R110, R132, R138): serial 1, kind 14
of the table of R129, head end, MINOR, ACTIVE, raised in minute 0, recurrence 0. -/
def monitorOffNotice : Msg :=
  { kind := 160, tag := 0, body := [0, 1, 14, 0, 0, 0, 0, 0, 0, 0, 0, 0] }

/-- A port after the cold start, with the notices of that start (R176). DESIGN CHOICE (log 3), unsafe:
both straps are low, which selects 9,600 bit/s. -/
def Port.cold (notices : List Msg) : Port :=
  { rx := .hunting, byteTimer := none, inQ := [], inProgress := none, outQ := notices,
    missed := false, straps := ⟨false, false⟩, rate := 9600, sent := [] }

/-- The fixed order of the requesters (R81). -/
def fixedOrder : List Requester := [.broadcast, .technician, .sync, .survey]

/-- The state right after reset: the cold start of a first power-up (R176), with the input lines at the
levels log 3 names and nothing yet sent but what the cold start itself sends (R34). -/
def State.reset : State :=
  { pending := []
    now := 0
    freeIdx := 0
    ports :=
      { office := .cold [coldStartedNotice]
        technician := .cold [coldStartedNotice, monitorOffNotice]
        schedule := .cold [coldStartedNotice, monitorOffNotice] }
    sources := []
    slots := []
    revision := 1
    power :=
      { mainsLine := true, reserveLine := false, mainsQ := true, reserveQ := false,
        mainsTimer := none, reserveTimer := none, mode := .mains }
    subs := []
    taps := []
    syncSet := []
    engine :=
      { state := .idle, txn := none, window := none, buffer := [], inFrame := false,
        carrierOn := false, returnOn := false, noiseCount := 0, noiseActive := false }
    link := { window := 6, retries := 2, repeats := 3, auditInterval := 5 }
    broadcast := { wanted := true, remaining := 3, revisionSent := 0 }
    arbiter := { mode := .fixed, order := fixedOrder }
    techQ := { waiting := [], inFlight := none, nextNumber := 1 }
    watches := []
    survey := { clock := 0, cursor := 1, auditTimer := 5000, stepDue := false, auditInFlight := none }
    monitor :=
      { enable := false, resolution := .fine, tolerance := 30, hysteresis := 10, persistence := 3,
        settling := false, cursor := 1, conversion := none }
    branches := []
    tierCount := []
    branchEpisodes := []
    tierEpisodes := []
    alarms :=
      { records :=
          [{ serial := 1, kind := .monitorOff, object := 0, state := .active, raised := 0,
             cleared := none, recurrence := 0, audience := ⟨false, true, true⟩,
             acked := ⟨false, false, false⟩ }]
        incomplete := false
        nextSerial := 2
        officeFilter := ⟨true, false, true⟩
        technicianFilter := ⟨true, true, true⟩
        scheduleFilter := ⟨false, true, false⟩ }
    billing :=
      { clock := 0, cycle := 1, m := 0, tc := 30, sweep := none, tickPending := false,
        halted := false, overrun := false, clean := 0, minuteTimer := 60000,
        closeWaiting := false, rates := [] }
    events := []
    snapshot := none
    ident := { coldStarted := true, restarts := 0 }
    out :=
      { modulator := slotNumbers.map fun n => ⟨n, none⟩
        selector := slotNumbers.map fun n => ⟨n, 0⟩
        carrier := []
        slotSelect := none } }

end Sys2Proof.Machine
end

