-- ==== Sys2Proof/Machine/Ops.lean ====
section
/-! DEFINITION. The shared operations: tables of records, the passing of time, the wire forms of
numbers and frames, the output queues of the master ports and the outputs towards the plant. -/

namespace Sys2Proof.Machine

/-! ### Tables -/

/-- The record of number `k`, the cold record `d` where none is listed. -/
def tabGet {α : Type} (d : α) : Table α → Nat → α
  | [], _ => d
  | (j, v) :: t, k => if j = k then v else tabGet d t k

/-- Write record `k`, keeping the numbers rising and no record equal to the cold record `d`. -/
def tabPut {α : Type} [DecidableEq α] (d : α) : Table α → Nat → α → Table α
  | [], k, v => if v = d then [] else [(k, v)]
  | (j, u) :: t, k, v =>
    if k < j then (if v = d then (j, u) :: t else (k, v) :: (j, u) :: t)
    else if k = j then (if v = d then t else (k, v) :: t)
    else (j, u) :: tabPut d t k v

/-- The canonical form: numbers rising, no listed record equal to the cold record. -/
def tabWf {α : Type} [DecidableEq α] (d : α) : Table α → Bool
  | [] => true
  | (_, v) :: [] => decide (v ≠ d)
  | (j, v) :: (k, u) :: t => decide (v ≠ d) && decide (j < k) && tabWf d ((k, u) :: t)

/-- The numbers of the listed records that satisfy `f`, in order. -/
def tabWhere {α : Type} (f : Nat → α → Bool) (t : Table α) : List Nat :=
  (t.filter fun e => f e.1 e.2).map Prod.fst

/-- Apply `f` to every listed record; a record that becomes cold is no longer listed. -/
def tabMap {α : Type} [DecidableEq α] (d : α) (f : α → α) (t : Table α) : Table α :=
  t.foldl (fun acc e => tabPut d acc e.1 (f e.2)) []

/-! ### The tables of the state -/

/-- Source record `n`. -/
def State.source (s : State) (n : Nat) : Source := tabGet .cold s.sources n
/-- Slot record `n`. -/
def State.slot (s : State) (n : Nat) : Slot := tabGet .cold s.slots n
/-- Subscriber record `n`. -/
def State.sub (s : State) (n : Nat) : Subscriber := tabGet .cold s.subs n
/-- Tap record `n`. -/
def State.tap (s : State) (n : Nat) : Tap := tabGet .cold s.taps n
/-- Watch record `n`. -/
def State.watch (s : State) (n : Nat) : Watch := tabGet .cold s.watches n
/-- Branch record `n`. -/
def State.branch (s : State) (n : Nat) : Branch := tabGet .cold s.branches n
/-- Event record `n`. -/
def State.event (s : State) (n : Nat) : Event := tabGet .cold s.events n
/-- Episode of branch `n`. -/
def State.branchEpisode (s : State) (n : Nat) : Episode := tabGet .cold s.branchEpisodes n
/-- Episode of tier `t`. -/
def State.tierEpisode (s : State) (t : Nat) : Episode := tabGet .cold s.tierEpisodes t

/-- Write source record `n`. -/
def State.setSource (s : State) (n : Nat) (v : Source) : State :=
  { s with sources := tabPut .cold s.sources n v }
/-- Write slot record `n`. -/
def State.setSlot (s : State) (n : Nat) (v : Slot) : State :=
  { s with slots := tabPut .cold s.slots n v }
/-- Write subscriber record `n`. -/
def State.setSub (s : State) (n : Nat) (v : Subscriber) : State :=
  { s with subs := tabPut .cold s.subs n v }
/-- Write tap record `n`. -/
def State.setTap (s : State) (n : Nat) (v : Tap) : State :=
  { s with taps := tabPut .cold s.taps n v }
/-- Write watch record `n`. -/
def State.setWatch (s : State) (n : Nat) (v : Watch) : State :=
  { s with watches := tabPut .cold s.watches n v }
/-- Write branch record `n`. -/
def State.setBranch (s : State) (n : Nat) (v : Branch) : State :=
  { s with branches := tabPut .cold s.branches n v }
/-- Write event record `n`. -/
def State.setEvent (s : State) (n : Nat) (v : Event) : State :=
  { s with events := tabPut .cold s.events n v }
/-- Write the episode of branch `n`. -/
def State.setBranchEpisode (s : State) (n : Nat) (v : Episode) : State :=
  { s with branchEpisodes := tabPut .cold s.branchEpisodes n v }
/-- Write the episode of tier `t`. -/
def State.setTierEpisode (s : State) (t : Nat) (v : Episode) : State :=
  { s with tierEpisodes := tabPut .cold s.tierEpisodes t v }

/-- The port of master `p`. -/
def State.port (s : State) : Master → Port
  | .office => s.ports.office
  | .technician => s.ports.technician
  | .schedule => s.ports.schedule

/-- Write the port of master `p`. -/
def State.setPort (s : State) (p : Master) (v : Port) : State :=
  match p with
  | .office => { s with ports := { s.ports with office := v } }
  | .technician => { s with ports := { s.ports with technician := v } }
  | .schedule => { s with ports := { s.ports with schedule := v } }

/-! ### Time -/

/-- The greatest reading of the survey clock (R94). -/
def surveyClockMax : Nat := 281474976710655

/-- `d` ms pass. The survey clock advances while the return enable is ON and holds while it is OFF (R94).
DESIGN CHOICE (log 1): the other timers run on `now`. Past its greatest reading the survey clock
holds a free value of its range (log 4). -/
def passTime (d : Nat) (s : State) : State :=
  if s.engine.returnOn then
    if s.survey.clock + d ≤ surveyClockMax then
      { s with now := s.now + d, survey := { s.survey with clock := s.survey.clock + d } }
    else
      { s with
        now := s.now + d
        freeIdx := s.freeIdx + 1
        survey :=
          { s.survey with clock := Config.surveyClockPastEnd s.freeIdx % (surveyClockMax + 1) } }
  else { s with now := s.now + d }

/-- Time goes on to `t` ms, or stands where it is already later (log 1): what the expiry of a timer
that runs out at `t` says. -/
def advanceTo (t : Nat) (s : State) : State := passTime (t - s.now) s

/-- Whether the survey clock can reach the reading `t`: it has, or it runs (R94). -/
def surveyReaches (t : Nat) (s : State) : Bool :=
  s.engine.returnOn || decide (t ≤ s.survey.clock)

/-- The survey clock goes on to the reading `t`, or stands where it is already later. -/
def advanceSurveyTo (t : Nat) (s : State) : State := passTime (t - s.survey.clock) s

/-! ### Numbers on the wire (R177) -/

/-- A number in 1 byte. -/
def u8 (n : Nat) : List Byte := [BitVec.ofNat 8 n]
/-- A number in 2 bytes, most significant first. -/
def u16 (n : Nat) : List Byte := [BitVec.ofNat 8 (n / 256), BitVec.ofNat 8 n]
/-- A number in 4 bytes, most significant first. -/
def u32 (n : Nat) : List Byte :=
  [BitVec.ofNat 8 (n / 16777216), BitVec.ofNat 8 (n / 65536), BitVec.ofNat 8 (n / 256),
   BitVec.ofNat 8 n]
/-- A yes or no field: no 0, yes 1. Also the monitor's enable, OFF 0, ON 1, as the MONITOR SET row of R177 codes it
(DEDUCED, log 13), and a condition that is active or not (DESIGN CHOICE, log 36). -/
def yesNo (b : Bool) : List Byte := [if b then 1 else 0]
/-- A choice between ON and OFF, which its rule lists in that order (R1, section 4.6): ON 0, OFF 1 (R177). -/
def onOff (b : Bool) : List Byte := [if b then 0 else 1]
/-- A choice between open and closed, which its rule lists in that order (R62, R95): open 0, closed 1 (R177). -/
def openClosed (b : Bool) : List Byte := [if b then 0 else 1]
/-- An optional number whose range includes 0: a byte of 1 and the number, or a byte of 0. -/
def optNum (enc : Nat → List Byte) : Option Nat → List Byte
  | none => [0]
  | some n => 1 :: enc n
/-- An optional number whose range excludes 0: absent is sent as 0. -/
def optZero (enc : Nat → List Byte) (n : Option Nat) : List Byte := enc (n.getD 0)
/-- A set of masters: bit 0 office, bit 1 technician, bit 2 schedule. -/
def MasterSet.byte (m : MasterSet) : List Byte :=
  u8 ((if m.office then 1 else 0) + (if m.technician then 2 else 0) + (if m.schedule then 4 else 0))
/-- A set of classes: bit 0 PLANT, bit 1 HEADEND, bit 2 BILLING. -/
def ClassSet.byte (c : ClassSet) : List Byte :=
  u8 ((if c.plant then 1 else 0) + (if c.headend then 2 else 0) + (if c.billing then 4 else 0))
/-- A list: its number of items in a byte, then the items. -/
def listOf {α : Type} (enc : α → List Byte) (l : List α) : List Byte :=
  u8 l.length ++ l.flatMap enc

/-- Whether tier `t` is in the set. -/
def hasTier (m : TierSet) (t : Nat) : Bool := m.getLsbD t

/-- The four values of a quad, port 1 first. -/
def Quad.toList {α : Type} (q : Quad α) : List α := [q.p1, q.p2, q.p3, q.p4]
/-- The value for port `n` (1–4; port 4 for any other number). -/
def Quad.get {α : Type} (q : Quad α) (n : Nat) : α :=
  if n = 1 then q.p1 else if n = 2 then q.p2 else if n = 3 then q.p3 else q.p4
/-- The quad of a function's values at ports 1–4. -/
def Quad.of {α : Type} (f : Nat → α) : Quad α := ⟨f 1, f 2, f 3, f 4⟩

/-! ### Checks -/

/-- One bit of the CRC-16 with polynomial x^16 + x^12 + x^5 + 1, not reflected (R168). -/
def crc16Bit (c : BitVec 16) : BitVec 16 := if c.getLsbD 15 then (c <<< 1) ^^^ 0x1021#16 else c <<< 1

/-- One byte of the CRC-16. -/
def crc16Byte (c : BitVec 16) (b : Byte) : BitVec 16 :=
  let x := c ^^^ (b.zeroExtend 16 <<< 8)
  crc16Bit (crc16Bit (crc16Bit (crc16Bit (crc16Bit (crc16Bit (crc16Bit (crc16Bit x)))))))

/-- The check of a master message over the bytes from the length on, initial value all ones (R168). -/
def crc16 (bytes : List Byte) : BitVec 16 := bytes.foldl crc16Byte 0xFFFF#16

/-- One bit of the 8-bit check with polynomial x^8 + x^2 + x + 1 (R72). DESIGN CHOICE (log 44): the most significant bit of
a byte comes first, and the check is neither reflected nor inverted at the end, as R168 says of the CRC-16. -/
def crc8Bit (c : Byte) : Byte := if c.getLsbD 7 then (c <<< 1) ^^^ 0x07#8 else c <<< 1

/-- One byte of the 8-bit check. -/
def crc8Byte (c b : Byte) : Byte :=
  let x := c ^^^ b
  crc8Bit (crc8Bit (crc8Bit (crc8Bit (crc8Bit (crc8Bit (crc8Bit (crc8Bit x)))))))

/-- The check of a control carrier frame, initial value 0 (R72, R177). -/
def crc8 (bytes : List Byte) : Byte := bytes.foldl crc8Byte 0

/-- A frame of the control carrier: its bytes followed by the check over them (R177). -/
def withCrc8 (bytes : List Byte) : List Byte := bytes ++ [crc8 bytes]

/-- The bytes from the length through the last byte of the body (R168). -/
def Msg.checkedPart (m : Msg) : List Byte :=
  BitVec.ofNat 8 (m.body.length + 4) :: m.kind :: m.tag :: m.body

/-- A whole master message: start marker 165, length, kind, tag, body, check (R168, R177). -/
def Msg.frame (m : Msg) : List Byte :=
  165 :: (m.checkedPart ++ u16 (crc16 m.checkedPart).toNat)

/-! ### Answers and notices (R172, R173, R177) -/

/-- The answer codes (section 12.4). -/
inductive AnswerCode where
  | done | accepted | notPermitted | malformed | outOfRange | notFound | conflict | full | wrongState
  deriving DecidableEq, Repr

/-- The byte of an answer code (R177). -/
def AnswerCode.byte : AnswerCode → Byte
  | .done => 0 | .accepted => 1 | .notPermitted => 2 | .malformed => 3 | .outOfRange => 4
  | .notFound => 5 | .conflict => 6 | .full => 7 | .wrongState => 8

/-- An answer before it is framed: its code and its content, empty for a refusal. -/
structure Ans where
  code : AnswerCode
  content : List Byte
  deriving DecidableEq, Repr

/-- A refusal. -/
def refuse (c : AnswerCode) : Ans := ⟨c, []⟩

/-- DONE with content. -/
def answerDone (content : List Byte) : Ans := ⟨.done, content⟩

/-- The kind of a request as an answer names it: 0 for a kind the catalogue does not hold (R177). -/
def requestKind (k : Byte) : Byte := if 1 ≤ k.toNat ∧ k.toNat ≤ 45 then k else 0

/-- The message of an answer: kind 128, the request's tag, code, request kind, flags and content. -/
def answerMsg (req : Msg) (missed : Bool) (a : Ans) : Msg :=
  { kind := 128, tag := req.tag,
    body := a.code.byte :: requestKind req.kind :: (if missed then 1 else 0) :: a.content }

/-- Place an answer at the back of the output queue of `p`, without condition. It carries the
notices-missed flag, which it makes no (R172). -/
def putAnswer (p : Master) (req : Msg) (a : Ans) (s : State) : State :=
  let q := s.port p
  s.setPort p { q with outQ := q.outQ ++ [answerMsg req q.missed a], missed := false }

/-- Place a notice in the output queue of `p` while it holds fewer than 15 messages; otherwise the notice is
dropped and the notices-missed flag becomes yes (R172). -/
def putNotice (p : Master) (kind : Byte) (body : List Byte) (s : State) : State :=
  let q := s.port p
  if q.outQ.length < 15 then
    s.setPort p { q with outQ := q.outQ ++ [{ kind := kind, tag := 0, body := body }] }
  else s.setPort p { q with missed := true }

/-- Whether master `p` is in the set. -/
def MasterSet.has (m : MasterSet) : Master → Bool
  | .office => m.office
  | .technician => m.technician
  | .schedule => m.schedule

/-- The set with `p` in it, or out of it. -/
def MasterSet.put (m : MasterSet) (p : Master) (b : Bool) : MasterSet :=
  match p with
  | .office => { m with office := b }
  | .technician => { m with technician := b }
  | .schedule => { m with schedule := b }

/-- Whether a set of masters is empty. -/
def MasterSet.isEmpty (m : MasterSet) : Bool := !(m.office || m.technician || m.schedule)

/-- All three masters. -/
def allMasters : MasterSet := ⟨true, true, true⟩

/-- No master. -/
def noMasters : MasterSet := ⟨false, false, false⟩

/-- Place a notice on the port of `p` if `p` is in the set. -/
def noticeIf (aud : MasterSet) (p : Master) (kind : Byte) (body : List Byte) (s : State) : State :=
  if aud.has p then putNotice p kind body s else s

/-- Place a notice on the port of each master of the set (R173). -/
def noticeTo (aud : MasterSet) (kind : Byte) (body : List Byte) (s : State) : State :=
  noticeIf aud .schedule kind body
    (noticeIf aud .technician kind body (noticeIf aud .office kind body s))

/-! ### Outputs towards the plant -/

/-- Send a modulator control message for slot `n` (R32). -/
def sendModulator (n : Nat) (level : Option Nat) (s : State) : State :=
  { s with out := { s.out with modulator := s.out.modulator ++ [⟨n, level⟩] } }

/-- Send a source selector message for slot `n`: the source number, or 0 for none (R33). -/
def sendSelector (n : Nat) (source : Option Nat) (s : State) : State :=
  { s with out := { s.out with selector := s.out.selector ++ [⟨n, source.getD 0⟩] } }

/-- Transmit frames on the control carrier. -/
def sendCarrier (frames : List (List Byte)) (s : State) : State :=
  { s with out := { s.out with carrier := s.out.carrier ++ frames } }

/-- Fold a step of the machine over a list of numbers, in order. -/
def forEach (l : List Nat) (f : Nat → State → State) (s : State) : State :=
  l.foldl (fun s n => f n s) s

end Sys2Proof.Machine
end

