-- ==== Sys2Proof/Machine/Operands.lean ====
section
/-! DEFINITION. Every operand form of the commands: the bodies of the requests (R177) and the fields of
the return frames. A body that does not fit its form, or that holds a choice or presence bit
beyond its list, has no reading: the request is MALFORMED (R171). -/

namespace Sys2Proof.Machine

/-! ### Fields -/

/-- A number of 1 byte. -/
def get8 : List Byte → Option (Nat × List Byte)
  | a :: r => some (a.toNat, r)
  | [] => none
/-- A number of 2 bytes, most significant first. -/
def get16 : List Byte → Option (Nat × List Byte)
  | a :: b :: r => some (a.toNat * 256 + b.toNat, r)
  | _ => none
/-- A number of 4 bytes, most significant first. -/
def get32 : List Byte → Option (Nat × List Byte)
  | a :: b :: c :: d :: r =>
    some (a.toNat * 16777216 + b.toNat * 65536 + c.toNat * 256 + d.toNat, r)
  | _ => none
/-- A set of tiers, or a byte taken as bits. -/
def getByte : List Byte → Option (Byte × List Byte)
  | a :: r => some (a, r)
  | [] => none
/-- A choice among `n` values, by position. -/
def getChoice (n : Nat) (b : List Byte) : Option (Nat × List Byte) :=
  match get8 b with
  | some (v, r) => if v < n then some (v, r) else none
  | none => none
/-- A presence byte for a list of `n` optional fields: no bit beyond the list may be set. -/
def getPresence (n : Nat) (b : List Byte) : Option (Byte × List Byte) :=
  match getByte b with
  | some (v, r) => if v.toNat < 2 ^ n then some (v, r) else none
  | none => none
/-- An optional field, read where its presence bit says it is given. -/
def getIf {α : Type} (given : Bool) (f : List Byte → Option (α × List Byte)) (b : List Byte) :
    Option (Option α × List Byte) :=
  if given then
    match f b with
    | some (v, r) => some (some v, r)
    | none => none
  else some (none, b)
/-- The body ends here. -/
def whole {α : Type} (v : α) : List Byte → Option α
  | [] => some v
  | _ :: _ => none

/-- A none value of an identity whose range excludes 0 is sent as 0. -/
def zeroIsNone (n : Nat) : Option Nat := if n = 0 then none else some n

/-! ### Request bodies -/

/-- An empty body. -/
def parseEmpty (b : List Byte) : Option Unit := whole () b

/-- One 1-byte number. -/
def parse8 (b : List Byte) : Option Nat := do
  let (v, b) ← get8 b
  whole v b

/-- One 2-byte number. -/
def parse16 (b : List Byte) : Option Nat := do
  let (v, b) ← get16 b
  whole v b

/-- One 4-byte number. -/
def parse32 (b : List Byte) : Option Nat := do
  let (v, b) ← get32 b
  whole v b

/-- A 2-byte and a 1-byte number. -/
def parse16x8 (b : List Byte) : Option (Nat × Nat) := do
  let (v, b) ← get16 b
  let (w, b) ← get8 b
  whole (v, w) b

/-- SUBSCRIBER ADD: number if given, tap, port, W. -/
structure AddArgs where
  number : Option Nat
  tap : Nat
  port : Nat
  w : TierSet
  deriving DecidableEq, Repr

/-- The body of SUBSCRIBER ADD. DESIGN CHOICE (log 42): a presence bit beyond the list is MALFORMED before the checks of
R41. -/
def parseAdd (b : List Byte) : Option AddArgs := do
  let (p, b) ← getPresence 1 b
  let (number, b) ← getIf (p.getLsbD 0) get16 b
  let (tap, b) ← get16 b
  let (port, b) ← get8 b
  let (w, b) ← getByte b
  whole ⟨number, tap, port, w⟩ b

/-- The body of SUBSCRIBER CHANGE: number and W. -/
def parseChange (b : List Byte) : Option (Nat × TierSet) := do
  let (number, b) ← get16 b
  let (w, b) ← getByte b
  whole (number, w) b

/-- The rates given by a RATE SET, from tier `t` on, by presence bit. -/
def getRates (p : Byte) : List Nat → List Byte → Option (List (Nat × Nat) × List Byte)
  | [], b => some ([], b)
  | t :: ts, b =>
    if p.getLsbD t then
      match get32 b with
      | some (r, b) =>
        match getRates p ts b with
        | some (l, b) => some ((t, r) :: l, b)
        | none => none
      | none => none
    else getRates p ts b

/-- The body of RATE SET: the tiers given with their rates. -/
def parseRates (b : List Byte) : Option (List (Nat × Nat)) := do
  let (p, b) ← getByte b
  let (l, b) ← getRates p [0, 1, 2, 3, 4, 5, 6, 7] b
  whole l b

/-- BRANCH SET: remove, or any of parent (0 for none), station present and report interval. -/
structure BranchArgs where
  branch : Nat
  remove : Bool
  parent : Option Nat
  station : Option Bool
  interval : Option Nat
  deriving DecidableEq, Repr

/-- The body of BRANCH SET. Remove with any other field is MALFORMED. DESIGN CHOICE (log 42): this, a presence bit and a
station present beyond its list are found before the checks of R123, so before OUT_OF_RANGE; the rules give them
no place in that order. -/
def parseBranch (b : List Byte) : Option BranchArgs := do
  let (branch, b) ← get8 b
  let (p, b) ← getPresence 4 b
  let (parent, b) ← getIf (p.getLsbD 1) get8 b
  let (station, b) ← getIf (p.getLsbD 2) (getChoice 2) b
  let (interval, b) ← getIf (p.getLsbD 3) get16 b
  if p.getLsbD 0 && decide (p ≠ 1) then none
  else whole ⟨branch, p.getLsbD 0, parent, station.map (decide <| · = 1), interval⟩ b

/-- LINK SET: any of the link settings. -/
structure LinkArgs where
  window : Option Nat
  retries : Option Nat
  repeats : Option Nat
  auditInterval : Option Nat
  mode : Option ArbMode
  deriving DecidableEq, Repr

/-- The body of LINK SET. -/
def parseLink (b : List Byte) : Option LinkArgs := do
  let (p, b) ← getPresence 5 b
  let (window, b) ← getIf (p.getLsbD 0) get8 b
  let (retries, b) ← getIf (p.getLsbD 1) get8 b
  let (repeats, b) ← getIf (p.getLsbD 2) get8 b
  let (auditInterval, b) ← getIf (p.getLsbD 3) get8 b
  let (mode, b) ← getIf (p.getLsbD 4) (getChoice 2) b
  whole ⟨window, retries, repeats, auditInterval,
    mode.map fun m => if m = 0 then ArbMode.fixed else ArbMode.rotating⟩ b

/-- The body of TAP ECHO: a tap and a token of 1–8 bytes, the rest of the body. -/
def parseEcho (b : List Byte) : Option (Nat × List Byte) := do
  let (tap, token) ← get16 b
  if 1 ≤ token.length ∧ token.length ≤ 8 then some (tap, token) else none

/-- MONITOR SET: any of the monitor's settings. -/
structure MonitorArgs where
  enable : Option Bool
  resolution : Option Resolution
  tolerance : Option Nat
  hysteresis : Option Nat
  persistence : Option Nat
  deriving DecidableEq, Repr

/-- The body of MONITOR SET. -/
def parseMonitor (b : List Byte) : Option MonitorArgs := do
  let (p, b) ← getPresence 5 b
  let (enable, b) ← getIf (p.getLsbD 0) (getChoice 2) b
  let (resolution, b) ← getIf (p.getLsbD 1) (getChoice 2) b
  let (tolerance, b) ← getIf (p.getLsbD 2) get8 b
  let (hysteresis, b) ← getIf (p.getLsbD 3) get8 b
  let (persistence, b) ← getIf (p.getLsbD 4) get8 b
  whole ⟨enable.map (decide <| · = 1),
    resolution.map fun r => if r = 0 then Resolution.fine else Resolution.coarse,
    tolerance, hysteresis, persistence⟩ b

/-- SLOT SET: a slot and any of its settings; a source of 0 is none. -/
structure SlotArgs where
  slot : Nat
  source : Option Nat
  tier : Option Nat
  target : Option Nat
  floorLevel : Option Nat
  period : Option Nat
  reserve : Option Behaviour
  conserve : Option Behaviour
  warm : Option WarmBehaviour
  deriving DecidableEq, Repr

/-- KEEP 0, FLOOR 1, DROP 2. -/
def behaviourAt (n : Nat) : Behaviour := if n = 0 then .keep else if n = 1 then .floor else .drop

/-- The body of SLOT SET. -/
def parseSlot (b : List Byte) : Option SlotArgs := do
  let (slot, b) ← get8 b
  let (p, b) ← getByte b
  let (source, b) ← getIf (p.getLsbD 0) get8 b
  let (tier, b) ← getIf (p.getLsbD 1) get8 b
  let (target, b) ← getIf (p.getLsbD 2) get16 b
  let (floorLevel, b) ← getIf (p.getLsbD 3) get16 b
  let (period, b) ← getIf (p.getLsbD 4) get8 b
  let (reserve, b) ← getIf (p.getLsbD 5) (getChoice 3) b
  let (conserve, b) ← getIf (p.getLsbD 6) (getChoice 3) b
  let (warm, b) ← getIf (p.getLsbD 7) (getChoice 2) b
  whole ⟨slot, source, tier, target, floorLevel, period, reserve.map behaviourAt,
    conserve.map behaviourAt, warm.map fun w => if w = 0 then WarmBehaviour.retain else .all⟩ b

/-- EVENT SCHEDULE: slot, start minute, duration, price. -/
structure ScheduleArgs where
  slot : Nat
  start : Nat
  duration : Nat
  price : Nat
  deriving DecidableEq, Repr

/-- The body of EVENT SCHEDULE. -/
def parseSchedule (b : List Byte) : Option ScheduleArgs := do
  let (slot, b) ← get8 b
  let (start, b) ← get32 b
  let (duration, b) ← get16 b
  let (price, b) ← get16 b
  whole ⟨slot, start, duration, price⟩ b

/-- The body of AUDIENCE SET: a set of classes with no other bit. -/
def parseAudience (b : List Byte) : Option ClassSet := do
  let (c, b) ← getPresence 3 b
  whole ⟨c.getLsbD 0, c.getLsbD 1, c.getLsbD 2⟩ b

/-! ### Reply frames (R62, R177) -/

/-- The contents of a reply. -/
inductive Reply where
  | tapStatus (masks : Quad TierSet) (revision : Nat) (housingOpen : Bool)
  | stationStatus (report : StationReport)
  | echo (token : List Byte)
  deriving DecidableEq, Repr

/-- The unit class a reply frame's byte names. -/
def senderClass (b : Byte) : Option UnitClass :=
  if b = 1 then some .tap else if b = 2 then some .station else none

/-- The sender of a reply frame: its class byte and its address. -/
def frameSender : List Byte → Option (UnitClass × Nat)
  | _ :: c :: hi :: lo :: _ =>
    match senderClass c with
    | some u => some (u, hi.toNat * 256 + lo.toNat)
    | none => none
  | _ => none

/-- A field of two values: 0, 1, or what the free value `past` says of any other byte (log 27). -/
def replyBit (past : Byte → Bool) (b : Byte) : Bool := if b.toNat < 2 then decide (b = 1) else past b

/-- MAINS 0, STANDBY 1, FAILED 2, or what the free value says of any other byte (log 27). -/
def replySupply (b : Byte) : Supply :=
  let n := if b.toNat < 3 then b.toNat else Config.supplyPastList b
  if n = 0 then .mains else if n = 1 then .standby else .failed

/-- A tap status of 6 bytes. The engine does not interpret the contents (R62): whatever they are, the frame is a
tap status. -/
def readTapStatus : List Byte → Option Reply
  | [a, b, c, d, rev, housing] =>
    some (.tapStatus ⟨a, b, c, d⟩ rev.toNat (replyBit Config.housingPastList housing))
  | _ => none

/-- A station status of 4 bytes. The level is the number its two bytes hold (R62; log 27). -/
def readStationStatus : List Byte → Option Reply
  | [supply, door, hi, lo] =>
    some (.stationStatus
      ⟨replySupply supply, replyBit Config.doorPastList door, hi.toNat * 256 + lo.toNat⟩)
  | _ => none

/-- The content of a reply frame, read by its kind; none where the frame does not fit the layout, which makes
it of a kind other than expected (R177; log 15 for a frame type other than 3). -/
def frameReply : List Byte → Option Reply
  | ty :: _ :: _ :: _ :: kind :: n :: rest =>
    let content := rest.take n.toNat
    if ty ≠ 3 then none
    else if kind = 1 then readTapStatus content
    else if kind = 2 then readStationStatus content
    else if kind = 3 then
      (if 1 ≤ content.length ∧ content.length ≤ 8 then some (.echo content) else none)
    else none
  | _ => none

/-- The receive status of a complete frame (R72). -/
def frameStatus (bytes : List Byte) (stopsGood : Bool) : RxStatus :=
  if !stopsGood then .framingFault
  else if bytes.getLast? = some (crc8 bytes.dropLast) then .intact
  else .checkFault

end Sys2Proof.Machine
end

