-- ==== Sys2Proof/Machine/Flags.lean ====
section
/-! DEFINITION. The conditions the rules derive from the tables: owed, source-lost, aim, shed, impaired,
OUT, affected, desired mask, out of step, and the truth and gates of the alarm conditions. -/

namespace Sys2Proof.Machine

/-! ### Slots (chapters 1 and 2) -/

/-- R15: the sponsor set is non-empty and the source is assigned. -/
def Slot.isOwed (r : Slot) : Bool := !r.sponsors.isEmpty && r.source.isSome

/-- Whether the qualified presence state of the record's source is LOST; no source is not lost. -/
def State.sourceIsLost (s : State) (r : Slot) : Bool :=
  match r.source with
  | some n => !(s.source n).present
  | none => false

/-- The behaviour the power mode selects from the record (R22). -/
def Slot.behaviour (r : Slot) : PowerMode → Behaviour
  | .mains => .keep
  | .reserve => r.reserve
  | .conserve => r.conserve

/-- R22: the aim and the aim level of a slot in a power mode. -/
def Slot.aimIn (r : Slot) (m : PowerMode) : Aim × Nat :=
  if r.owed then
    match r.behaviour m with
    | .keep => (.full, r.target)
    | .floor => (.floor, r.floorLevel)
    | .drop => (.off, 100)
  else (.off, 100)

/-- R24: an owed slot whose power behaviour is DROP. -/
def Slot.isShed (r : Slot) (m : PowerMode) : Bool := r.owed && decide (r.behaviour m = .drop)

/-- R31: carrier ON, STEADY and aim FLOOR. -/
def Slot.atFloor (r : Slot) : Bool :=
  r.carrierOn && decide (r.ramp = .steady) && decide (r.aim = .floor)

/-- The mode of R20's table for the two qualified states. -/
def powerModeOf (mainsQ reserveQ : Bool) : PowerMode :=
  if mainsQ then .mains else if reserveQ then .conserve else .reserve

/-! ### Events -/

/-- The event that is SHOWING, if any (R150). -/
def State.showingEvent (s : State) : Option Nat :=
  (tabWhere (fun _ e => decide (e.state = .showing)) s.events).head?

/-- Whether slot `n` is the slot of a SCHEDULED or SHOWING event (R9). -/
def State.isEventSlot (s : State) (n : Nat) : Bool :=
  s.events.any fun e =>
    decide (e.2.slot = some n) && (decide (e.2.state = .scheduled) || decide (e.2.state = .showing))

/-- Whether slot `n` is the slot of the SHOWING event (R126). -/
def State.isShowingSlot (s : State) (n : Nat) : Bool :=
  s.events.any fun e => decide (e.2.slot = some n) && decide (e.2.state = .showing)

/-! ### Impairment (R126) -/

/-- R126: an owed slot that is shed, source-lost or LOW, or the slot of the SHOWING event that is not
owed. -/
def State.slotImpaired (s : State) (n : Nat) : Bool :=
  let r := s.slot n
  (r.owed && (r.shed || r.sourceLost || decide (r.judgement = .low)))
    || (s.isShowingSlot n && !r.owed)

/-- The impaired slots of tier `t`. -/
def State.impairedIn (s : State) (t : Nat) : Nat :=
  (slotNumbers.filter fun n => decide ((s.slot n).tier = t) && s.slotImpaired n).length

/-! ### Branches (R122, R125) -/

/-- R125: a defined branch is OUT when it is forced out, silent, its supply failed, or at least two and at
least half of its installed taps are unreachable. -/
def Branch.isOut (b : Branch) : Bool :=
  b.defined && (b.forced || b.silent || b.supplyFailed
    || (decide (2 ≤ b.unreachableTaps) && decide (b.installedTaps ≤ b.unreachableTaps * 2)))

/-- The parents of branch `n` upward, at most `fuel` of them. -/
def State.ancestors (s : State) : Nat → Nat → List Nat
  | 0, _ => []
  | fuel + 1, n =>
    match (s.branch n).parent with
    | some p => p :: s.ancestors fuel p
    | none => []

/-- All ancestors of branch `n`: the tree has 64 branches, so no chain is longer. -/
def State.ancestorsOf (s : State) (n : Nat) : List Nat := s.ancestors 64 n

/-- The depth of a defined branch: 1 with no parent, else its parent's plus 1 (R122). -/
def State.depth (s : State) (n : Nat) : Nat := (s.ancestorsOf n).length + 1

/-- Whether `d` is branch `n` or one of its descendants. -/
def State.isBelow (s : State) (n d : Nat) : Bool := decide (d = n) || (s.ancestorsOf d).contains n

/-- The branch numbers 1–64. -/
def branchNumbers : List Nat := List.range' 1 64
/-- The tap addresses 1–512. -/
def tapNumbers : List Nat := List.range' 1 512
/-- The source numbers 1–24. -/
def sourceNumbers : List Nat := List.range' 1 24
/-- The subscriber numbers 1–2048. -/
def subNumbers : List Nat := List.range' 1 2048
/-- The event numbers 1–16. -/
def eventNumbers : List Nat := List.range' 1 16

/-- Whether a number lies in a range, both ends included. -/
def within (lo hi n : Nat) : Bool := decide (lo ≤ n ∧ n ≤ hi)

/-- A setting clamped to a range (section 4.5). -/
def clamp (lo hi n : Nat) : Nat := max lo (min hi n)

/-! ### Taps (R38, R47, R104) -/

/-- The ACTIVE record that names tap `t` and port `p`, if any: R37 makes it at most one. -/
def State.claimant (s : State) (t p : Nat) : Option Nat :=
  (tabWhere (fun _ r => decide (r.status = .active) && decide (r.tap = some t)
    && decide (r.port = some p)) s.subs).head?

/-- Whether the record holds a purchase of the SHOWING event. -/
def State.holdsShowing (s : State) (r : Subscriber) : Bool :=
  r.purchases.any fun e => decide ((s.event e.event).state = .showing)

/-- The tiers an ACTIVE record wants its port to pass (R38). -/
def State.wantedMask (s : State) (r : Subscriber) : TierSet :=
  if r.locked then 0 else if s.holdsShowing r then r.w ||| 0x80#8 else r.w

/-- R38: the desired mask of port `p` of tap `t`. -/
def State.desiredMask (s : State) (t p : Nat) : TierSet :=
  match s.claimant t p with
  | some n => s.wantedMask (s.sub n)
  | none => 0

/-- The desired masks of a tap's four ports. -/
def State.desiredMasks (s : State) (t : Nat) : Quad TierSet := Quad.of (s.desiredMask t)

/-- R47: out of step by the held revision and the reported masks. -/
def State.outOfStepReported (s : State) (t : Nat) : Bool :=
  let r := s.tap t
  decide (r.heldRev ≠ some s.revision) ||
    decide ((s.desiredMasks t).toList.map some ≠ r.reported.toList)

/-- R47: out of step by the last sent record, as a MISMATCH tap is judged. -/
def State.outOfStepSent (s : State) (t : Nat) : Bool :=
  match (s.tap t).lastSent with
  | some l => decide (s.desiredMasks t ≠ l.masks) || decide (s.revision ≠ l.revision)
  | none => true

/-- R104: installed and neither QUEUED nor IN_FLIGHT. -/
def Tap.eligible (r : Tap) : Bool :=
  r.installed && decide (r.sync ≠ .queued) && decide (r.sync ≠ .inFlight)

/-- The billed set B: the tiers 0–6 in both W and C (R38). -/
def Subscriber.billed (r : Subscriber) : TierSet := r.w &&& r.c &&& 0x7F#8

/-! ### Alarm kinds (R129) -/

/-- The kinds in the order of the table of R129. -/
def alarmKinds : List AlarmKind :=
  [.branchOut, .stationSilent, .stationSupplyFailed, .stationOnStandby, .stationDoorOpen,
   .tapUnreachable, .tapMismatch, .tapHousingOpen, .sourceLost, .slotLow, .slotHigh, .slotStuck,
   .powerReserve, .powerConserve, .monitorOff, .returnNoise, .accrualOverrun, .cycleOverdue]

/-- The fixed severity of a kind. -/
def AlarmKind.severity : AlarmKind → Severity
  | .branchOut | .stationSilent | .stationSupplyFailed => .major
  | .stationOnStandby | .stationDoorOpen | .tapUnreachable | .tapMismatch | .tapHousingOpen => .minor
  | .sourceLost | .slotLow | .slotStuck | .powerReserve => .major
  | .slotHigh | .monitorOff | .returnNoise => .minor
  | .powerConserve => .critical
  | .accrualOverrun | .cycleOverdue => .major

/-- The fixed class of a kind. -/
def AlarmKind.cls : AlarmKind → AlarmClass
  | .branchOut | .stationSilent | .stationSupplyFailed | .stationOnStandby | .stationDoorOpen
  | .tapUnreachable | .tapMismatch | .tapHousingOpen => .plant
  | .sourceLost | .slotLow | .slotHigh | .slotStuck | .powerReserve | .powerConserve | .monitorOff
  | .returnNoise => .headend
  | .accrualOverrun | .cycleOverdue => .billing

/-- The objects a kind may name, in ascending number; 0 is the head end. -/
def AlarmKind.objects : AlarmKind → List Nat
  | .branchOut | .stationSilent | .stationSupplyFailed | .stationOnStandby | .stationDoorOpen =>
    branchNumbers
  | .tapUnreachable | .tapMismatch | .tapHousingOpen => tapNumbers
  | .sourceLost => sourceNumbers
  | .slotLow | .slotHigh | .slotStuck => slotNumbers
  | .powerReserve | .powerConserve | .monitorOff | .returnNoise | .accrualOverrun | .cycleOverdue =>
    [0]

/-- Whether the last report of branch `b` satisfies `f`. -/
def State.reportIs (s : State) (b : Nat) (f : StationReport → Bool) : Bool :=
  match (s.watch b).lastReport with
  | some r => f r
  | none => false

/-- The condition as its owner posts it, without the gate (R129, last column). -/
def State.conditionTrue (s : State) (k : AlarmKind) (o : Nat) : Bool :=
  match k with
  | .branchOut => (s.branch o).out
  | .stationSilent => decide ((s.watch o).state = .silent)
  | .stationSupplyFailed => s.reportIs o fun r => decide (r.supply = .failed)
  | .stationOnStandby => s.reportIs o fun r => decide (r.supply = .standby)
  | .stationDoorOpen => s.reportIs o fun r => r.doorOpen
  | .tapUnreachable => (s.tap o).installed && decide ((s.tap o).reach = .unreachable)
  | .tapMismatch => (s.tap o).installed && decide ((s.tap o).sync = .mismatch)
  | .tapHousingOpen => (s.tap o).installed && (s.tap o).housingOpen
  | .sourceLost => !(s.source o).present
  | .slotLow => decide ((s.slot o).judgement = .low)
  | .slotHigh => decide ((s.slot o).judgement = .high)
  | .slotStuck => decide ((s.slot o).judgement = .stuck)
  | .powerReserve => decide (s.power.mode = .reserve)
  | .powerConserve => decide (s.power.mode = .conserve)
  | .monitorOff => !s.monitor.enable
  | .returnNoise => s.engine.noiseActive
  | .accrualOverrun => s.billing.overrun
  | .cycleOverdue => decide (50400 ≤ s.billing.m)

/-- Whether branch `b` of a tap record is affected; a tap without a branch is on none. -/
def State.onAffected (s : State) (b : Option Nat) : Bool :=
  match b with
  | some n => (s.branch n).affected
  | none => false

/-- R129, R132: the gate of a gated kind. It is closed for a shadowed branch and for a tap whose branch is
affected. -/
def State.gateOpen (s : State) (k : AlarmKind) (o : Nat) : Bool :=
  match k with
  | .branchOut | .stationSilent => !(s.branch o).shadowed
  | .tapUnreachable => !s.onAffected (s.tap o).branch
  | _ => true

end Sys2Proof.Machine
end

