-- ==== Sys2Proof/Machine/Alarms.lean ====
section
/-! DEFINITION. The alarm list: raising, clearing, reopening, eviction, retirement, correlation, resurvey
and the clearing of untrue records at a warm restart (chapter 8, sections 8.5 to 8.11). -/

namespace Sys2Proof.Machine

/-- The position of a kind in the table of R129 (R177). -/
def AlarmKind.code : AlarmKind → Nat
  | .branchOut => 0 | .stationSilent => 1 | .stationSupplyFailed => 2 | .stationOnStandby => 3
  | .stationDoorOpen => 4 | .tapUnreachable => 5 | .tapMismatch => 6 | .tapHousingOpen => 7
  | .sourceLost => 8 | .slotLow => 9 | .slotHigh => 10 | .slotStuck => 11 | .powerReserve => 12
  | .powerConserve => 13 | .monitorOff => 14 | .returnNoise => 15 | .accrualOverrun => 16
  | .cycleOverdue => 17

/-- MINOR, MAJOR or CRITICAL by position (R130). -/
def Severity.code : Severity → Nat
  | .minor => 0 | .major => 1 | .critical => 2

/-- ACTIVE or CLEARED by position (R130). -/
def AlarmState.code : AlarmState → Nat
  | .active => 0 | .cleared => 1

/-- The three alarm notices (R173, R177). -/
inductive AlarmNotice where
  | raised | cleared | reopened
  deriving DecidableEq, Repr

/-- The kind byte of an alarm notice (R177). -/
def AlarmNotice.byte : AlarmNotice → Byte
  | .raised => 160 | .cleared => 161 | .reopened => 162

/-- The body of an alarm notice (R132): serial, kind, object, severity, state, raised or cleared minute,
recurrence count. -/
def AlarmRecord.noticeBody (r : AlarmRecord) : List Byte :=
  u16 r.serial ++ u8 r.kind.code ++ u16 r.object ++ u8 r.kind.severity.code ++ u8 r.state.code
    ++ u32 (r.cleared.getD r.raised) ++ u8 r.recurrence

/-- Send a notice of a record to its audience (R132). -/
def alarmNotice (n : AlarmNotice) (r : AlarmRecord) (s : State) : State :=
  noticeTo r.audience n.byte r.noticeBody s

/-- The filter of a master (R131). -/
def Alarms.filter (a : Alarms) : Master → ClassSet
  | .office => a.officeFilter
  | .technician => a.technicianFilter
  | .schedule => a.scheduleFilter

/-- Write the filter of a master. -/
def Alarms.setFilter (a : Alarms) (p : Master) (c : ClassSet) : Alarms :=
  match p with
  | .office => { a with officeFilter := c }
  | .technician => { a with technicianFilter := c }
  | .schedule => { a with scheduleFilter := c }

/-- Whether a class is in the set. -/
def ClassSet.has (c : ClassSet) : AlarmClass → Bool
  | .plant => c.plant
  | .headend => c.headend
  | .billing => c.billing

/-- The masters whose filter includes the class (R131). -/
def Alarms.audienceOf (a : Alarms) (c : AlarmClass) : MasterSet :=
  ⟨a.officeFilter.has c, a.technicianFilter.has c, a.scheduleFilter.has c⟩

/-- Replace the records of the list. -/
def setRecords (l : List AlarmRecord) (s : State) : State :=
  { s with alarms := { s.alarms with records := l } }

/-- The record of a kind and object, if the list holds one: R130 allows at most one. -/
def State.alarm (s : State) (k : AlarmKind) (o : Nat) : Option AlarmRecord :=
  s.alarms.records.find? fun r => decide (r.kind = k) && decide (r.object = o)

/-- Replace the record of the same kind and object by `r`, in its place. -/
def replaceRecord (r : AlarmRecord) : List AlarmRecord → List AlarmRecord
  | [] => []
  | x :: l => if x.kind = r.kind ∧ x.object = r.object then r :: l else x :: replaceRecord r l

/-- Remove the record of a kind and object; the records behind it keep their order. -/
def dropRecord (k : AlarmKind) (o : Nat) : List AlarmRecord → List AlarmRecord
  | [] => []
  | x :: l => if x.kind = k ∧ x.object = o then l else x :: dropRecord k o l

/-- The oldest CLEARED record removed from a list that has one (R135). -/
def evictCleared : List AlarmRecord → List AlarmRecord
  | [] => []
  | x :: l => if x.state = .cleared then l else x :: evictCleared l

/-- The serial after `n`: from 65,535 to 1 (R130). -/
def serialAfter (n : Nat) : Nat := if 65535 ≤ n then 1 else n + 1

/-- The first serial from `n` on that no record of the list holds. The list holds at most 128 records, so
129 tries suffice. -/
def freeSerial (l : List AlarmRecord) : Nat → Nat → Nat
  | 0, n => n
  | fuel + 1, n => if l.any fun r => r.serial == n then freeSerial l fuel (serialAfter n) else n

/-- R130, R132: append a new record of `k` and `o` to the records `l`, and send its notice. DESIGN CHOICE (log 32): a
serial that a record still holds is passed over when a new record takes its serial. -/
def appendRecord (k : AlarmKind) (o : Nat) (l : List AlarmRecord) (s : State) : State :=
  let n := freeSerial l 129 s.alarms.nextSerial
  let r : AlarmRecord :=
    { serial := n, kind := k, object := o, state := .active, raised := s.billing.clock,
      cleared := none, recurrence := 0, audience := s.alarms.audienceOf k.cls, acked := noMasters }
  alarmNotice .raised r
    { s with alarms := { s.alarms with records := l ++ [r], nextSerial := serialAfter n } }

/-- R132, R135: make a new record; with 128 records the oldest CLEARED one is evicted, and with none CLEARED
the record is not made and the incomplete flag becomes yes. -/
def newRecord (k : AlarmKind) (o : Nat) (s : State) : State :=
  let l := s.alarms.records
  if l.length < 128 then appendRecord k o l s
  else if l.any fun r => decide (r.state = .cleared) then appendRecord k o (evictCleared l) s
  else { s with alarms := { s.alarms with incomplete := true } }

/-- R132: reopen a CLEARED record in its place. -/
def reopenRecord (r : AlarmRecord) (s : State) : State :=
  let r' : AlarmRecord :=
    { r with state := .active, raised := s.billing.clock, cleared := none, acked := noMasters,
             recurrence := min 255 (r.recurrence + 1) }
  alarmNotice .reopened r' (setRecords (replaceRecord r' s.alarms.records) s)

/-- R132: take a posting of a condition as raised. -/
def raiseAlarm (k : AlarmKind) (o : Nat) (s : State) : State :=
  if s.gateOpen k o then
    match s.alarm k o with
    | none => newRecord k o s
    | some r => if r.state = .cleared then reopenRecord r s else s
  else s

/-- R134: a CLEARED record whose acknowledged set equals its audience is removed. -/
def retire (r : AlarmRecord) (s : State) : State :=
  if r.state = .cleared ∧ r.acked = r.audience then
    setRecords (dropRecord r.kind r.object s.alarms.records) s
  else s

/-- R132: clear an ACTIVE record, send its notice and decide its retirement. -/
def clearRecord (r : AlarmRecord) (s : State) : State :=
  let r' : AlarmRecord := { r with state := .cleared, cleared := some s.billing.clock }
  retire r' (alarmNotice .cleared r' (setRecords (replaceRecord r' s.alarms.records) s))

/-- R132: take a posting of a condition as ended. -/
def endAlarm (k : AlarmKind) (o : Nat) (s : State) : State :=
  match s.alarm k o with
  | some r => if r.state = .active then clearRecord r s else s
  | none => s

/-- Post a change of a condition from `before` to `after`, as raised or ended; no change posts nothing. -/
def postChange (k : AlarmKind) (o : Nat) (before after : Bool) (s : State) : State :=
  if after && !before then raiseAlarm k o s
  else if before && !after then endAlarm k o s
  else s

/-! ### Correlation (R136) -/

/-- R136: branch `b` becomes affected: every ACTIVE TAP_UNREACHABLE record of a tap on it is cleared. DESIGN CHOICE
(log 31): in order of tap address; the rule orders the raising alone. -/
def correlateAffected (b : Nat) (s : State) : State :=
  forEach (tabWhere (fun _ r => decide (r.branch = some b)) s.taps) (endAlarm .tapUnreachable) s

/-- R136: branch `b` stops being affected: TAP_UNREACHABLE is raised for its installed UNREACHABLE taps, in
address order. -/
def correlateUnaffected (b : Nat) (s : State) : State :=
  forEach (tabWhere (fun _ r => r.installed && decide (r.branch = some b)
    && decide (r.reach = .unreachable)) s.taps) (raiseAlarm .tapUnreachable) s

/-- R136: branch `b` becomes shadowed: its ACTIVE BRANCH_OUT and STATION_SILENT records are cleared. -/
def correlateShadowed (b : Nat) (s : State) : State :=
  endAlarm .stationSilent b (endAlarm .branchOut b s)

/-- R136: branch `b` stops being shadowed: BRANCH_OUT is raised if it is OUT, and STATION_SILENT if its watch
is SILENT. -/
def correlateUnshadowed (b : Nat) (s : State) : State :=
  let s := if s.conditionTrue .branchOut b then raiseAlarm .branchOut b s else s
  if s.conditionTrue .stationSilent b then raiseAlarm .stationSilent b s else s

/-! ### Resurvey and restart (R137, R138) -/

/-- The kinds and objects whose condition is true, gate included, in the order of R137. -/
def State.trueConditions (s : State) : List (AlarmKind × Nat) :=
  alarmKinds.flatMap fun k =>
    (k.objects.filter fun o => s.conditionTrue k o && s.gateOpen k o).map fun o => (k, o)

/-- Whether a new record can be placed or made room for (R135). -/
def State.alarmRoom (s : State) : Bool :=
  decide (s.alarms.records.length < 128) || s.alarms.records.any fun r => decide (r.state = .cleared)

/-- R137: record each true condition that has no record, in order; stop where a record can be neither
placed nor made room for. Gives the number made. -/
def resurveyList : List (AlarmKind × Nat) → Nat → State → State × Nat
  | [], n, s => ({ s with alarms := { s.alarms with incomplete := false } }, n)
  | (k, o) :: l, n, s =>
    match s.alarm k o with
    | some _ => resurveyList l n s
    | none =>
      if s.alarmRoom then resurveyList l (n + 1) (newRecord k o s)
      else ({ s with alarms := { s.alarms with incomplete := true } }, n)

/-- R137: ALARM RESURVEY as one act. -/
def resurvey (s : State) : State × Nat := resurveyList s.trueConditions 0 s

/-- R138: clear every ACTIVE record whose condition, gate included, is no longer true. -/
def clearUntrue (s : State) : State :=
  s.alarms.records.foldl
    (fun s r =>
      if s.conditionTrue r.kind r.object && s.gateOpen r.kind r.object then s
      else endAlarm r.kind r.object s) s

end Sys2Proof.Machine
end

