-- ==== Sys2Proof/Machine/Outage.lean ====
section
/-! DEFINITION. The outage correlator: branch states, affected and shadowed branches, impaired tiers and
outage episodes (chapter 8, sections 8.2 to 8.4). -/

namespace Sys2Proof.Machine

/-- R127: an episode that opens at this moment. -/
def Episode.opened (clock : Nat) : Episode := { isOpen := true, start := some clock, age := 0 }

/-- R127: an episode after a decision of its condition: it opens when the condition begins, closes when it
ends, and is otherwise kept. -/
def Episode.after (e : Episode) (before after : Bool) (clock : Nat) : Episode :=
  if after && !before then .opened clock else if before && !after then .cold else e

/-! ### Branches (R125) -/

/-- The branch record with its state decided from its inputs. -/
def Branch.decided (b : Branch) : Branch := { b with out := b.isOut }

/-- Whether some ancestor of branch `n` is OUT. -/
def State.ancestorOut (s : State) (n : Nat) : Bool := (s.ancestorsOf n).any fun a => (s.branch a).out

/-- R125: decide affected and shadowed for branch `n` from the states. -/
def decideFlags (n : Nat) (s : State) : State :=
  let b := s.branch n
  let up := s.ancestorOut n
  s.setBranch n { b with affected := b.out || up, shadowed := b.out && up }

/-- R125: hand on the changes of one branch: its episode, BRANCH_OUT, and the correlation of its alarms. -/
def handOnBranch (old : Branch) (n : Nat) (s : State) : State :=
  let new := s.branch n
  let s := s.setBranchEpisode n
    ((s.branchEpisode n).after old.affected new.affected s.billing.clock)
  let s := postChange .branchOut n old.out new.out s
  let s :=
    if new.affected && !old.affected then correlateAffected n s
    else if old.affected && !new.affected then correlateUnaffected n s
    else s
  if new.shadowed && !old.shadowed then correlateShadowed n s
  else if old.shadowed && !new.shadowed then correlateUnshadowed n s
  else s

/-- R125: decide every branch's state, then affected and shadowed, and hand on each change in order of
branch number. A branch whose inputs did not change and that is no descendant of one that did
keeps its flags, so that deciding all of them is the rule's decision. -/
def decideBranches (s : State) : State :=
  let keys := s.branches.map Prod.fst
  let s1 : State := { s with branches := tabMap .cold Branch.decided s.branches }
  let s2 := forEach keys decideFlags s1
  forEach keys (fun n t => handOnBranch (s.branch n) n t) s2

/-- Change the inputs of one branch and decide (R125). -/
def changeBranch (n : Nat) (f : Branch → Branch) (s : State) : State :=
  decideBranches (s.setBranch n (f (s.branch n)))

/-- The installation of a tap on branch `n` is posted (R40). -/
def postInstalled (n : Nat) (s : State) : State :=
  changeBranch n (fun b => { b with installedTaps := b.installedTaps + 1 }) s

/-- The removal of a tap from branch `n` is posted; one posting lowers both counts (R46). -/
def postRemoved (n : Nat) (unreachable : Bool) (s : State) : State :=
  changeBranch n
    (fun b => { b with
      installedTaps := b.installedTaps - 1
      unreachableTaps := if unreachable then b.unreachableTaps - 1 else b.unreachableTaps }) s

/-- A change of a tap's reachability to or from UNREACHABLE is posted with its branch (R40). -/
def postReach (branch : Option Nat) (before after : Bool) (s : State) : State :=
  match branch with
  | none => s
  | some n =>
    if after && !before then
      changeBranch n (fun b => { b with unreachableTaps := b.unreachableTaps + 1 }) s
    else if before && !after then
      changeBranch n (fun b => { b with unreachableTaps := b.unreachableTaps - 1 }) s
    else s

/-- The start or end of a station's silence is posted (R102). -/
def postSilence (n : Nat) (v : Bool) (s : State) : State :=
  changeBranch n (fun b => { b with silent := v }) s

/-- Whether the last report gives supply FAILED is posted (R100). -/
def postSupply (n : Nat) (v : Bool) (s : State) : State :=
  changeBranch n (fun b => { b with supplyFailed := v }) s

/-! ### Tiers (R126) -/

/-- The count the correlator holds for tier `t`. -/
def State.heldCount (s : State) (t : Nat) : Nat := tabGet 0 s.tierCount t

/-- R126: decide the count of impaired slots of tier `t` anew; a change of impairment opens or closes the
tier's episode. -/
def decideTier (t : Nat) (s : State) : State :=
  let before := decide (s.heldCount t ≠ 0)
  let n := s.impairedIn t
  let s : State := { s with tierCount := tabPut 0 s.tierCount t n }
  s.setTierEpisode t ((s.tierEpisode t).after before (decide (n ≠ 0)) s.billing.clock)

/-- The tiers 0–7. -/
def tierNumbers : List Nat := [0, 1, 2, 3, 4, 5, 6, 7]

/-- R126: a posting for a slot: every tier's count is decided anew. -/
def decideTiers (s : State) : State := forEach tierNumbers decideTier s

end Sys2Proof.Machine
end

