-- ==== Sys2Proof/Machine/Monitor.lean ====
section
/-! DEFINITION. The level monitor: conversions, scans and judgements (chapter 7). -/

namespace Sys2Proof.Machine

/-- What one step of the part answers. -/
abbrev Result := Host.Outcome State Fault Refusal

/-- The dwell of a resolution in ms: 25 at FINE, 10 at COARSE (R109). -/
def Resolution.dwell : Resolution → Nat
  | .fine => 25 | .coarse => 10

/-- The largest code: 10 bits at FINE, 8 at COARSE (R112). -/
def Resolution.maxCode : Resolution → Nat
  | .fine => 1023 | .coarse => 255

/-- The code formed of a detector reading: a level beyond the range gives the largest code (R112). -/
def Resolution.code (r : Resolution) (reading : Nat) : Nat := min r.maxCode reading

/-- R114: the measured level of a code. -/
def Resolution.measure (r : Resolution) (code : Nat) : Nat :=
  match r with
  | .fine => code * 5 / 8
  | .coarse => code * 4 * 5 / 8

/-- R110, R112: the slot-select output is set to a slot, or is not driven. -/
def driveSelect (n : Option Nat) (s : State) : State := { s with out := { s.out with slotSelect := n } }

/-- R112: begin a conversion of slot `n` with the resolution as it stands: the slot-select output is set to the
slot and the dwell timer starts. -/
def beginConversion (n : Nat) (s : State) : State :=
  let c : Conversion :=
    { slot := n, resolution := s.monitor.resolution,
      expiry := s.now + s.monitor.resolution.dwell, disturbed := false }
  driveSelect (some n) { s with monitor := { s.monitor with conversion := some c } }

/-- R115: a posting about slot `n` disturbs its conversion in progress. -/
def disturb (n : Nat) (s : State) : State :=
  match s.monitor.conversion with
  | some c =>
    if c.slot = n then
      { s with monitor := { s.monitor with conversion := some { c with disturbed := true } } }
    else s
  | none => s

/-- R120: the condition a judgement makes true. -/
def Judgement.alarm : Judgement → Option AlarmKind
  | .low => some .slotLow
  | .high => some .slotHigh
  | .stuck => some .slotStuck
  | _ => none

/-- Post a condition of slot `n` as raised or ended, where the judgement has one. -/
def postJudgement (f : AlarmKind → Nat → State → State) (j : Judgement) (n : Nat) (s : State) : State :=
  match j.alarm with
  | some k => f k n s
  | none => s

/-- R120: write a judgement with its counts and post the change to the alarm list. The correlator decides
where the act that changed the judgement ends (log 9). -/
def setJudgement (n : Nat) (j : Judgement) (low high clear : Nat) (s : State) : State :=
  let r := s.slot n
  let s := s.setSlot n { r with judgement := j, lowCount := low, highCount := high, clearCount := clear }
  if j = r.judgement then s
  else postJudgement raiseAlarm j n (postJudgement endAlarm r.judgement n s)

/-- R119: the level ramp engine posts a change of the carrier or ramp state of slot `n`; `resets` for a
turn-on, a re-aim of a STEADY slot and a turn-off. Acted on while the enable is ON. -/
def rampPosted (n : Nat) (resets : Bool) (s : State) : State :=
  let s := disturb n s
  if resets && s.monitor.enable then setJudgement n .unjudged 0 0 0 s else s

/-! ### Judgement (R115 to R118) -/

/-- A judgement with its low, high and clear counts. -/
structure Verdict where
  judgement : Judgement
  low : Nat
  high : Nat
  clear : Nat
  deriving DecidableEq, Repr

/-- What the record holds. -/
def Slot.verdict (r : Slot) : Verdict := ⟨r.judgement, r.lowCount, r.highCount, r.clearCount⟩

/-- R116: a scan of an ON, STEADY slot judged UNJUDGED or GOOD. -/
def judgeOpen (m : Monitor) (level l : Nat) (v : Verdict) : Verdict :=
  if l + m.tolerance < level then
    (if m.persistence ≤ v.low + 1 then ⟨.low, 0, 0, 0⟩ else ⟨v.judgement, v.low + 1, 0, v.clear⟩)
  else if level + m.tolerance < l then
    (if m.persistence ≤ v.high + 1 then ⟨.high, 0, 0, 0⟩ else ⟨v.judgement, 0, v.high + 1, v.clear⟩)
  else ⟨.good, 0, 0, v.clear⟩

/-- R115: the return band. -/
def inReturnBand (m : Monitor) (level l : Nat) : Bool :=
  decide (level ≤ l + (m.tolerance - m.hysteresis)) && decide (l ≤ level + (m.tolerance - m.hysteresis))

/-- A scan that counts toward clearing, or does not (R117, R118). -/
def judgeClear (m : Monitor) (counts : Bool) (v : Verdict) : Verdict :=
  if counts then
    (if m.persistence ≤ v.clear + 1 then { v with judgement := .good, clear := 0 }
     else { v with clear := v.clear + 1 })
  else { v with clear := 0 }

/-- R118: a scan of an OFF slot judged UNJUDGED or GOOD. -/
def judgeOff (m : Monitor) (l : Nat) (v : Verdict) : Verdict :=
  if 100 ≤ l then
    (if m.persistence ≤ v.high + 1 then ⟨.stuck, 0, 0, 0⟩ else { v with high := v.high + 1 })
  else { v with judgement := .good, high := 0 }

/-- R115 to R118: the verdict after an undisturbed scan of level `l`. -/
def Slot.judged (r : Slot) (m : Monitor) (l : Nat) : Verdict :=
  match r.carrierOn, r.ramp, r.judgement with
  | true, .steady, .unjudged => judgeOpen m (r.level.getD 0) l r.verdict
  | true, .steady, .good => judgeOpen m (r.level.getD 0) l r.verdict
  | true, .steady, .low => judgeClear m (inReturnBand m (r.level.getD 0) l) r.verdict
  | true, .steady, .high => judgeClear m (inReturnBand m (r.level.getD 0) l) r.verdict
  | true, .steady, .stuck => r.verdict
  | true, .ramping, _ => r.verdict
  | false, _, .unjudged => judgeOff m l r.verdict
  | false, _, .good => judgeOff m l r.verdict
  | false, _, .stuck => judgeClear m (decide (l + m.hysteresis < 100)) r.verdict
  | false, _, .low => r.verdict
  | false, _, .high => r.verdict

/-- R112, R115: store the measured level of slot `n` and judge it if the conversion was undisturbed. -/
def scanSlot (n l : Nat) (disturbed : Bool) (s : State) : State :=
  let s := s.setSlot n { s.slot n with measured := some l }
  if disturbed then s
  else
    let v := (s.slot n).judged s.monitor l
    decideTiers (setJudgement n v.judgement v.low v.high v.clear s)

/-- The slot after `n`, from 40 back to 1 (R112). -/
def slotAfter (n : Nat) : Nat := if 40 ≤ n then 1 else n + 1

/-- R112: the conversion `c` completes with a detector reading. -/
def completeConversion (c : Conversion) (reading : Nat) (s : State) : State :=
  if s.monitor.settling then
    beginConversion s.monitor.cursor { s with monitor := { s.monitor with settling := false } }
  else
    let s := scanSlot c.slot (c.resolution.measure (c.resolution.code reading)) c.disturbed s
    let next := slotAfter s.monitor.cursor
    beginConversion next { s with monitor := { s.monitor with cursor := next } }

/-- DWELL_EXPIRY (R112). -/
def execDwellExpiry (reading : Nat) (s : State) : Result :=
  match s.monitor.conversion with
  | some c => .next (completeConversion c reading (advanceTo c.expiry s))
  | none => .next s

/-! ### Enable and settings (R110, R111, R113) -/

/-- Every slot UNJUDGED with zero counts and no measured level, each changed judgement posted
(R110, R121), in slot order (log 30). -/
def clearJudgements (s : State) : State :=
  forEach slotNumbers
    (fun n s => setJudgement n .unjudged 0 0 0 (s.setSlot n { s.slot n with measured := none })) s

/-- R110: the enable changes from OFF to ON. -/
def monitorEnabled (s : State) : State :=
  let s : State := { s with monitor := { s.monitor with settling := true, cursor := 1 } }
  beginConversion 1 (endAlarm .monitorOff 0 s)

/-- R110: the enable changes from ON to OFF. The slot-select output is then not driven. -/
def monitorDisabled (s : State) : State :=
  let s : State := { s with monitor := { s.monitor with conversion := none, settling := false } }
  raiseAlarm .monitorOff 0 (decideTiers (clearJudgements (driveSelect none s)))

/-- R113: a change of resolution abandons the conversion in progress and begins it again. -/
def restartConversion (s : State) : State :=
  match s.monitor.conversion with
  | some c => beginConversion c.slot s
  | none => s

end Sys2Proof.Machine
end

