-- ==== Sys2Proof/Machine/Symbols.lean ====
section
/-! DEFINITION. The receiver's decision of symbols: the value that at least two of three samples have (R71). -/

namespace Sys2Proof

/-- R71: the value of at least two of three samples. -/
def majority (a b c : Bool) : Bool := (a && b) || (a && c) || (b && c)

/-- R71: the eight data symbols of a byte, each the value of at least two of its samples. -/
def SampledByte.decided (b : SampledByte) : Byte :=
  (b.first &&& b.second) ||| (b.first &&& b.third) ||| (b.second &&& b.third)

/-- R71: whether a stop symbol is decided as the stop value. -/
def SampledStop.found (x : SampledStop) : Bool := majority x.first x.second x.third

/-- R71: the bytes that the samples of a frame give. -/
def decidedBytes (l : List SampledByte) : List Byte := l.map SampledByte.decided

/-- R72: every symbol that the layout fixes at the stop value holds it. -/
def stopsGood (l : List SampledStop) : Bool := l.all SampledStop.found

end Sys2Proof
end

