-- ==== Sys2Proof/WellFormed.lean ====
section
/-! DEFINITION. Which commands name something the part has. An ill-formed command faults by name
(log 8); a request's own numbers are not checked here: the part answers OUT_OF_RANGE. -/

namespace Sys2Proof

/-- A source number, 1–24 (R3). -/
def wfSource (n : Nat) : Bool := decide (1 ≤ n ∧ n ≤ 24)

/-- A slot number, 1–40 (section 1.1). -/
def wfSlot (n : Nat) : Bool := decide (1 ≤ n ∧ n ≤ 40)

/-- A branch number, 1–64 (section 8.1). -/
def wfBranch (n : Nat) : Bool := decide (1 ≤ n ∧ n ≤ 64)

/-- A complete reply frame has `n + 7` bytes, `n` its byte 5 (R177). -/
def wfFrame (bytes : List Byte) : Bool :=
  match bytes[5]? with
  | some n => decide (bytes.length = n.toNat + 7)
  | none => false

/-- The samples of a complete reply frame, with one stop symbol behind each byte (R71, R177). -/
def wfSamples (bytes : List SampledByte) (stops : List SampledStop) : Bool :=
  wfFrame (decidedBytes bytes) && decide (stops.length = bytes.length)

/-- A message body holds at most 196 bytes (R168). -/
def wfBody (body : List Byte) : Bool := decide (body.length ≤ 196)

/-- The command names objects the part has and carries what a line can deliver. -/
def WellFormed : Instr → Bool
  | .sourcePresenceLineChange src _ => wfSource src
  | .sourceQualificationExpiry src => wfSource src
  | .supplyLineChange _ _ => true
  | .supplyQualificationExpiry _ => true
  | .stepTimerExpiry slot => wfSlot slot
  | .transmitCompletion => true
  | .frameReceived bytes stops => wfSamples bytes stops
  | .frameStreamTimeout => true
  | .replyTake => true
  | .replyWindowExpiry => true
  | .pollDueTime b => wfBranch b
  | .stationDeadline b => wfBranch b
  | .recoveryDueTime b => wfBranch b
  | .auditStepTimerExpiry => true
  | .dwellExpiry _ => true
  | .minuteTick => true
  | .sweepVisit => true
  | .messageReceived _ _ _ body => wfBody body
  | .interByteTimeout _ => true
  | .messageSent _ => true
  | .unknownRequest _ => true
  | .subscriberAdd _ => true
  | .subscriberChange _ => true
  | .subscriberRemove _ => true
  | .purchase _ => true
  | .purchaseCancel _ => true
  | .clockSet _ => true
  | .rateSet _ => true
  | .creditSet _ => true
  | .cycleClose _ => true
  | .statementRead _ => true
  | .portLock _ => true
  | .portUnlock _ => true
  | .tapInstall _ => true
  | .tapRemove _ => true
  | .branchSet _ => true
  | .branchForce _ => true
  | .branchRelease _ => true
  | .carrierOn _ => true
  | .carrierOff _ => true
  | .returnOn _ => true
  | .returnOff _ => true
  | .linkSet _ => true
  | .tapQuery _ => true
  | .tapEcho _ => true
  | .stationQuery _ => true
  | .monitorSet _ => true
  | .alarmResurvey _ => true
  | .restart _ _ => true
  | .slotSet _ => true
  | .eventSchedule _ => true
  | .eventCancel _ => true
  | .sponsor _ => true
  | .withdraw _ => true
  | .audienceSet _ => true
  | .alarmAck _ => true
  | .identify _ => true
  | .slotRead _ => true
  | .subscriberRead _ => true
  | .tapRead _ => true
  | .branchRead _ => true
  | .stationRead _ => true
  | .alarmListRead _ => true
  | .eventRead _ => true
  | .billingRead _ => true
  | .linkRead _ => true
  | .restartLine _ _ => true
  | .startIndication _ _ _ => true
  | .masterPortByteReceived _ _ _ => true

end Sys2Proof
end

