-- ==== Sys2Proof/Machine/Ramp.lean ====
section
/-! DEFINITION. The level ramp engine: supply lines and power mode, aims, ramps and the outputs to the
modulator bank (chapter 2). -/

namespace Sys2Proof.Machine

/-! ### Aim and ramp (R22 to R29) -/

/-- R26: turn the carrier of slot `n` on. -/
def turnOn (n : Nat) (s : State) : State :=
  let r := s.slot n
  let s := s.setSlot n
    { r with carrierOn := true, level := some 100, ramp := .ramping,
             stepTimer := some (s.now + 10 * r.period) }
  rampPosted n true (sendModulator n (some 100) s)

/-- R29: the aim of slot `n`, whose carrier is ON, has changed. A RAMPING slot goes on with its timer; a
STEADY one begins a ramp. -/
def reAim (n : Nat) (s : State) : State :=
  let r := s.slot n
  match r.ramp with
  | .ramping => s
  | .steady =>
    rampPosted n true
      (s.setSlot n { r with ramp := .ramping, stepTimer := some (s.now + 10 * r.period) })

/-- R23, R24: recompute the aim and the shed condition of slot `n` and move its carrier where the aim
changed. -/
def recomputeAim (n : Nat) (s : State) : State :=
  let r := s.slot n
  let a := r.aimIn s.power.mode
  let s := s.setSlot n { r with shed := r.isShed s.power.mode, aim := a.1, aimLevel := a.2 }
  if a = (r.aim, r.aimLevel) then s
  else if r.carrierOn then reAim n s
  else if a.1 = .off then s
  else turnOn n s

/-- R28: turn the carrier of slot `n` off. -/
def turnOff (n : Nat) (s : State) : State :=
  let r := s.slot n
  let s := s.setSlot n { r with carrierOn := false, level := none, ramp := .steady, stepTimer := none }
  decideTiers (rampPosted n true (sendModulator n none s))

/-- R27: the level after one step from `level` toward `aim`. -/
def stepLevel (level aim : Nat) : Nat :=
  if level + 5 ≤ aim then level + 5 else if aim + 5 ≤ level then level - 5 else aim

/-- Send the new level of slot `n` where it changed (R27). -/
def sendIfMoved (n old new : Nat) (s : State) : State :=
  if new = old then s else sendModulator n (some new) s

/-- R27: one step of the ramp of slot `n`. -/
def takeStep (n : Nat) (s : State) : State :=
  let r := s.slot n
  let level := r.level.getD 0
  let next := stepLevel level r.aimLevel
  if next = r.aimLevel then
    if r.aim = .off then turnOff n s
    else
      rampPosted n false
        (sendIfMoved n level next
          (s.setSlot n { r with level := some next, ramp := .steady, stepTimer := none }))
  else
    sendIfMoved n level next
      (s.setSlot n { r with level := some next, stepTimer := some (s.now + 10 * r.period) })

/-- STEP_TIMER_EXPIRY (R27). -/
def execStepTimerExpiry (slot : Nat) (s : State) : Result :=
  if wfSlot slot then
    match (s.slot slot).stepTimer with
    | some t => .next (takeStep slot (advanceTo t s))
    | none => .next s
  else .fault .noSuchSlot

/-! ### Power mode (R19 to R21) -/

/-- The power alarm of a mode (R20). -/
def PowerMode.alarm : PowerMode → Option AlarmKind
  | .mains => none
  | .reserve => some .powerReserve
  | .conserve => some .powerConserve

/-- MAINS, RESERVE, CONSERVE by position (R177). -/
def PowerMode.code : PowerMode → Nat
  | .mains => 0 | .reserve => 1 | .conserve => 2

/-- Post the power alarm of a mode, where it has one. -/
def postPower (f : AlarmKind → Nat → State → State) (m : PowerMode) (s : State) : State :=
  match m.alarm with
  | some k => f k 0 s
  | none => s

/-- R20, items 2 and 3: the power conditions and the notice of a change from `old` to `new`. -/
def announceMode (old new : PowerMode) (s : State) : State :=
  noticeTo allMasters 165 (u8 new.code ++ u8 old.code)
    (postPower raiseAlarm new (postPower endAlarm old s))

/-- R20: the mode is decided anew; a mode that differs is taken and handed on. Every slot's aim is recomputed in
slot order, each slot posted to the correlator in turn (log 9). -/
def decideMode (s : State) : State :=
  let old := s.power.mode
  let new := powerModeOf s.power.mainsQ s.power.reserveQ
  if new = old then s
  else
    let s : State := { s with power := { s.power with mode := new } }
    let s := forEach slotNumbers (fun n s => decideTiers (recomputeAim n s)) s
    announceMode old new s

/-- The 2 s of qualification in ms (R3, R19). -/
def qualificationMs : Nat := 2000

/-- The timer of a line that now has level `line`, against the qualified state `q`: started from zero where
the line departs, cancelled where it returns (R3, R19). -/
def qualifyTimer (now : Nat) (line q : Bool) : Option Nat :=
  if line = q then none else some (now + qualificationMs)

/-- SUPPLY_LINE_CHANGE (R19). A command that gives the level the line already has is no change. -/
def execSupplyLineChange (line : SupplyLine) (high : Bool) (s : State) : Result :=
  match line with
  | .mainsGood =>
    if high = s.power.mainsLine then .next s
    else .next { s with power := { s.power with
      mainsLine := high, mainsTimer := qualifyTimer s.now high s.power.mainsQ } }
  | .reserveLow =>
    if high = s.power.reserveLine then .next s
    else .next { s with power := { s.power with
      reserveLine := high, reserveTimer := qualifyTimer s.now high s.power.reserveQ } }

/-- The mains-good line's qualified state takes the line's value (R19). -/
def qualifyMains (s : State) : State :=
  decideMode { s with power := { s.power with mainsQ := s.power.mainsLine, mainsTimer := none } }

/-- The reserve-low line's qualified state takes the line's value (R19). -/
def qualifyReserve (s : State) : State :=
  decideMode { s with power := { s.power with reserveQ := s.power.reserveLine, reserveTimer := none } }

/-- SUPPLY_QUALIFICATION_EXPIRY (R19). -/
def execSupplyQualificationExpiry (line : SupplyLine) (s : State) : Result :=
  match line with
  | .mainsGood =>
    match s.power.mainsTimer with
    | some t => .next (qualifyMains (advanceTo t s))
    | none => .next s
  | .reserveLow =>
    match s.power.reserveTimer with
    | some t => .next (qualifyReserve (advanceTo t s))
    | none => .next s

end Sys2Proof.Machine
end

