-- ==== Sys2Proof/Machine/LineUp.lean ====
section
/-! DEFINITION. The line-up controller's decisions: owed, source-lost and source presence (chapter 1). -/

namespace Sys2Proof.Machine

/-- R6, R15: the owed and source-lost conditions of slot `n`, decided anew. -/
def decideOwed (n : Nat) (s : State) : State :=
  let r := s.slot n
  s.setSlot n { r with owed := r.isOwed, sourceLost := r.isOwed && s.sourceIsLost r }

/-- One act on slot `n` whose settings or sponsors have been written: owed and source-lost are decided anew
(R15, R6), the level ramp engine recomputes the aim (R23), and the correlator decides once, after
both (R15; log 9). -/
def refreshSlot (n : Nat) (s : State) : State := decideTiers (recomputeAim n (decideOwed n s))

/-- R4: the qualified presence state of source `n` has changed: SOURCE_LOST is posted, and the source-lost
condition of its slots decided anew. -/
def presenceTaken (n : Nat) (s : State) : State :=
  let s := if (s.source n).present then endAlarm .sourceLost n s else raiseAlarm .sourceLost n s
  forEach slotNumbers (fun k s => if (s.slot k).source = some n then decideOwed k s else s) s

/-- R4: a changed presence is taken, and the slots are posted to the correlator together. -/
def presenceChanged (n : Nat) (s : State) : State := decideTiers (presenceTaken n s)

/-- SOURCE_PRESENCE_LINE_CHANGE (R3). A command that gives the level the line already has is no change. -/
def execSourcePresenceLineChange (src : Nat) (high : Bool) (s : State) : Result :=
  if wfSource src then
    let r := s.source src
    if high = r.line then .next s
    else .next (s.setSource src { r with line := high, timer := qualifyTimer s.now high r.present })
  else .fault .noSuchSource

/-- R3: the qualified presence state of source `n` takes the line's value. -/
def qualifySource (n : Nat) (s : State) : State :=
  let r := s.source n
  presenceChanged n (s.setSource n { r with present := r.line, timer := none })

/-- SOURCE_QUALIFICATION_EXPIRY (R3). -/
def execSourceQualificationExpiry (src : Nat) (s : State) : Result :=
  if wfSource src then
    match (s.source src).timer with
    | some t => .next (qualifySource src (advanceTo t s))
    | none => .next s
  else .fault .noSuchSource

end Sys2Proof.Machine
end

