-- ==== Sys2Proof/Machine/Sync.lean ====
section
/-! DEFINITION. Taps and the port synchroniser: postings of a tap's conditions, the entry test, reply intake,
the completion of a port set and the rebuild of the sync set (chapter 3). -/

namespace Sys2Proof.Machine

/-- R40, R53: a tap takes a sync status; entering MISMATCH raises TAP_MISMATCH and leaving it ends it. -/
def setSync (t : Nat) (v : SyncStatus) (s : State) : State :=
  let r := s.tap t
  postChange .tapMismatch t (decide (r.sync = .mismatch)) (decide (v = .mismatch))
    (s.setTap t { r with sync := v })

/-- R47: the tap enters the sync set at the back and becomes QUEUED. -/
def enterSync (t : Nat) (s : State) : State :=
  setSync t .queued { s with syncSet := s.syncSet ++ [t] }

/-- R49: the tap leaves the sync set from wherever it stands and becomes IN_STEP. -/
def leaveSync (t : Nat) (s : State) : State :=
  setSync t .inStep { s with syncSet := s.syncSet.erase t }

/-- R47: the entry test of a tap. -/
def entryTest (t : Nat) (s : State) : State :=
  let r := s.tap t
  if r.installed then
    match r.sync with
    | .inStep => if s.outOfStepReported t then enterSync t s else s
    | .queued => if s.outOfStepReported t then s else leaveSync t s
    | .inFlight => s
    | .failed => s
    | .mismatch => if s.outOfStepSent t then enterSync t s else s
  else s

/-- The entry test on the tap a record names, if it names one. -/
def entryTestOf (t : Option Nat) (s : State) : State :=
  match t with
  | some t => entryTest t s
  | none => s

/-- The entry test on every installed tap in order of address (R48). -/
def entryTestAll (s : State) : State :=
  forEach (tabWhere (fun _ r => r.installed) s.taps) entryTest s

/-- R40: the reachability of tap `t` changes from `old`: the correlator is posted first, then the alarm list
(log 10). -/
def postReachability (t : Nat) (old : Reach) (s : State) : State :=
  let r := s.tap t
  let before := decide (old = .unreachable)
  let after := decide (r.reach = .unreachable)
  postChange .tapUnreachable t before after (postReach r.branch before after s)

/-- R40: a tap takes a reachability, and the change is posted. -/
def setReach (t : Nat) (v : Reach) (s : State) : State :=
  let r := s.tap t
  postReachability t r.reach (s.setTap t { r with reach := v })

/-- The port of a record, as an index into a tap's masks. -/
def Subscriber.portMask (r : Subscriber) (masks : Quad TierSet) : TierSet := masks.get (r.port.getD 0)

/-- R51, item 3: C of each ACTIVE record naming the tap is replaced by its port's mask. -/
def confirmTiers (t : Nat) (masks : Quad TierSet) (s : State) : State :=
  forEach (tabWhere (fun _ r => decide (r.status = .active) && decide (r.tap = some t)) s.subs)
    (fun n s => s.setSub n { s.sub n with c := (s.sub n).portMask masks }) s

/-- R51, items 1 to 4: take a tap status into the tap's record and the records it serves, and post each
change. -/
def takeStatus (t : Nat) (masks : Quad TierSet) (rev : Nat) (housing : Bool) (s : State) : State :=
  let r := s.tap t
  let s := s.setTap t
    { r with reach := .reachable, heldRev := some rev, housingOpen := housing,
             reported := ⟨some masks.p1, some masks.p2, some masks.p3, some masks.p4⟩ }
  let s := confirmTiers t masks s
  postChange .tapHousingOpen t r.housingOpen housing (postReachability t r.reach s)

/-- R51: the reply of an audit or a technician query is taken in, and the sync status decided. A tap that is
not installed takes nothing in. -/
def intakeReply (t : Nat) (masks : Quad TierSet) (rev : Nat) (housing : Bool) (s : State) : State :=
  if (s.tap t).installed then
    let s := takeStatus t masks rev housing s
    match (s.tap t).sync with
    | .failed => enterSync t s
    | .inStep => entryTest t s
    | .queued => entryTest t s
    | .mismatch => if s.outOfStepReported t then entryTest t s else setSync t .inStep s
    | .inFlight => s
  else s

/-- R52: whether the reply agrees with what was sent: every mask, and the revision where the map was
carried. -/
def replyMatches (sent : Quad TierSet) (map : Option TierMap) (masks : Quad TierSet) (rev : Nat) : Bool :=
  decide (masks = sent) && (match map with
    | some m => decide (rev = m.revision)
    | none => true)

/-- R52, R53: a port set is answered: the reply is taken in and compared with what was sent. A match is tested
as an IN_STEP tap. A mismatch leaves the tap MISMATCH with its condition raised, and the test of R48
then finds it out of step with its last sent record where a change was taken in flight (R56). -/
def portSetAnswered (t : Nat) (sent : Quad TierSet) (map : Option TierMap) (masks : Quad TierSet)
    (rev : Nat) (housing : Bool) (s : State) : State :=
  let s := takeStatus t masks rev housing s
  if replyMatches sent map masks rev then entryTest t (setSync t .inStep s)
  else entryTest t (setSync t .mismatch s)

/-- R54, R55: a port set ends without a reply. With the return ON a NO_REPLY or FAULTY_REPLY has failed; any
other failure says nothing about the tap, which enters the set again. The test that R48 makes at this completion
takes it out where it is in step, its change undone in flight (R49, R56). -/
def portSetFailed (t : Nat) (o : TxnOutcome) (s : State) : State :=
  if o ≠ .carrierOff ∧ s.engine.returnOn then setReach t .unreachable (setSync t .failed s)
  else entryTest t (enterSync t s)

/-- The tier map with its revision (R7). -/
def State.tierMap (s : State) : TierMap :=
  { revision := s.revision, tiers := slotNumbers.map fun n => (s.slot n).tier }

/-- R50: the content of a PORT SET to tap `t`, as it stands at the grant. -/
def State.portSet (s : State) (t : Nat) : Command :=
  .portSet (s.desiredMasks t)
    (if (s.tap t).heldRev = some s.revision then none else some s.tierMap)

/-- R58: at a warm restart the sync set is emptied and every installed tap, in order of address, becomes
QUEUED at the back where it is FAILED or out of step by its reported masks and held revision, and
IN_STEP otherwise. No condition is posted. -/
def rebuildSync (s : State) : State :=
  forEach (tabWhere (fun _ r => r.installed) s.taps)
    (fun t s =>
      let r := s.tap t
      if r.sync = .failed ∨ s.outOfStepReported t then
        ({ s with syncSet := s.syncSet ++ [t] }).setTap t { r with sync := .queued }
      else s.setTap t { r with sync := .inStep })
    { s with syncSet := [] }

end Sys2Proof.Machine
end

