-- ==== Sys2Proof/Machine/Survey.lean ====
section
/-! DEFINITION. The plant survey unit: watch records, polls, deadlines, silence and the tap audit
(chapter 6). -/

namespace Sys2Proof.Machine

/-! ### Watch times -/

/-- floor(0.75 × I) seconds in ms (R95). -/
def dueAfter (i : Nat) : Nat := 3 * i / 4 * 1000
/-- I seconds in ms. -/
def intervalMs (i : Nat) : Nat := i * 1000

/-- A watch restarted from a good report at `clock` (R97, R99). -/
def Watch.restarted (w : Watch) (clock : Nat) : Watch :=
  { w with state := .watching, lastGood := some clock, due := some (clock + dueAfter w.interval),
           deadline := some (clock + intervalMs w.interval), deadlinePassed := false,
           recovery := .noPoll, recoveryDue := none }

/-! ### Station conditions (R100) -/

/-- Whether a last report satisfies `f`; an absent report does not. -/
def reportHas (f : StationReport → Bool) : Option StationReport → Bool
  | some r => f r
  | none => false

/-- Supply state FAILED. -/
def StationReport.isFailed (r : StationReport) : Bool := decide (r.supply = .failed)
/-- Supply state STANDBY. -/
def StationReport.isStandby (r : StationReport) : Bool := decide (r.supply = .standby)

/-- Post one station condition as ended, where the change of report makes it false. -/
def endStation (k : AlarmKind) (f : StationReport → Bool) (b : Nat) (old new : Option StationReport)
    (s : State) : State :=
  if reportHas f old && !reportHas f new then endAlarm k b s else s

/-- Post one station condition as raised, where the change of report makes it true. -/
def raiseStation (k : AlarmKind) (f : StationReport → Bool) (b : Nat) (old new : Option StationReport)
    (s : State) : State :=
  if reportHas f new && !reportHas f old then raiseAlarm k b s else s

/-- R100: post the conditions that a change of the last report of branch `b` changes: what ends, then what
is raised, and a change of supply FAILED to the correlator last. DESIGN CHOICE (log 29): R100 gives the
postings of one report no order. -/
def postReport (b : Nat) (old new : Option StationReport) (s : State) : State :=
  let s := endStation .stationSupplyFailed StationReport.isFailed b old new s
  let s := endStation .stationOnStandby StationReport.isStandby b old new s
  let s := endStation .stationDoorOpen StationReport.doorOpen b old new s
  let s := raiseStation .stationSupplyFailed StationReport.isFailed b old new s
  let s := raiseStation .stationOnStandby StationReport.isStandby b old new s
  let s := raiseStation .stationDoorOpen StationReport.doorOpen b old new s
  if reportHas StationReport.isFailed old = reportHas StationReport.isFailed new then s
  else postSupply b (reportHas StationReport.isFailed new) s

/-! ### Silence (R101, R102) -/

/-- R102: the record of branch `b` becomes SILENT. -/
def becomeSilent (b : Nat) (s : State) : State :=
  let w := s.watch b
  let s := s.setWatch b
    { w with state := .silent, due := none, deadline := none, deadlinePassed := false,
             recovery := .waiting, recoveryDue := some (s.survey.clock + intervalMs w.interval) }
  raiseAlarm .stationSilent b (postSilence b true s)

/-- R102: the silence of branch `b` ends: the two postings. -/
def postSilenceEnd (b : Nat) (s : State) : State :=
  endAlarm .stationSilent b (postSilence b false s)

/-- R101: the deadline of the watch record of branch `b` is taken. -/
def takeDeadline (b : Nat) (s : State) : State :=
  let w := s.watch b
  match w.state with
  | .pollDue => s.setWatch b { w with deadlinePassed := true }
  | .polled => s.setWatch b { w with deadlinePassed := true }
  | .watching => becomeSilent b s
  | .silent => s
  | .unwatched => s

/-! ### Stations gained and lost, intervals (R96, R97) -/

/-- R97: the branch gains a station. -/
def stationGained (b : Nat) (s : State) : State :=
  s.setWatch b { (s.watch b).restarted s.survey.clock with lastReport := none }

/-- R97: the branch loses its station. DESIGN CHOICE (log 40): the station conditions that were true are ended, and the
correlator told of the supply, before the end of a silence is posted; R97 gives them no order. -/
def stationLost (b : Nat) (s : State) : State :=
  let w := s.watch b
  let s := s.setWatch b { Watch.cold with interval := w.interval }
  let s := postReport b w.lastReport none s
  if w.state = .silent then postSilenceEnd b s else s

/-- R96: what a changed interval does to the record, in its present state, with the clock at `clock`. -/
def Watch.withInterval (w : Watch) (i clock : Nat) : Watch :=
  let base := w.lastGood.getD 0
  let due := base + dueAfter i
  let deadline := base + intervalMs i
  match w.state with
  | .watching =>
    if due ≤ clock then
      { w with interval := i, state := .pollDue, due := some due, deadline := some deadline,
               deadlinePassed := decide (deadline ≤ clock) }
    else { w with interval := i, due := some due, deadline := some deadline }
  | .pollDue => { w with interval := i, deadline := some deadline, deadlinePassed := decide (deadline ≤ clock) }
  | .polled => { w with interval := i, deadline := some deadline, deadlinePassed := decide (deadline ≤ clock) }
  | .silent => { w with interval := i }
  | .unwatched => { w with interval := i }

/-- R96: the interval of branch `b` is posted; the interval already held changes nothing. -/
def postInterval (b i : Nat) (s : State) : State :=
  let w := s.watch b
  if w.interval = i then s else s.setWatch b (w.withInterval i s.survey.clock)

/-! ### Choosing the work (R98, R104, R105) -/

/-- When the poll of a record is due: a POLL_DUE record at its due time, a DUE recovery poll at its recovery
due time (R98). -/
def Watch.dueTime (w : Watch) : Option Nat :=
  match w.state with
  | .pollDue => some (w.due.getD 0)
  | .silent => if w.recovery = .due then some (w.recoveryDue.getD 0) else none
  | _ => none

/-- The earlier of the best poll so far and the poll of branch `b`; a tie stays with the lower number, which
comes first. -/
def earlierPoll (best : Option (Nat × Nat)) (b : Nat) (w : Watch) : Option (Nat × Nat) :=
  match w.dueTime, best with
  | none, _ => best
  | some t, none => some (t, b)
  | some t, some (u, c) => if t < u then some (t, b) else some (u, c)

/-- R98: the due poll with the earliest due time, the lower branch number first. -/
def State.choosePoll (s : State) : Option Nat :=
  (s.watches.foldl (fun best e => earlierPoll best e.1 e.2) none).map Prod.snd

/-- The taps eligible for audit, in address order (R104). -/
def State.eligibleTaps (s : State) : List Nat := tabWhere (fun _ r => r.eligible) s.taps

/-- R105: the first eligible tap after the audit cursor, wrapping from 512 to 1, the cursor's own last. -/
def State.chooseAudit (s : State) : Option Nat :=
  match s.eligibleTaps.find? fun t => decide (s.survey.cursor < t) with
  | some t => some t
  | none => s.eligibleTaps.head?

/-- R104: the due step is offerable. -/
def State.auditOfferable (s : State) : Bool := s.survey.stepDue && !s.eligibleTaps.isEmpty

/-- R98: SURVEY is ready. -/
def State.surveyReady (s : State) : Bool :=
  s.engine.returnOn && (s.choosePoll.isSome || s.auditOfferable)

/-- A poll of branch `b` is handed to the engine: a POLL_DUE record or a DUE recovery poll becomes POLLED
(R98). -/
def markPolled (b : Nat) (s : State) : State :=
  let w := s.watch b
  match w.state with
  | .pollDue => s.setWatch b { w with state := .polled }
  | .silent => s.setWatch b { w with recovery := .polled }
  | _ => s

/-- R105, items 1 to 3: the audit of tap `t` is handed over. -/
def markAudited (t : Nat) (s : State) : State :=
  { s with survey := { s.survey with cursor := t, auditInFlight := some t, stepDue := false } }

/-! ### Completions (R99, R106) -/

/-- R99, DONE: the watch is restarted with the report. The end of a silence is posted before the report's own
conditions, as R102 and the sequence of section 6.7 have it (log 11). -/
def pollAnswered (b : Nat) (report : StationReport) (s : State) : State :=
  let w := s.watch b
  let s := s.setWatch b { w.restarted s.survey.clock with lastReport := some report }
  let s := if w.state = .silent then postSilenceEnd b s else s
  postReport b w.lastReport (some report) s

/-- R99, a failed poll with the return ON. -/
def pollFailed (b : Nat) (s : State) : State :=
  let w := s.watch b
  match w.state with
  | .polled =>
    if w.deadlinePassed then becomeSilent b s else s.setWatch b { w with state := .pollDue }
  | .silent =>
    s.setWatch b { w with recovery := .waiting,
                          recoveryDue := some (s.survey.clock + intervalMs w.interval) }
  | _ => s

/-- R99, a completion that says nothing about the station. -/
def pollSaidNothing (b : Nat) (s : State) : State :=
  let w := s.watch b
  match w.state with
  | .polled => s.setWatch b { w with state := .pollDue }
  | .silent => s.setWatch b { w with recovery := .due }
  | _ => s

/-- R99: whether the record or its recovery poll is POLLED. -/
def Watch.isPolled (w : Watch) : Bool :=
  decide (w.state = .polled) || (decide (w.state = .silent) && decide (w.recovery = .polled))

/-- R99: a STATION POLL of the survey unit completes. -/
def pollCompleted (b : Nat) (o : TxnOutcome) (reply : Option StationReport) (s : State) : State :=
  if (s.watch b).isPolled then
    match o, reply with
    | .done, some r => pollAnswered b r s
    | .done, none => s
    | .carrierOff, _ => pollSaidNothing b s
    | .noReply, _ => if s.engine.returnOn then pollFailed b s else pollSaidNothing b s
    | .faultyReply, _ => if s.engine.returnOn then pollFailed b s else pollSaidNothing b s
  else s

/-- R106: an audit PORT READ ends without a reply. -/
def auditFailed (t : Nat) (o : TxnOutcome) (s : State) : State :=
  if o ≠ .carrierOff ∧ s.engine.returnOn ∧ (s.tap t).installed then setReach t .unreachable s else s

end Sys2Proof.Machine
end

