-- ==== Sys2Proof/Machine/Engine.lean ====
section
/-! DEFINITION. The control carrier engine below the arbiter: frames sent, attempts begun, and the noise count
(chapter 4, sections 4.1 to 4.5). -/

namespace Sys2Proof.Machine

/-! ### Frames sent (R59, R61, R177) -/

/-- TAP 1, STATION 2, ALL TAPS 3, as an address frame carries it. -/
def UnitClass.wire : UnitClass → Nat
  | .tap => 1 | .station => 2 | .allTaps => 3

/-- The address frame. -/
def addressFrame (c : UnitClass) (addr : Nat) : List Byte := withCrc8 (1 :: (u8 c.wire ++ u16 addr))

/-- A tier map as a command carries it: the revision and the 40 slot tiers. -/
def TierMap.wire (m : TierMap) : List Byte := u8 m.revision ++ m.tiers.flatMap u8

/-- The number and the content of a command. -/
def Command.wire : Command → Nat × List Byte
  | .portSet m none => (1, m.toList ++ [0])
  | .portSet m (some t) => (1, m.toList ++ 1 :: t.wire)
  | .portRead => (2, [])
  | .echo token => (3, token)
  | .stationPoll => (4, [])
  | .mapLoad t => (5, t.wire)

/-- The command message. -/
def commandMessage (c : Command) : List Byte :=
  withCrc8 (2 :: (u8 c.wire.1 ++ u8 c.wire.2.length ++ c.wire.2))

/-! ### Transactions (R63, R64) -/

/-- R64: an attempt of the transaction begins: the engine enters SENDING and transmits the address frame and
the command message. -/
def beginAttempt (t : Txn) (s : State) : State :=
  sendCarrier [addressFrame t.cls t.addr, commandMessage t.cmd]
    { s with engine := { s.engine with state := .sending, txn := some t, window := none } }

/-- The attempt limit: 1 for a MAP LOAD, the retries plus 1 otherwise (R63). -/
def attemptLimit (c : Command) (l : Link) : Nat :=
  match c with
  | .mapLoad _ => 1
  | _ => l.retries + 1

/-- R63: the engine takes a granted transaction and begins its first attempt. -/
def takeTransaction (r : Requester) (c : UnitClass) (addr : Nat) (cmd : Command) (s : State) : State :=
  beginAttempt
    { requester := r, cls := c, addr := addr, cmd := cmd, limit := attemptLimit cmd s.link,
      windowMs := 10 * s.link.window, used := 1, lastFailure := none } s

/-! ### Noise (R74, R75) -/

/-- R75: one faulty or stray frame is counted; the eighth of the minute makes the noise condition active, if it
was not, and posts RETURN_NOISE as raised either way. -/
def countNoise (s : State) : State :=
  let n := min 65535 (s.engine.noiseCount + 1)
  let e := { s.engine with noiseCount := n }
  if n = 8 then
    raiseAlarm .returnNoise 0 { s with engine := { e with noiseActive := true } }
  else { s with engine := e }

/-- Count `n` frames (R74). -/
def countFrames : Nat → State → State
  | 0, s => s
  | n + 1, s => countFrames n (countNoise s)

/-- R75: a minute tick closes the noise minute. -/
def closeNoiseMinute (s : State) : State :=
  let quiet := decide (s.engine.noiseCount = 0) && s.engine.noiseActive
  let e := { s.engine with noiseCount := 0 }
  if quiet then endAlarm .returnNoise 0 { s with engine := { e with noiseActive := false } }
  else { s with engine := e }

/-- R65, R66: what is still in the buffer at the end of an attempt is discarded and counted. -/
def discardBuffer (s : State) : State :=
  countFrames s.engine.buffer.length { s with engine := { s.engine with buffer := [] } }

/-! ### Return reception (R71 to R73) -/

/-- R73: the newer buffered frame is given the OVERRUN mark. -/
def markOverrun : List Frame → List Frame
  | [] => []
  | [f] => [{ f with overrun := true }]
  | f :: l => f :: markOverrun l

/-- R72: what the receiver does with a frame that has its receive status. -/
def receiveFrame (f : Frame) (s : State) : State :=
  let s : State := { s with engine := { s.engine with inFrame := false } }
  match s.engine.state with
  | .awaiting =>
    if s.engine.buffer.length < 2 then
      { s with engine := { s.engine with buffer := s.engine.buffer ++ [f] } }
    else { s with engine := { s.engine with buffer := markOverrun s.engine.buffer } }
  | .idle => countNoise s
  | .sending => countNoise s

/-- R71, R72: the frame that the receiver decides from the samples of its symbols. -/
def decidedFrame (bytes : List SampledByte) (stops : List SampledStop) : Frame :=
  { bytes := decidedBytes bytes, status := frameStatus (decidedBytes bytes) (stopsGood stops),
    overrun := false }

/-- FRAME_RECEIVED (R71, R72): the frame in reception, which its start indication began, is complete. With none in
reception, the receiver being stopped (R77) or still watching for a start indication, this is no event
(log 7). -/
def execFrameReceived (bytes : List SampledByte) (stops : List SampledStop) (s : State) : Result :=
  if wfSamples bytes stops then
    if s.engine.returnOn && s.engine.inFrame then .next (receiveFrame (decidedFrame bytes stops) s)
    else .next s
  else .fault .incompleteFrame

/-- FRAME_STREAM_TIMEOUT (R72): the frame in reception is given FRAMING_FAULT. -/
def execFrameStreamTimeout (s : State) : Result :=
  if s.engine.returnOn && s.engine.inFrame then
    .next (receiveFrame { bytes := [], status := .framingFault, overrun := false } s)
  else .next s

/-- START_INDICATION (R71): watched for while the return is ON and no frame is in reception. -/
def execStartIndication (a b c : Bool) (s : State) : Result :=
  if s.engine.returnOn && !s.engine.inFrame && majority a b c then
    .next { s with engine := { s.engine with inFrame := true } }
  else .next s

end Sys2Proof.Machine
end

