-- ==== Sys2Proof/Machine/Arbiter.lean ====
section
/-! DEFINITION. The broadcast requester, the technician queue's transactions and the carrier arbiter: readiness,
choice and grant (sections 4.4, 5.1 to 5.4). -/

namespace Sys2Proof.Machine

/-! ### The broadcast requester (R69) -/

/-- R69: a new revision is posted: the broadcast is wanted with the repeats of the link settings. -/
def reloadBroadcast (s : State) : State :=
  { s with broadcast := { s.broadcast with wanted := true, remaining := s.link.repeats } }

/-! ### The technician queue (R90) -/

/-- The unit class a query addresses. -/
def Query.cls (q : Query) : UnitClass :=
  match q.kind with
  | .tapQuery => .tap
  | .tapEcho => .tap
  | .stationQuery => .station

/-- The command a query sends. -/
def Query.command (q : Query) : Command :=
  match q.kind with
  | .tapQuery => .portRead
  | .tapEcho => .echo q.token
  | .stationQuery => .stationPoll

/-! ### Readiness (R80) -/

/-- R80: whether a requester is ready. It is computed from the requesters' state (log 6). -/
def State.ready (s : State) : Requester → Bool
  | .broadcast => s.broadcast.wanted
  | .technician => !s.techQ.waiting.isEmpty
  | .sync => !s.syncSet.isEmpty && s.engine.returnOn
  | .survey => s.surveyReady

/-- The order the mode chooses by (R83, R84). -/
def Arbiter.choiceOrder (a : Arbiter) : List Requester :=
  match a.mode with
  | .fixed => fixedOrder
  | .rotating => a.order

/-- R83, R84: the first ready requester in the order of the mode. -/
def State.chosen (s : State) : Option Requester := s.arbiter.choiceOrder.find? s.ready

/-- R84: in ROTATING the granted requester moves to the end; in FIXED the order stays (R83). -/
def Arbiter.granted (a : Arbiter) (r : Requester) : Arbiter :=
  match a.mode with
  | .fixed => a
  | .rotating => { a with order := a.order.erase r ++ [r] }

/-! ### The grant (R86) -/

/-- R70: a MAP LOAD with the map as it stands; its revision is the revision sent. -/
def grantBroadcast (s : State) : State :=
  takeTransaction .broadcast .allTaps 0 (.mapLoad s.tierMap)
    { s with broadcast := { s.broadcast with revisionSent := s.revision } }

/-- R90: the oldest waiting entry becomes the entry in flight. -/
def grantTechnician (s : State) : State :=
  match s.techQ.waiting with
  | q :: rest =>
    takeTransaction .technician q.cls q.addr q.command
      { s with techQ := { s.techQ with waiting := rest, inFlight := some q } }
  | [] => s

/-- R50: the tap at the head of the sync set leaves it, its PORT SET is built, and the masks with the current
revision become its last sent record. -/
def grantSync (s : State) : State :=
  match s.syncSet with
  | t :: rest =>
    let sent : LastSent := { masks := s.desiredMasks t, revision := s.revision }
    let g := setSync t .inFlight
      (({ s with syncSet := rest }).setTap t { s.tap t with lastSent := some sent })
    takeTransaction .sync .tap t (s.portSet t) g
  | [] => s

/-- R98, R105: the earliest due poll, or else the due audit step. -/
def grantSurvey (s : State) : State :=
  match s.choosePoll with
  | some b => takeTransaction .survey .station b .stationPoll (markPolled b s)
  | none =>
    match s.chooseAudit with
    | some t => takeTransaction .survey .tap t .portRead (markAudited t s)
    | none => s

/-- R86: the chosen requester builds its transaction and the engine takes it. -/
def grantTo (r : Requester) (s : State) : State :=
  match r with
  | .broadcast => grantBroadcast s
  | .technician => grantTechnician s
  | .sync => grantSync s
  | .survey => grantSurvey s

/-- R82: the arbiter decides: with the engine IDLE and the carrier ON it grants the chosen requester. -/
def arbitrate (s : State) : State :=
  if s.engine.state = .idle ∧ s.engine.carrierOn then
    match s.chosen with
    | some r => grantTo r { s with arbiter := s.arbiter.granted r }
    | none => s
  else s

end Sys2Proof.Machine
end

