-- ==== Sys2Proof/Machine/Completion.lean ====
section
/-! DEFINITION. The transaction from transmit completion to the hand-over of its completion record, and the
survey clock's events (sections 4.3, 5.4 and 6.3 to 6.5). -/

namespace Sys2Proof.Machine

/-! ### Codes of choices (R177) -/

/-- TAP QUERY, TAP ECHO, STATION QUERY by position (R88). -/
def QueryKind.code : QueryKind → Nat
  | .tapQuery => 0 | .tapEcho => 1 | .stationQuery => 2

/-- TAP, STATION, ALL TAPS by position (R59). -/
def UnitClass.code : UnitClass → Nat
  | .tap => 0 | .station => 1 | .allTaps => 2

/-- DONE, NO_REPLY, FAULTY_REPLY, CARRIER_OFF by position (R67). -/
def TxnOutcome.code : TxnOutcome → Nat
  | .done => 0 | .noReply => 1 | .faultyReply => 2 | .carrierOff => 3

/-- MAINS, STANDBY, FAILED by position (R62). -/
def Supply.code : Supply → Nat
  | .mains => 0 | .standby => 1 | .failed => 2

/-- A station status as an answer or a notice carries it: each choice by its position in R62's list, the door
open 0 or closed 1 (R177). -/
def StationReport.wire (r : StationReport) : List Byte :=
  u8 r.supply.code ++ openClosed r.doorOpen ++ u16 r.level

/-- The content of a reply, as a completion notice carries it (R91). -/
def Reply.wire : Reply → List Byte
  | .tapStatus m rev housing => m.toList ++ u8 rev ++ yesNo housing
  | .stationStatus r => r.wire
  | .echo token => token

/-! ### The completion record (R67, R68) -/

/-- The completion record (R67). -/
structure Completion where
  requester : Requester
  cls : UnitClass
  addr : Nat
  cmd : Command
  used : Nat
  outcome : TxnOutcome
  reply : Option Reply
  deriving DecidableEq, Repr

/-- R70: a repeat is counted where the revision sent is still current. -/
def countRepeat (s : State) : State :=
  if s.broadcast.revisionSent = s.revision then
    let n := s.broadcast.remaining - 1
    { s with broadcast := { s.broadcast with remaining := n, wanted := decide (0 < n) } }
  else s

/-- R91: the body of the completion notice of an entry. DESIGN CHOICE (log 28): the reply, where there is one, stands
last with no presence byte, and where there is none nothing is sent for it; the address takes the 2 bytes
of a tap's, for a station as well. -/
def completionNotice (q : Query) (c : Completion) : List Byte :=
  u8 q.number ++ u8 q.kind.code ++ u8 c.cls.code ++ u16 c.addr ++ u8 c.used ++ u8 c.outcome.code
    ++ (match c.reply with
      | some r => r.wire
      | none => [])

/-- R68: a DONE PORT READ of the technician is taken into the tap record. -/
def technicianIntake (c : Completion) (s : State) : State :=
  match c.cmd, c.reply with
  | .portRead, some (.tapStatus m rev housing) => intakeReply c.addr m rev housing s
  | _, _ => s

/-- R91: the completion notice goes to the technician, the entry in flight is removed, and the reply is taken
in, in this order (log 20). -/
def technicianCompleted (c : Completion) (s : State) : State :=
  match s.techQ.inFlight with
  | some q =>
    technicianIntake c
      { putNotice .technician 163 (completionNotice q c) s with
        techQ := { s.techQ with inFlight := none } }
  | none => s

/-- R52 to R55: a PORT SET completes. -/
def syncCompleted (c : Completion) (s : State) : State :=
  match c.cmd, c.reply with
  | .portSet sent map, some (.tapStatus m rev housing) => portSetAnswered c.addr sent map m rev housing s
  | _, _ => portSetFailed c.addr c.outcome s

/-- R106: an audit PORT READ completes. -/
def auditCompleted (c : Completion) (s : State) : State :=
  let s : State := { s with survey := { s.survey with auditInFlight := none } }
  match c.reply with
  | some (.tapStatus m rev housing) => intakeReply c.addr m rev housing s
  | _ => auditFailed c.addr c.outcome s

/-- The station status of a reply. -/
def stationOf : Option Reply → Option StationReport
  | some (.stationStatus r) => some r
  | _ => none

/-- R99, R106: a transaction of the survey unit completes. -/
def surveyCompleted (c : Completion) (s : State) : State :=
  match c.cls with
  | .station => pollCompleted c.addr c.outcome (stationOf c.reply) s
  | _ => auditCompleted c s

/-- R68: the completion record is handed to the block that asked. -/
def handOver (c : Completion) (s : State) : State :=
  match c.requester with
  | .broadcast => countRepeat s
  | .technician => technicianCompleted c s
  | .sync => syncCompleted c s
  | .survey => surveyCompleted c s

/-- R67, R68: the transaction completes: the record is handed over, then the engine becomes IDLE, then the
arbiter decides. -/
def completeTxn (t : Txn) (o : TxnOutcome) (reply : Option Reply) (s : State) : State :=
  let s := handOver ⟨t.requester, t.cls, t.addr, t.cmd, t.used, o, reply⟩ s
  arbitrate { s with engine := { s.engine with state := .idle, txn := none, window := none } }

/-! ### The end of an attempt (R65 to R67) -/

/-- R65, R66: the window timer is cancelled, and what is still in the buffer is discarded and counted. -/
def closeAttempt (s : State) : State :=
  discardBuffer { s with engine := { s.engine with window := none } }

/-- The outcome a last failure gives (R67). -/
def Failure.outcome : Failure → TxnOutcome
  | .noReply => .noReply
  | .faultyReply => .faultyReply

/-- R67: an attempt ends with failure: a retry, or the completion. -/
def failAttempt (t : Txn) (f : Failure) (s : State) : State :=
  let s := closeAttempt s
  if !s.engine.carrierOn then completeTxn t .carrierOff none s
  else if t.used < t.limit then
    beginAttempt { t with used := t.used + 1, lastFailure := some f } s
  else completeTxn t f.outcome none s

/-- R67: an attempt ends with success. -/
def succeedAttempt (t : Txn) (r : Reply) (s : State) : State :=
  completeTxn t .done (some r) (closeAttempt s)

/-- R61, R65: whether a reply is of the kind the command expects, with the token sent. -/
def Command.expects : Command → Reply → Bool
  | .portSet _ _, .tapStatus _ _ _ => true
  | .portRead, .tapStatus _ _ _ => true
  | .stationPoll, .stationStatus _ => true
  | .echo sent, .echo got => decide (got = sent)
  | _, _ => false

/-- R65: an INTACT frame from the selected unit ends the attempt. -/
def judgeReply (t : Txn) (f : Frame) (s : State) : State :=
  match frameReply f.bytes with
  | some r => if t.cmd.expects r then succeedAttempt t r s else failAttempt t .faultyReply s
  | none => failAttempt t .faultyReply s

/-- R65: the frame `f` taken from the buffer is judged by the first case that applies. -/
def judgeFrame (t : Txn) (f : Frame) (s : State) : State :=
  if f.status ≠ .intact then failAttempt t .faultyReply (countNoise s)
  else if frameSender f.bytes ≠ some (t.cls, t.addr) then
    (if f.overrun then failAttempt t .faultyReply (countNoise s) else countNoise s)
  else judgeReply t f s

/-- R65: the oldest frame leaves the buffer and is judged. -/
def takeFrame (t : Txn) (s : State) : State :=
  match s.engine.buffer with
  | f :: rest => judgeFrame t f { s with engine := { s.engine with buffer := rest } }
  | [] => s

/-- R64: at transmit completion a MAP LOAD completes; any other command starts its reply window. -/
def transmitted (t : Txn) (s : State) : State :=
  match t.cmd with
  | .mapLoad _ => completeTxn t .done none s
  | _ =>
    { s with engine := { s.engine with state := .awaiting, window := some (s.now + t.windowMs) } }

/-- TRANSMIT_COMPLETION (R64). Without an attempt in transmission it is no event (log 7). -/
def execTransmitCompletion (s : State) : Result :=
  match s.engine.state, s.engine.txn with
  | .sending, some t => .next (transmitted t s)
  | _, _ => .next s

/-- REPLY_TAKE (R65). -/
def execReplyTake (s : State) : Result :=
  match s.engine.state, s.engine.txn with
  | .awaiting, some t => .next (takeFrame t s)
  | _, _ => .next s

/-- REPLY_WINDOW_EXPIRY (R66). -/
def execReplyWindowExpiry (s : State) : Result :=
  match s.engine.state, s.engine.txn, s.engine.window with
  | .awaiting, some t, some w => .next (failAttempt t .noReply (advanceTo w s))
  | _, _, _ => .next s

/-! ### The survey clock's events -/

/-- R98: the record of branch `b` becomes POLL_DUE. -/
def pollFallsDue (b : Nat) (s : State) : State := s.setWatch b { s.watch b with state := .pollDue }

/-- R102: the recovery poll of branch `b` becomes DUE. -/
def recoveryFallsDue (b : Nat) (s : State) : State := s.setWatch b { s.watch b with recovery := .due }

/-- R104: the audit step timer restarts and a step is due. -/
def auditStepFallsDue (s : State) : State :=
  { s with survey := { s.survey with
    auditTimer := s.survey.clock + intervalMs s.link.auditInterval, stepDue := true } }

/-- The time at which a watch will take its due time, deadline or recovery due time, where it has one to
take. -/
def Watch.pendingDue (w : Watch) : Option Nat := if w.state = .watching then w.due else none

/-- R101: the deadline still to come of a watched record. -/
def Watch.pendingDeadline (w : Watch) : Option Nat :=
  match w.state with
  | .watching => w.deadline
  | .pollDue => if w.deadlinePassed then none else w.deadline
  | .polled => if w.deadlinePassed then none else w.deadline
  | .silent => none
  | .unwatched => none

/-- R102: the recovery due time of a WAITING recovery poll. -/
def Watch.pendingRecovery (w : Watch) : Option Nat :=
  if w.state = .silent ∧ w.recovery = .waiting then w.recoveryDue else none

/-- The survey clock reaches the reading `t`, the effect `f` is taken, and the arbiter decides. Without a
reading to reach, or with the clock held short of it, nothing happens (R94, log 7). -/
def atSurveyTime (t : Option Nat) (f : State → State) (s : State) : State :=
  match t with
  | some t => if surveyReaches t s then arbitrate (f (advanceSurveyTo t s)) else s
  | none => s

/-- POLL_DUE_TIME (R98). -/
def execPollDueTime (b : Nat) (s : State) : Result :=
  if wfBranch b then .next (atSurveyTime (s.watch b).pendingDue (pollFallsDue b) s)
  else .fault .noSuchBranch

/-- STATION_DEADLINE (R101). -/
def execStationDeadline (b : Nat) (s : State) : Result :=
  if wfBranch b then .next (atSurveyTime (s.watch b).pendingDeadline (takeDeadline b) s)
  else .fault .noSuchBranch

/-- RECOVERY_DUE_TIME (R102). -/
def execRecoveryDueTime (b : Nat) (s : State) : Result :=
  if wfBranch b then .next (atSurveyTime (s.watch b).pendingRecovery (recoveryFallsDue b) s)
  else .fault .noSuchBranch

/-- AUDIT_STEP_TIMER_EXPIRY (R104). -/
def execAuditStepTimerExpiry (s : State) : Result :=
  .next (atSurveyTime (some s.survey.auditTimer) auditStepFallsDue s)

end Sys2Proof.Machine
end

