-- ==== Sys2Proof/Machine/Events.lean ====
section
/-! DEFINITION. The event scheduler: evaluation of a minute, start, end, settlement and purchases (chapter
10). The arbiter's decision after a pass over the buyers is a parameter `decide`: `arbitrate`
while the part runs, nothing inside a warm restart, which decides once at its end (R82; log 21). -/

namespace Sys2Proof.Machine

/-- FREE, SCHEDULED, SHOWING, ENDED, CANCELLED by position (R150). -/
def EventState.code : EventState → Nat
  | .free => 0 | .scheduled => 1 | .showing => 2 | .ended => 3 | .cancelled => 4

/-- The subscriber records whose purchase list names event `e`, in order of record number (R153). -/
def State.buyersOf (s : State) (e : Nat) : List Nat :=
  tabWhere (fun _ r => r.purchases.any fun p => decide (p.event = e)) s.subs

/-- R48: each buyer's tap is tested at that buyer's turn. -/
def testBuyers (e : Nat) (s : State) : State :=
  forEach (s.buyersOf e) (fun n s => entryTestOf (s.sub n).tap s) s

/-- R153: the event-state notice to the office and the schedule ports. -/
def eventNotice (e : Nat) (old : EventState) (s : State) : State :=
  let r := s.event e
  noticeTo ⟨true, false, true⟩ 164
    (u8 e ++ u8 r.state.code ++ u8 old.code ++ u32 s.billing.clock ++ u16 r.buyers) s

/-- Write the state of event `e`. -/
def setEventState (e : Nat) (v : EventState) (s : State) : State :=
  s.setEvent e { s.event e with state := v }

/-- R153, R154, R158: what follows a change of state to or from SHOWING: the buyers are posted, the
correlator is told of the slot, and the notice is sent. -/
def announceEvent (decide : State → State) (e : Nat) (old : EventState) (s : State) : State :=
  eventNotice e old (decideTiers (decide (testBuyers e s)))

/-- R153: event `e` starts. -/
def startEvent (decide : State → State) (e : Nat) (s : State) : State :=
  announceEvent decide e .scheduled (setEventState e .showing s)

/-- R154: an entry of an ended event with shown minutes `d` and price `price` is settled. -/
def Purchase.settled (d price : Nat) (p : Purchase) : Purchase :=
  if d ≤ (p.v - p.kev) * 2 ∧ 0 < d then { p with settlement := .charged, charge := some price }
  else { p with settlement := .refunded, charge := some 0 }

/-- Apply `f` to the entry of event `e` in each purchase list, in order of record number. -/
def mapPurchases (e : Nat) (f : Purchase → Purchase) (s : State) : State :=
  forEach (s.buyersOf e)
    (fun n s =>
      let r := s.sub n
      s.setSub n { r with purchases := r.purchases.map fun p => if p.event = e then f p else p }) s

/-- R154: event `e` ends and every purchase of it is settled. -/
def endEvent (decide : State → State) (e : Nat) (s : State) : State :=
  let r := s.event e
  announceEvent decide e .showing
    (mapPurchases e (Purchase.settled r.shown (r.price.getD 0)) (setEventState e .ended s))

/-- R152, step 1: the SHOWING event ends where the minute has reached its end or lies before its start. -/
def endShowing (decide : State → State) (m : Nat) (s : State) : State :=
  match s.showingEvent with
  | some e =>
    let r := s.event e
    if r.ends.getD 0 ≤ m ∨ m < r.start.getD 0 then endEvent decide e s else s
  | none => s

/-- Insert event `e` with start `t` behind the entries that start no later. -/
def insertByStart (e t : Nat) : List (Nat × Nat) → List (Nat × Nat)
  | [] => [(e, t)]
  | (f, u) :: l => if t < u then (e, t) :: (f, u) :: l else (f, u) :: insertByStart e t l

/-- The SCHEDULED events whose start is at or below `m`, in order of start minute (R152). -/
def State.dueEvents (s : State) (m : Nat) : List Nat :=
  ((s.events.filter fun e => decide (e.2.state = .scheduled) && decide (e.2.start.getD 0 ≤ m)).foldl
    (fun l e => insertByStart e.1 (e.2.start.getD 0) l) []).map Prod.fst

/-- R152, step 2: a SCHEDULED event starts, and at once ends where the minute has reached its end. -/
def takeStart (decide : State → State) (m e : Nat) (s : State) : State :=
  let ends := (s.event e).ends.getD 0
  let s := startEvent decide e s
  if ends ≤ m then endEvent decide e s else s

/-- R152: the events are evaluated against minute `m`. -/
def evaluateEvents (decide : State → State) (m : Nat) (s : State) : State :=
  let s := endShowing decide m s
  forEach (s.dueEvents m) (takeStart decide m) s

/-! ### Purchases (R155 to R158) -/

/-- An unsettled entry of event `e`. -/
def Purchase.fresh (e : Nat) : Purchase :=
  { event := e, v := 0, kev := 0, pev := 0, settlement := .unsettled, charge := none }

/-- The start minute of event `e`. -/
def State.startOf (s : State) (e : Nat) : Nat := (s.event e).start.getD 0

/-- R156: insert an entry behind every entry whose event starts at or before minute `t`. -/
def insertPurchase (startOf : Nat → Nat) (t : Nat) (p : Purchase) : List Purchase → List Purchase
  | [] => [p]
  | q :: l => if startOf q.event ≤ t then q :: insertPurchase startOf t p l else p :: q :: l

/-- Add to the buyer count of event `e` (R156). -/
def addBuyer (e : Nat) (s : State) : State :=
  s.setEvent e { s.event e with buyers := (s.event e).buyers + 1 }

/-- Take from the buyer count of event `e` (R157). -/
def dropBuyer (e : Nat) (s : State) : State :=
  s.setEvent e { s.event e with buyers := (s.event e).buyers - 1 }

/-- Remove the entry of event `e` from record `n`; the entries behind it keep their order. -/
def removePurchase (n e : Nat) (s : State) : State :=
  let r := s.sub n
  s.setSub n { r with purchases := r.purchases.filter fun p => decide (p.event ≠ e) }

/-- R158: a SCHEDULED event is cancelled: its entries leave the lists and its buyer count becomes 0. -/
def cancelScheduled (e : Nat) (s : State) : State :=
  let s := forEach (s.buyersOf e) (fun n s => removePurchase n e s) s
  eventNotice e .scheduled (s.setEvent e { s.event e with state := .cancelled, buyers := 0 })

/-- R158: the SHOWING event is cancelled: its entries are REFUNDED and its buyers posted. -/
def cancelShowing (e : Nat) (s : State) : State :=
  announceEvent arbitrate e .showing
    (mapPurchases e (fun p => { p with settlement := .refunded, charge := some 0 })
      (setEventState e .cancelled s))

end Sys2Proof.Machine
end

