-- ==== Sys2Proof/Machine/Accrual.lean ====
section
/-! DEFINITION. The accrual engine and the statement store: ticks, sweeps, visits, cycle close and statement
arithmetic (chapters 9 and 11). -/

namespace Sys2Proof.Machine

/-! ### One minute of one record (R145, R146) -/

/-- The class of a minute (R145). -/
inductive MinuteClass where
  | creditable | provisional | clear
  deriving DecidableEq, Repr

/-- Whether an episode is open with age at least `tc`. -/
def Episode.reaches (e : Episode) (tc : Nat) : Bool := e.isOpen && decide (tc ≤ e.age)

/-- R145: the class of a minute from the branch episode, the tier episode and the credit threshold. -/
def classify (branch tier : Episode) (tc : Nat) : MinuteClass :=
  if branch.reaches tc || tier.reaches tc then .creditable
  else if branch.isOpen || tier.isOpen then .provisional
  else .clear

/-- R145: the counters after a minute; `received` says whether the tier is in the billed set. -/
def TierCount.accrue (c : TierCount) (received : Bool) (k : MinuteClass) : TierCount :=
  if received then
    match k with
    | .creditable => { s := c.s + 1, k := c.k + (c.p + 1), p := 0 }
    | .provisional => { s := c.s + 1, k := c.k, p := min 240 (c.p + 1) }
    | .clear => { s := c.s + 1, k := c.k, p := 0 }
  else { c with p := 0 }

/-- The episode of the branch a record's tap hangs on; a closed one where there is none. -/
def State.episodeOf (s : State) (r : Subscriber) : Episode :=
  match r.tap with
  | some t =>
    match (s.tap t).branch with
    | some b => s.branchEpisode b
    | none => .cold
  | none => .cold

/-- The tiers 0–6. -/
def orderedTiers : List Nat := [0, 1, 2, 3, 4, 5, 6]

/-- Counters of tier `t` of a record. -/
def Subscriber.count (r : Subscriber) (t : Nat) : TierCount := tabGet .cold r.counters t

/-- R145: one tier of a record is accrued. -/
def accrueTier (s : State) (r : Subscriber) (t : Nat) (l : Table TierCount) : Table TierCount :=
  tabPut .cold l t
    ((tabGet .cold l t).accrue (hasTier r.billed t)
      (classify (s.episodeOf r) (s.tierEpisode t) s.billing.tc))

/-- R145: every tier 0–6 of a record is accrued. -/
def accrueTiers (s : State) (r : Subscriber) : Table TierCount :=
  orderedTiers.foldl (fun l t => accrueTier s r t l) r.counters

/-- The counters of a purchase as those of a tier (R146). -/
def Purchase.count (p : Purchase) : TierCount := ⟨p.v, p.kev, p.pev⟩

/-- R146: the purchase of the shown event is accrued as a tier would be. -/
def accruePurchase (s : State) (r : Subscriber) (p : Purchase) : Purchase :=
  let c := p.count.accrue (hasTier r.c 7)
    (classify (s.episodeOf r) (s.tierEpisode 7) s.billing.tc)
  { p with v := c.s, kev := c.k, pev := c.p }

/-- R146: the shown event of the sweep, while it is still SHOWING. -/
def State.shownNow (s : State) (shown : Option Nat) : Option Nat :=
  match shown with
  | some e => if (s.event e).state = .showing then some e else none
  | none => none

/-- R144: the visit to record `n` by a sweep whose shown event is `shown`. -/
def visitRecord (shown : Option Nat) (n : Nat) (s : State) : State :=
  let r := s.sub n
  match r.status with
  | .free => s
  | _ =>
    s.setSub n
      { r with
        counters := accrueTiers s r
        purchases := r.purchases.map fun p =>
          if some p.event = s.shownNow shown then accruePurchase s r p else p }

/-! ### Sweeps (R142, R143, R147, R148) -/

/-- The M at which CYCLE_OVERDUE begins (R148). -/
def overdueAt : Nat := 50400

/-- R142: a sweep completes without a lost tick; the sixtieth in a row ends the overrun. -/
def countCleanSweep (s : State) : State :=
  let n := min 60 (s.billing.clean + 1)
  let b := { s.billing with clean := n }
  if n = 60 ∧ s.billing.overrun then
    endAlarm .accrualOverrun 0 { s with billing := { b with overrun := false } }
  else { s with billing := b }

/-- R142: a tick is lost. -/
def loseTick (s : State) : State :=
  raiseAlarm .accrualOverrun 0 { s with billing := { s.billing with clean := 0, overrun := true } }

/-- R143: an open episode grows one sweep older. -/
def Episode.aged (e : Episode) : Episode := if e.isOpen then { e with age := min 65535 (e.age + 1) } else e

/-- R143: the age of every open episode increases. -/
def ageEpisodes (s : State) : State :=
  { s with
    branchEpisodes := tabMap .cold Episode.aged s.branchEpisodes
    tierEpisodes := tabMap .cold Episode.aged s.tierEpisodes }

/-- R143: the event this sweep counts: the SHOWING one whose shown minutes are below its duration. -/
def State.sweepEvent (s : State) : Option Nat :=
  match s.showingEvent with
  | some e => if (s.event e).shown < (s.event e).duration.getD 0 then some e else none
  | none => none

/-- R143: D of the shown event increases. -/
def countShown (e : Option Nat) (s : State) : State :=
  match e with
  | some e => s.setEvent e { s.event e with shown := (s.event e).shown + 1 }
  | none => s

/-- R143: a sweep that is not skipped starts. -/
def beginSweep (s : State) : State :=
  let e := s.sweepEvent
  let s := countShown e (ageEpisodes s)
  let s : State :=
    { s with billing := { s.billing with
      m := s.billing.m + 1, sweep := some { cursor := 1, shown := e } } }
  if s.billing.m = overdueAt then raiseAlarm .cycleOverdue 0 s else s

/-- R143: a sweep starts, or with M at 65,535 is skipped and completes at once. Where it starts no close
waits and no tick is pending, so nothing else follows a skipped sweep (R147). -/
def startSweep (s : State) : State :=
  if s.billing.m < 65535 then beginSweep s
  else countCleanSweep { s with billing := { s.billing with halted := true } }

/-- R142: step 3 of a tick. -/
def tickSweep (s : State) : State :=
  match s.billing.sweep, s.billing.tickPending with
  | none, _ => startSweep s
  | some _, false => { s with billing := { s.billing with tickPending := true } }
  | some _, true => loseTick s

/-! ### Cycle close (R162 to R164) -/

/-- R163: the line of a settled purchase. -/
def settledLine (s : State) (p : Purchase) : SettledLine :=
  { event := p.event, price := (s.event p.event).price.getD 0, settlement := p.settlement,
    charge := p.charge.getD 0 }

/-- R163: the snapshot's entry of a record. P is not taken. -/
def snapshotEntry (s : State) (n : Nat) (r : Subscriber) : SnapshotEntry :=
  { number := n, status := r.status, tap := r.tap, port := r.port,
    counters := tabMap .cold (fun c => { c with p := 0 }) r.counters,
    lines := (r.purchases.filter fun p => decide (p.settlement ≠ .unsettled)).map (settledLine s) }

/-- R163: the snapshot. -/
def State.takeSnapshot (s : State) : Snapshot :=
  { cycle := s.billing.cycle, m := s.billing.m, rates := s.billing.rates,
    entries := (s.subs.filter fun e => decide (e.2.status ≠ .free)).map
      fun e => snapshotEntry s e.1 e.2 }

/-- R164, items 1, 2 and 4: a record at the reset of the cycle. -/
def Subscriber.reset (r : Subscriber) : Subscriber :=
  let kept := r.purchases.filter fun p => decide (p.settlement = .unsettled)
  match r.status with
  | .free => r
  | .active => { r with counters := [], purchases := kept }
  | .removed => if kept = [] then .cold else { r with counters := [], purchases := kept }

/-- R164, item 3: an event at the reset of the cycle. -/
def Event.reset (e : Event) : Event :=
  match e.state with
  | .ended => .cold
  | .cancelled => .cold
  | _ => e

/-- The cycle number after `n`: from 65,535 to 1 (R164). -/
def cycleAfter (n : Nat) : Nat := if 65535 ≤ n then 1 else n + 1

/-- R164: the cycle is reset. -/
def resetCycle (s : State) : State :=
  let overdue := decide (overdueAt ≤ s.billing.m)
  let s : State :=
    { s with
      subs := tabMap .cold Subscriber.reset s.subs
      events := tabMap .cold Event.reset s.events
      billing := { s.billing with
        m := 0, halted := false, closeWaiting := false, cycle := cycleAfter s.billing.cycle } }
  if overdue then endAlarm .cycleOverdue 0 s else s

/-- R162: the content of the close's answer. -/
def closeContent (snap : Snapshot) (cycle : Nat) : List Byte :=
  u16 snap.cycle ++ u16 snap.m ++ u16 snap.entries.length ++ u16 cycle

/-- R162, R163, R164: the close is taken: the snapshot, then the reset. -/
def closeCycle (s : State) : State × Ans :=
  let snap := s.takeSnapshot
  let s := resetCycle { s with snapshot := some snap }
  (s, answerDone (closeContent snap s.billing.cycle))

/-- R162: the request in progress of the office is answered and ends. -/
def answerInProgress (p : Master) (a : Ans) (s : State) : State :=
  match (s.port p).inProgress with
  | some m => putAnswer p m a (s.setPort p { s.port p with inProgress := none })
  | none => s

/-- R147, item 1: a close that waits for the sweep is taken. -/
def takeWaitingClose (s : State) : State :=
  if s.billing.closeWaiting then
    let c := closeCycle s
    answerInProgress .office c.2 c.1
  else s

/-- R147, item 2: a pending tick starts its sweep. -/
def takePendingTick (s : State) : State :=
  if s.billing.tickPending then
    startSweep { s with billing := { s.billing with tickPending := false } }
  else s

/-- R147: the sweep in flight completes. -/
def completeSweep (s : State) : State :=
  takePendingTick
    (takeWaitingClose (countCleanSweep { s with billing := { s.billing with sweep := none } }))

/-- R144: the cursor passes one record. -/
def sweepOne (w : Sweep) (s : State) : State :=
  let s := visitRecord w.shown w.cursor s
  if 2048 ≤ w.cursor then completeSweep s
  else { s with billing := { s.billing with sweep := some { w with cursor := w.cursor + 1 } } }

/-- SWEEP_VISIT (R144). -/
def execSweepVisit (s : State) : Result :=
  match s.billing.sweep with
  | some w => .next (sweepOne w s)
  | none => .next s

/-! ### The minute tick (R140) -/

/-- One minute in ms. -/
def minuteMs : Nat := 60000

/-- The clock after `n`: from 4,294,967,295 to 0 (R140). -/
def minuteAfter (n : Nat) : Nat := if 4294967295 ≤ n then 0 else n + 1

/-- R140, R75: the tick at its expiry: the clock, the events, the sweep; then the noise minute is closed
(log 19). -/
def takeTick (s : State) : State :=
  let clock := minuteAfter s.billing.clock
  let s : State :=
    { s with billing := { s.billing with clock := clock, minuteTimer := s.now + minuteMs } }
  closeNoiseMinute (tickSweep (evaluateEvents arbitrate clock s))

/-- MINUTE_TICK (R140). -/
def execMinuteTick (s : State) : Result := .next (takeTick (advanceTo s.billing.minuteTimer s))

/-! ### Statements (R165, R166) -/

/-- R165: cents for `minutes` at rate `r` in a cycle of `m` minutes, rounded to the nearest. -/
def cents (r minutes m : Nat) : Nat := if m = 0 then 0 else (2 * r * minutes + m) / (2 * m)

/-- Rate of tier `t`. -/
def Snapshot.rate (n : Snapshot) (t : Nat) : Nat := tabGet 0 n.rates t

/-- A tier line (R165, R166). -/
structure TierLine where
  rate : Nat
  service : Nat
  credited : Nat
  billable : Nat
  charge : Nat
  credit : Nat
  deriving DecidableEq, Repr

/-- R165: the line of tier `t`. -/
def Snapshot.line (n : Snapshot) (e : SnapshotEntry) (t : Nat) : TierLine :=
  let c := tabGet .cold e.counters t
  let b := c.s - c.k
  { rate := n.rate t, service := c.s, credited := c.k, billable := b,
    charge := cents (n.rate t) b n.m, credit := cents (n.rate t) c.k n.m }

/-- R165: the total: the charges of the tiers and of the purchase lines. -/
def Snapshot.total (n : Snapshot) (e : SnapshotEntry) : Nat :=
  (orderedTiers.map fun t => (n.line e t).charge).sum + (e.lines.map SettledLine.charge).sum

/-- OPEN, CHARGED, REFUNDED by position (R155). -/
def Settlement.code : Settlement → Nat
  | .unsettled => 0 | .charged => 1 | .refunded => 2

/-- A tier line on the wire (R166). -/
def TierLine.wire (l : TierLine) : List Byte :=
  u32 l.rate ++ u16 l.service ++ u16 l.credited ++ u16 l.billable ++ u32 l.charge ++ u32 l.credit

/-- A purchase line on the wire (R166). DEDUCED (log 34): the settlement has its code in R155's list, CHARGED 1 and
REFUNDED 2. -/
def SettledLine.wire (l : SettledLine) : List Byte :=
  u8 l.event ++ u16 l.price ++ u8 l.settlement.code ++ u16 l.charge

/-- The status at close, ACTIVE 0 or REMOVED 1 by position (R163; log 24). -/
def closeStatus (v : SubStatus) : Nat := if v = .removed then 1 else 0

/-- R166: the content of a statement. DESIGN CHOICE (log 43): the seven tier lines stand without a count, the purchase
lines behind theirs (R177). -/
def Snapshot.statement (n : Snapshot) (e : SnapshotEntry) : List Byte :=
  u16 n.cycle ++ u16 n.m ++ u16 e.number ++ u8 (closeStatus e.status) ++ optZero u16 e.tap
    ++ optZero u8 e.port ++ orderedTiers.flatMap (fun t => (n.line e t).wire)
    ++ listOf SettledLine.wire e.lines ++ u32 (n.total e)

/-- The entry of a subscriber number (R166). -/
def Snapshot.entry (n : Snapshot) (k : Nat) : Option SnapshotEntry :=
  n.entries.find? fun e => decide (e.number = k)

end Sys2Proof.Machine
end

