-- ==== Sys2Proof/Machine/Requests.lean ====
section
/-! DEFINITION. The taking of requests: the port takes its oldest waiting request, checks authority and form,
hands it to the owning block and places the answer (R170 to R172). -/

namespace Sys2Proof.Machine

/-- Whether port `p` takes a request now: none is in progress and the output queue holds fewer than 16
messages (R170). -/
def State.canTake (s : State) (p : Master) : Bool :=
  (s.port p).inProgress.isNone && decide ((s.port p).outQ.length < 16)

/-- The oldest waiting request of port `p`, where the port takes it now and its kind satisfies `f`. -/
def State.takable (s : State) (p : Master) (f : Nat → Bool) : Option Msg :=
  match (s.port p).inQ with
  | m :: _ => if s.canTake p && f m.kind.toNat then some m else none
  | [] => none

/-- The oldest waiting request leaves the input queue (R170). -/
def dropHead (p : Master) (s : State) : State :=
  s.setPort p { s.port p with inQ := (s.port p).inQ.tail }

/-- What the owning block does with a request: the state after it and the answer. -/
abbrev Block (α : Type) := α → State → State × Ans

/-- A request handed to its owning block, and its answer placed (R170). -/
def runBlock {α : Type} (p : Master) (m : Msg) (block : Block α) (a : α) (s : State) : State :=
  putAnswer p m (block a s).2 (block a s).1

/-- R171: the checks of a taken request in order, and the block's answer. -/
def serve {α : Type} (p : Master) (m : Msg) (permitted : Bool) (parse : List Byte → Option α)
    (block : Block α) (s : State) : State :=
  if permitted then
    match parse m.body with
    | some a => runBlock p m block a s
    | none => putAnswer p m (refuse .malformed) s
  else putAnswer p m (refuse .notPermitted) s

/-- R170, R171: port `p` takes its oldest waiting request of kind `k`. A command that names a request which
is not the oldest waiting, or cannot be taken now, is no event (logs 7 and 21). -/
def takeRequest {α : Type} (p : Master) (k : Nat) (permitted : Bool) (parse : List Byte → Option α)
    (block : Block α) (s : State) : State :=
  match s.takable p (· == k) with
  | some m => serve p m permitted parse block (dropHead p s)
  | none => s

/-- The office's own requests (R171). -/
def isOffice (p : Master) : Bool := decide (p = .office)
/-- The technician's own requests (R171). -/
def isTechnician (p : Master) : Bool := decide (p = .technician)
/-- The schedule master's own requests (R171). -/
def isSchedule (p : Master) : Bool := decide (p = .schedule)

/-- A block that refuses: the state as it was (R171). -/
def refused (c : AnswerCode) (s : State) : State × Ans := (s, refuse c)

/-- A block that has taken the request, in the state `s` after it, and answers DONE with the content read from
that state. -/
def answered (content : State → List Byte) (s : State) : State × Ans := (s, answerDone (content s))

/-- No content. -/
def noContent (_ : State) : List Byte := []

/-- A setting given, clamped to its range, or the one held (section 4.5). -/
def givenOr (held lo hi : Nat) (given : Option Nat) : Nat :=
  match given with
  | some v => clamp lo hi v
  | none => held

/-- Whether a kind names a request of the catalogue (R171). -/
def isCatalogued (k : Nat) : Bool := within 1 45 k

/-- UNKNOWN_REQUEST (R171): a taken request of a kind outside the catalogue is MALFORMED. -/
def execUnknownRequest (p : Master) (s : State) : Result :=
  match s.takable p (fun k => !isCatalogued k) with
  | some m => .next (putAnswer p m (refuse .malformed) (dropHead p s))
  | none => .next s

/-! ### Codes of choices (R177) -/

/-- FREE, ACTIVE, REMOVED by position (R36). -/
def SubStatus.code : SubStatus → Nat
  | .free => 0 | .active => 1 | .removed => 2

/-- UNKNOWN, REACHABLE, UNREACHABLE by position (R39). -/
def Reach.code : Reach → Nat
  | .unknown => 0 | .reachable => 1 | .unreachable => 2

/-- IN_STEP, QUEUED, IN_FLIGHT, FAILED, MISMATCH by position (R39). -/
def SyncStatus.code : SyncStatus → Nat
  | .inStep => 0 | .queued => 1 | .inFlight => 2 | .failed => 3 | .mismatch => 4

/-- KEEP, FLOOR, DROP by position (R1). -/
def Behaviour.code : Behaviour → Nat
  | .keep => 0 | .floor => 1 | .drop => 2

/-- RETAIN, ALL by position (R1). -/
def WarmBehaviour.code : WarmBehaviour → Nat
  | .retain => 0 | .all => 1

/-- FULL, FLOOR, NONE by position (R22). -/
def Aim.code : Aim → Nat
  | .full => 0 | .floor => 1 | .off => 2

/-- STEADY, RAMPING by position (R25). -/
def Ramp.code : Ramp → Nat
  | .steady => 0 | .ramping => 1

/-- UNJUDGED, GOOD, LOW, HIGH, STUCK by position (R109). -/
def Judgement.code : Judgement → Nat
  | .unjudged => 0 | .good => 1 | .low => 2 | .high => 3 | .stuck => 4

/-- FINE, COARSE by position (R109). -/
def Resolution.wireCode : Resolution → Nat
  | .fine => 0 | .coarse => 1

/-- IDLE, SENDING, AWAITING by position (section 4.3.1). -/
def EngineState.code : EngineState → Nat
  | .idle => 0 | .sending => 1 | .awaiting => 2

/-- FIXED, ROTATING by position (R78). -/
def ArbMode.code : ArbMode → Nat
  | .fixed => 0 | .rotating => 1

/-- BROADCAST, TECHNICIAN, SYNC, SURVEY by position (R81). -/
def Requester.code : Requester → Nat
  | .broadcast => 0 | .technician => 1 | .sync => 2 | .survey => 3

/-- UNWATCHED, WATCHING, POLL_DUE, POLLED, SILENT by position (R95). -/
def WatchState.code : WatchState → Nat
  | .unwatched => 0 | .watching => 1 | .pollDue => 2 | .polled => 3 | .silent => 4

/-- NONE, WAITING, DUE, POLLED by position (R95). -/
def Recovery.code : Recovery → Nat
  | .noPoll => 0 | .waiting => 1 | .due => 2 | .polled => 3

/-! ### Content shared by several answers -/

/-- A purchase entry on the wire (R155). -/
def Purchase.wire (p : Purchase) : List Byte :=
  u8 p.event ++ u16 p.v ++ u16 p.kev ++ u16 p.pev ++ u8 p.settlement.code ++ optNum u16 p.charge

/-- A purchase list on the wire. -/
def purchasesWire (l : List Purchase) : List Byte := listOf Purchase.wire l

/-- The sync status of a tap on the wire. -/
def State.syncWire (s : State) (t : Nat) : List Byte := u8 (s.tap t).sync.code

/-- An event record on the wire, in the order of R150. -/
def Event.wire (e : Event) : List Byte :=
  u8 e.state.code ++ optZero u8 e.slot ++ optNum u32 e.start ++ optZero u16 e.duration
    ++ optNum u32 e.ends ++ optNum u16 e.price ++ u16 e.buyers ++ u16 e.shown

/-- A branch record on the wire, in the order of R122. -/
def Branch.wire (b : Branch) : List Byte :=
  yesNo b.defined ++ optZero u8 b.parent ++ yesNo b.station ++ u16 b.interval ++ yesNo b.forced
    ++ yesNo b.silent ++ yesNo b.supplyFailed ++ u16 b.installedTaps ++ u16 b.unreachableTaps
    ++ yesNo b.out ++ yesNo b.affected ++ yesNo b.shadowed

/-- An episode on the wire, in the order of R127. -/
def Episode.wire (e : Episode) : List Byte := yesNo e.isOpen ++ optNum u32 e.start ++ u16 e.age

/-- The link settings on the wire, in the order of R78. -/
def State.linkWire (s : State) : List Byte :=
  u8 s.link.window ++ u8 s.link.retries ++ u8 s.link.repeats ++ u8 s.link.auditInterval
    ++ u8 s.arbiter.mode.code

/-- The monitor's settings, settling and the scan cursor on the wire (R111). -/
def Monitor.wire (m : Monitor) : List Byte :=
  yesNo m.enable ++ u8 m.resolution.wireCode ++ u8 m.tolerance ++ u8 m.hysteresis ++ u8 m.persistence
    ++ yesNo m.settling ++ u8 m.cursor

/-- The seven rates on the wire. DESIGN CHOICE (log 43): their number is fixed, and no count stands before them. -/
def Billing.ratesWire (b : Billing) : List Byte := orderedTiers.flatMap fun t => u32 (tabGet 0 b.rates t)

end Sys2Proof.Machine
end

