-- ==== Sys2Proof/Machine/OfficeRequests.lean ====
section
/-! DEFINITION. The office's requests: subscribers, purchases, clock, rates, cycle close and statements
(chapters 3, 9, 10 and 11). -/

namespace Sys2Proof.Machine

/-! ### Subscribers (R41 to R43) -/

/-- Whether a W names tier 7, which is passed only by purchase. -/
def orders7 (w : TierSet) : Bool := hasTier w 7

/-- The record a SUBSCRIBER ADD asks for: the one named, or the lowest FREE one. -/
def State.addTarget (s : State) (a : AddArgs) : Option Nat :=
  match a.number with
  | some n => some n
  | none => subNumbers.find? fun n => decide ((s.sub n).status = .free)

/-- R41: the record of a new subscriber; C is the tap's reported mask for the port, where known. -/
def Subscriber.added (r : Subscriber) (a : AddArgs) (t : Tap) : Subscriber :=
  { r with status := .active, tap := some a.tap, port := some a.port, w := a.w,
           c := (t.reported.get a.port).getD 0, locked := false }

/-- R41: an ADD that passes the checks writes record `n` and tests the tap, and the arbiter decides. DESIGN CHOICE
(log 35): the sync status of the answer is read after that grant, so IN_FLIGHT where the tap is granted at once. -/
def addSubscriber (n : Nat) (a : AddArgs) (s : State) : State :=
  arbitrate (entryTest a.tap (s.setSub n ((s.sub n).added a (s.tap a.tap))))

/-- The answer of an ADD (R41): number, W, C and the tap's sync status. -/
def addContent (n : Nat) (a : AddArgs) (s : State) : List Byte :=
  u16 n ++ [(s.sub n).w, (s.sub n).c] ++ s.syncWire a.tap

/-- SUBSCRIBER ADD at the subscriber store (R41). -/
def subscriberAdd : Block AddArgs := fun a s =>
  if (match a.number with
      | some n => !within 1 2048 n
      | none => false) || !within 1 512 a.tap || !within 1 4 a.port || orders7 a.w then
    refused .outOfRange s
  else if !(s.tap a.tap).installed then refused .notFound s
  else if (s.claimant a.tap a.port).isSome then refused .conflict s
  else
    match s.addTarget a with
    | none => refused .full s
    | some n =>
      if (s.sub n).status = .free then
        answered (addContent n a) (addSubscriber n a s)
      else refused .wrongState s

/-- SUBSCRIBER_ADD (R41). -/
def execSubscriberAdd (p : Master) (s : State) : Result :=
  .next (takeRequest p 1 (isOffice p) parseAdd subscriberAdd s)

/-- R42: W of record `n` is replaced and its tap tested; the W already held changes nothing. -/
def changeTiers (n : Nat) (w : TierSet) (s : State) : State :=
  let r := s.sub n
  if w = r.w then s else arbitrate (entryTestOf r.tap (s.setSub n { r with w := w }))

/-- The answer of a CHANGE (R42): W, C and the tap's sync status, read after the grant that the request has caused
(DESIGN CHOICE, log 35). -/
def changeContent (n : Nat) (s : State) : List Byte :=
  [(s.sub n).w, (s.sub n).c] ++ s.syncWire ((s.sub n).tap.getD 0)

/-- SUBSCRIBER CHANGE at the subscriber store (R42). DESIGN CHOICE (log 41): a W with tier 7 is OUT_OF_RANGE before a
record that is not ACTIVE is WRONG_STATE; R42 gives its refusals no order. -/
def subscriberChange : Block (Nat × TierSet) := fun a s =>
  if !within 1 2048 a.1 || orders7 a.2 then refused .outOfRange s
  else if (s.sub a.1).status ≠ .active then refused .wrongState s
  else answered (changeContent a.1) (changeTiers a.1 a.2 s)

/-- SUBSCRIBER_CHANGE (R42). -/
def execSubscriberChange (p : Master) (s : State) : Result :=
  .next (takeRequest p 2 (isOffice p) parseChange subscriberChange s)

/-- Whether the event of a purchase is SCHEDULED. -/
def State.isScheduled (s : State) (p : Purchase) : Bool :=
  decide ((s.event p.event).state = .scheduled)

/-- R43: the record after a removal. -/
def Subscriber.removedBy (r : Subscriber) (s : State) : Subscriber :=
  { r with status := .removed, w := 0, c := 0, locked := false,
           purchases := r.purchases.filter fun p => !s.isScheduled p }

/-- R43: record `n` is removed as one act. -/
def removeSubscriber (n : Nat) (s : State) : State :=
  let r := s.sub n
  let gone := (r.purchases.filter s.isScheduled).map Purchase.event
  arbitrate (entryTestOf r.tap (forEach gone dropBuyer (s.setSub n (r.removedBy s))))

/-- SUBSCRIBER REMOVE at the subscriber store (R43). -/
def subscriberRemove : Block Nat := fun n s =>
  if !within 1 2048 n then refused .outOfRange s
  else if (s.sub n).status ≠ .active then refused .wrongState s
  else answered noContent (removeSubscriber n s)

/-- SUBSCRIBER_REMOVE (R43). -/
def execSubscriberRemove (p : Master) (s : State) : Result :=
  .next (takeRequest p 3 (isOffice p) parse16 subscriberRemove s)

/-! ### Purchases (R156, R157) -/

/-- Whether record `r` holds an entry of event `e`. -/
def Subscriber.holds (r : Subscriber) (e : Nat) : Bool := r.purchases.any fun p => decide (p.event = e)

/-- R156, check 5: SCHEDULED, or SHOWING with less than half of its duration elapsed. -/
def State.onSale (s : State) (e : Nat) : Bool :=
  match (s.event e).state with
  | .scheduled => true
  | .showing => decide ((s.billing.clock - s.startOf e) * 2 < (s.event e).duration.getD 0)
  | _ => false

/-- R156: record `n` gains an entry of event `e`. -/
def addPurchase (n e : Nat) (s : State) : State :=
  let r := s.sub n
  let s' := addBuyer e
    (s.setSub n { r with purchases := insertPurchase s.startOf (s.startOf e) (.fresh e) r.purchases })
  if (s.event e).state = .showing then arbitrate (entryTestOf r.tap s') else s'

/-- The purchase list of record `n`, as an answer carries it. -/
def State.listWire (s : State) (n : Nat) : List Byte := purchasesWire (s.sub n).purchases

/-- PURCHASE at the event scheduler (R156). -/
def purchase : Block (Nat × Nat) := fun a s =>
  if !within 1 2048 a.1 || !within 1 16 a.2 then refused .outOfRange s
  else if (s.event a.2).state = .free then refused .notFound s
  else if (s.sub a.1).status ≠ .active then refused .wrongState s
  else if !s.onSale a.2 then refused .wrongState s
  else if (s.sub a.1).holds a.2 then refused .conflict s
  else if 4 ≤ (s.sub a.1).purchases.length then refused .full s
  else answered (fun t => t.listWire a.1) (addPurchase a.1 a.2 s)

/-- PURCHASE (R156). -/
def execPurchase (p : Master) (s : State) : Result :=
  .next (takeRequest p 4 (isOffice p) parse16x8 purchase s)

/-- R157: record `n` loses its entry of event `e`. -/
def cancelPurchase (n e : Nat) (s : State) : State := dropBuyer e (removePurchase n e s)

/-- PURCHASE CANCEL at the event scheduler (R157). DESIGN CHOICE (log 41): a list that does not name the event is NOT_FOUND
before an event that is not SCHEDULED is WRONG_STATE; R157 gives its refusals no order. -/
def purchaseCancel : Block (Nat × Nat) := fun a s =>
  if !within 1 2048 a.1 || !within 1 16 a.2 then refused .outOfRange s
  else if !(s.sub a.1).holds a.2 then refused .notFound s
  else if (s.event a.2).state ≠ .scheduled then refused .wrongState s
  else answered (fun t => t.listWire a.1) (cancelPurchase a.1 a.2 s)

/-- PURCHASE_CANCEL (R157). -/
def execPurchaseCancel (p : Master) (s : State) : Result :=
  .next (takeRequest p 5 (isOffice p) parse16x8 purchaseCancel s)

/-! ### Clock, rates and threshold (R141, R161) -/

/-- R141: the clock takes the minute given and the events are evaluated against it. -/
def setClock (m : Nat) (s : State) : State :=
  evaluateEvents arbitrate m { s with billing := { s.billing with clock := m } }

/-- CLOCK SET at the accrual engine (R141). -/
def clockSet : Block Nat := fun m s => answered (fun t => u32 t.billing.clock) (setClock m s)

/-- CLOCK_SET (R141). -/
def execClockSet (p : Master) (s : State) : Result :=
  .next (takeRequest p 6 (isOffice p) parse32 clockSet s)

/-- R161: the rates given are written, each clamped to 99,999. -/
def setRates (l : List (Nat × Nat)) (s : State) : State :=
  { s with billing := { s.billing with
    rates := l.foldl (fun t e => tabPut 0 t e.1 (min 99999 e.2)) s.billing.rates } }

/-- RATE SET at the accrual engine (R161). -/
def rateSet : Block (List (Nat × Nat)) := fun l s =>
  if l.any fun e => decide (6 < e.1) then refused .outOfRange s
  else answered (fun t => t.billing.ratesWire) (setRates l s)

/-- RATE_SET (R161). -/
def execRateSet (p : Master) (s : State) : Result :=
  .next (takeRequest p 7 (isOffice p) parseRates rateSet s)

/-- R161: T_c, clamped to 240. -/
def setCredit (v : Nat) (s : State) : State := { s with billing := { s.billing with tc := min 240 v } }

/-- CREDIT SET at the accrual engine (R161). -/
def creditSet : Block Nat := fun v s => answered (fun t => u8 t.billing.tc) (setCredit v s)

/-- CREDIT_SET (R161). -/
def execCreditSet (p : Master) (s : State) : Result :=
  .next (takeRequest p 8 (isOffice p) parse8 creditSet s)

/-! ### Cycle close and statements (R162, R166) -/

/-- R162: the close at the accrual engine: at once without a sweep in flight, else it waits and the request
stays in progress. -/
def closeOrWait (p : Master) (m : Msg) (s : State) : State :=
  match s.billing.sweep with
  | none => putAnswer p m (closeCycle s).2 (closeCycle s).1
  | some _ =>
    ({ s with billing := { s.billing with closeWaiting := true } }).setPort p
      { s.port p with inProgress := some m }

/-- R162, R171: a taken CYCLE CLOSE. -/
def serveClose (p : Master) (m : Msg) (s : State) : State :=
  if isOffice p then
    match parseEmpty m.body with
    | some _ => closeOrWait p m s
    | none => putAnswer p m (refuse .malformed) s
  else putAnswer p m (refuse .notPermitted) s

/-- CYCLE_CLOSE (R162). -/
def execCycleClose (p : Master) (s : State) : Result :=
  match s.takable p (· == 9) with
  | some m => .next (serveClose p m (dropHead p s))
  | none => .next s

/-- STATEMENT READ at the statement store (R166). -/
def statementRead : Block Nat := fun n s =>
  if !within 1 2048 n then refused .outOfRange s
  else
    match s.snapshot with
    | none => refused .notFound s
    | some snap =>
      match snap.entry n with
      | none => refused .notFound s
      | some e => answered (fun _ => snap.statement e) s

/-- STATEMENT_READ (R166). -/
def execStatementRead (p : Master) (s : State) : Result :=
  .next (takeRequest p 10 (isOffice p) parse16 statementRead s)

end Sys2Proof.Machine
end

