-- ==== Sys2Proof/Machine/PortEvents.lean ====
section
/-! DEFINITION. The master ports' receivers and transmitters: bytes, messages, the time between two bytes, and
messages sent (R167 to R172). -/

namespace Sys2Proof.Machine

/-- The start marker of a master message (R177). -/
def startMarker : Byte := 165

/-- R169: the time allowed between two bytes of a message, in ms. -/
def interByteMs : Nat := 100

/-- R169: the receiver of port `p` takes a state; while a message is collected its byte timer runs. -/
def setReceiver (p : Master) (rx : Receiver) (s : State) : State :=
  let timer := if rx = .hunting then none else some (s.now + interByteMs)
  s.setPort p { s.port p with rx := rx, byteTimer := timer }

/-- R170, R172: a checked request joins the input queue; with 4 waiting it is answered FULL where the output
queue holds fewer than 15 messages, and is otherwise discarded. -/
def acceptMessage (p : Master) (m : Msg) (s : State) : State :=
  let q := s.port p
  if q.inQ.length < 4 then s.setPort p { q with inQ := q.inQ ++ [m] }
  else if q.outQ.length < 15 then putAnswer p m (refuse .full) s
  else s

/-- The message and the check that collected bytes (kind, tag, body, check) hold. -/
def readCollected : List Byte → Option (Msg × List Byte)
  | kind :: tag :: rest =>
    let n := rest.length - 2
    some ({ kind := kind, tag := tag, body := rest.take n }, rest.drop n)
  | _ => none

/-- R169: the last byte of a message has arrived: a check that agrees hands it over, and hunting resumes. -/
def finishMessage (p : Master) (got : List Byte) (s : State) : State :=
  let s := setReceiver p .hunting s
  match readCollected got with
  | some (m, check) => if check = u16 (crc16 m.checkedPart).toNat then acceptMessage p m s else s
  | none => s

/-- R169: a hunting receiver examines a byte as a start marker. -/
def huntByte (p : Master) (byte : Byte) (s : State) : State :=
  if byte = startMarker then setReceiver p .awaitLength s else setReceiver p .hunting s

/-- R169: a byte without a framing fault reaches the receiver. -/
def takeByte (p : Master) (byte : Byte) (s : State) : State :=
  match (s.port p).rx with
  | .hunting => huntByte p byte s
  | .awaitLength =>
    if within 4 200 byte.toNat then setReceiver p (.collecting byte.toNat []) s else huntByte p byte s
  | .collecting n got =>
    if (got ++ [byte]).length < n then setReceiver p (.collecting n (got ++ [byte])) s
    else finishMessage p (got ++ [byte]) s

/-- MASTER_PORT_BYTE_RECEIVED (R169). A framing fault discards the message being collected (R167). -/
def execMasterPortByteReceived (p : Master) (byte : Byte) (stopFound : Bool) (s : State) : Result :=
  if stopFound then .next (takeByte p byte s) else .next (setReceiver p .hunting s)

/-- MESSAGE_RECEIVED (R169, R170): the command carries the whole checked message (log 16). -/
def execMessageReceived (p : Master) (kind tag : Byte) (body : List Byte) (s : State) : Result :=
  if wfBody body then
    .next (acceptMessage p { kind := kind, tag := tag, body := body } (setReceiver p .hunting s))
  else .fault .messageTooLong

/-- INTER_BYTE_TIMEOUT (R169): the message being collected is discarded. -/
def execInterByteTimeout (p : Master) (s : State) : Result :=
  match (s.port p).byteTimer with
  | some t => .next (setReceiver p .hunting (advanceTo t s))
  | none => .next s

/-- MESSAGE_SENT (R172): the message at the head of the output queue leaves it; its frame is the output
(log 5). -/
def execMessageSent (p : Master) (s : State) : Result :=
  let q := s.port p
  match q.outQ with
  | m :: rest => .next (s.setPort p { q with outQ := rest, sent := q.sent ++ [m.frame] })
  | [] => .next s

end Sys2Proof.Machine
end

