-- ==== Sys2Proof/Machine/SharedRequests.lean ====
section
/-! DEFINITION. The requests any master may send: sponsorship, audience, acknowledgement, identification and
the reads (chapters 1, 8 and 12). -/

namespace Sys2Proof.Machine

/-! ### Sponsorship (R13, R14) -/

/-- R13, R14: the sending master joins or leaves the sponsor set of slot `n`. -/
def setSponsor (p : Master) (v : Bool) (n : Nat) (s : State) : State :=
  let r := s.slot n
  refreshSlot n (s.setSlot n { r with sponsors := r.sponsors.put p v })

/-- The answer of a SPONSOR or WITHDRAW (R13, R14): the sponsor set and owed. DESIGN CHOICE (log 36): the owed condition
is owed 1, not owed 0. -/
def sponsorContent (n : Nat) (s : State) : List Byte :=
  (s.slot n).sponsors.byte ++ yesNo (s.slot n).owed

/-- SPONSOR and WITHDRAW at the line-up controller (R13, R14). -/
def sponsoring (p : Master) (v : Bool) : Block Nat := fun n s =>
  if within 1 40 n then answered (sponsorContent n) (setSponsor p v n s) else refused .outOfRange s

/-- SPONSOR (R13). -/
def execSponsor (p : Master) (s : State) : Result :=
  .next (takeRequest p 32 true parse8 (sponsoring p true) s)

/-- WITHDRAW (R14). -/
def execWithdraw (p : Master) (s : State) : Result :=
  .next (takeRequest p 33 true parse8 (sponsoring p false) s)

/-! ### Audience and acknowledgement (R131, R133) -/

/-- AUDIENCE SET at the alarm list (R131). -/
def audienceSet (p : Master) : Block ClassSet := fun c s =>
  answered (fun t => (t.alarms.filter p).byte) { s with alarms := s.alarms.setFilter p c }

/-- AUDIENCE_SET (R131). -/
def execAudienceSet (p : Master) (s : State) : Result :=
  .next (takeRequest p 34 true parseAudience (audienceSet p) s)

/-- The record that holds a serial, if any (R133). -/
def State.bySerial (s : State) (n : Nat) : Option AlarmRecord :=
  s.alarms.records.find? fun r => decide (r.serial = n)

/-- R133: the record with the sending master in its acknowledged set. -/
def AlarmRecord.ackedBy (r : AlarmRecord) (p : Master) : AlarmRecord :=
  { r with acked := r.acked.put p true }

/-- R133, R134: the acknowledgement is taken and the retirement decided. -/
def acknowledge (r : AlarmRecord) (s : State) : State :=
  retire r (setRecords (replaceRecord r s.alarms.records) s)

/-- The answer of an ALARM ACK (R133): state, acknowledged set, and whether the record has been retired. DESIGN CHOICE
(log 36): retired is 1, not retired 0. -/
def ackContent (r : AlarmRecord) (s : State) : List Byte :=
  u8 r.state.code ++ r.acked.byte ++ yesNo (s.alarm r.kind r.object).isNone

/-- ALARM ACK at the alarm list (R133). -/
def alarmAck (p : Master) : Block Nat := fun n s =>
  if within 1 65535 n then
    match s.bySerial n with
    | none => refused .notFound s
    | some r =>
      if r.audience.has p then answered (ackContent (r.ackedBy p)) (acknowledge (r.ackedBy p) s)
      else refused .notPermitted s
  else refused .outOfRange s

/-- ALARM_ACK (R133). -/
def execAlarmAck (p : Master) (s : State) : Result :=
  .next (takeRequest p 35 true parse16 (alarmAck p) s)

/-! ### Identification (R174) -/

/-- COLD-STARTED 0 or WARM 1 (R177). -/
def Ident.stateByte (i : Ident) : List Byte := u8 (if i.coldStarted then 0 else 1)

/-- The content of an IDENTIFY answer (R174, R177): vendor 1,047, part 316, revision 3. -/
def identContent (s : State) : List Byte :=
  u16 1047 ++ u16 316 ++ u8 3 ++ s.ident.stateByte ++ u16 s.ident.restarts

/-- IDENTIFY (R174). -/
def execIdentify (p : Master) (s : State) : Result :=
  .next (takeRequest p 36 true parseEmpty (fun _ s => answered identContent s) s)

/-! ### Reads (R174) -/

/-- A read of an identity within `1` to `hi`: the content as it stands, nothing changed (R174). -/
def reading (hi : Nat) (content : Nat → State → List Byte) : Block Nat := fun n s =>
  if within 1 hi n then answered (content n) s else refused .outOfRange s

/-- The content of a SLOT READ: the record and its working fields in the order of R1, then the measured level,
whether the slot is impaired, its tier's impairment and episode (R126), and the power mode (log 12). DESIGN CHOICE
(log 36): impaired is 1, not impaired 0. -/
def slotContent (n : Nat) (s : State) : List Byte :=
  let r := s.slot n
  optZero u8 r.source ++ u8 r.tier ++ r.sponsors.byte ++ u16 r.target ++ u16 r.floorLevel
    ++ u8 r.period ++ u8 r.reserve.code ++ u8 r.conserve.code ++ u8 r.warm.code
    ++ onOff r.carrierOn ++ optZero u16 r.level ++ u8 r.ramp.code ++ u8 r.aim.code ++ u16 r.aimLevel
    ++ yesNo r.atFloor ++ u8 r.judgement.code ++ u8 r.lowCount ++ u8 r.highCount ++ u8 r.clearCount
    ++ optNum u16 r.measured ++ yesNo (s.slotImpaired n) ++ yesNo (decide (s.heldCount r.tier ≠ 0))
    ++ (s.tierEpisode r.tier).wire ++ u8 s.power.mode.code

/-- SLOT_READ (R174). -/
def execSlotRead (p : Master) (s : State) : Result :=
  .next (takeRequest p 37 true parse8 (reading 40 slotContent) s)

/-- A tier's counters on the wire: S, K, P (R139). -/
def TierCount.wire (c : TierCount) : List Byte := u16 c.s ++ u16 c.k ++ u16 c.p

/-- The sync standing and the desired mask of a record (R36). The mask of a record that is not ACTIVE is empty
(log 23); the standing of a record without a tap is the free value `v` (log 4). -/
def State.standing (s : State) (r : Subscriber) (v : Byte) : List Byte :=
  (match r.tap with
    | some t => s.syncWire t
    | none => [v])
  ++ [if r.status = .active then s.wantedMask r else 0]

/-- The content of a SUBSCRIBER READ: the fields of R36 in order, the sync standing, the desired mask and the
billed set. DESIGN CHOICE (log 33): V, Kev and Pev are sent once, within the purchase entries (R155), and the
accrual counters are S, K and P tier by tier, without a count (log 43). -/
def subscriberContent (v : Byte) (n : Nat) (s : State) : List Byte :=
  let r := s.sub n
  u8 r.status.code ++ optZero u16 r.tap ++ optZero u8 r.port ++ [r.w, r.c] ++ yesNo r.locked
    ++ purchasesWire r.purchases ++ orderedTiers.flatMap (fun t => (r.count t).wire)
    ++ s.standing r v ++ [r.billed]

/-- SUBSCRIBER READ: a read that reports a free value moves to the next one (log 4). -/
def subscriberRead : Block Nat := fun n s =>
  let a := reading 2048 (subscriberContent (Config.syncStandingOfNoTap s.freeIdx)) n s
  if within 1 2048 n && (s.sub n).tap.isNone then ({ a.1 with freeIdx := s.freeIdx + 1 }, a.2) else a

/-- SUBSCRIBER_READ (R174). -/
def execSubscriberRead (p : Master) (s : State) : Result :=
  .next (takeRequest p 38 true parse16 subscriberRead s)

/-- One byte of an optional mask. -/
def maskWire (m : Option TierSet) : List Byte :=
  match m with
  | some v => [1, v]
  | none => [0]

/-- The last sent record on the wire: absent 0, or 1, the masks and the revision (log 24). -/
def lastSentWire (l : Option LastSent) : List Byte :=
  match l with
  | some v => 1 :: (v.masks.toList ++ u8 v.revision)
  | none => [0]

/-- The content of a TAP READ: the fields of R39 in order and the four desired masks. DESIGN CHOICE (log 43): no count
stands before the masks of the four ports. -/
def tapContent (t : Nat) (s : State) : List Byte :=
  let r := s.tap t
  yesNo r.installed ++ optZero u8 r.branch ++ u8 r.reach.code ++ optNum u8 r.heldRev
    ++ r.reported.toList.flatMap maskWire ++ yesNo r.housingOpen ++ u8 r.sync.code
    ++ lastSentWire r.lastSent ++ (s.desiredMasks t).toList

/-- TAP_READ (R174). -/
def execTapRead (p : Master) (s : State) : Result :=
  .next (takeRequest p 39 true parse16 (reading 512 tapContent) s)

/-- The content of a BRANCH READ: the record and the branch's episode (R122). -/
def branchReadContent (n : Nat) (s : State) : List Byte := (s.branch n).wire ++ (s.branchEpisode n).wire

/-- BRANCH_READ (R174). -/
def execBranchRead (p : Master) (s : State) : Result :=
  .next (takeRequest p 40 true parse8 (reading 64 branchReadContent) s)

/-- R94: a reading as a duration from the present one, in whole seconds rounded down (log 14). -/
def durationFrom (clock t : Nat) : Nat := (max clock t - min clock t) / 1000

/-- The last report on the wire: absent 0, or 1 and the status (log 24). -/
def reportWire (r : Option StationReport) : List Byte :=
  match r with
  | some v => 1 :: v.wire
  | none => [0]

/-- The content of a STATION READ: the fields of R95 in order, its times as durations of 4 bytes (R177). DESIGN CHOICE
(log 37): of a duration above 4,294,967,295 s the low 32 bits are sent. -/
def stationContent (b : Nat) (s : State) : List Byte :=
  let w := s.watch b
  let time := fun t : Option Nat => optNum u32 (t.map (durationFrom s.survey.clock))
  u8 w.state.code ++ u16 w.interval ++ time w.lastGood ++ time w.due ++ time w.deadline
    ++ yesNo w.deadlinePassed ++ u8 w.recovery.code ++ time w.recoveryDue ++ reportWire w.lastReport

/-- STATION_READ (R174). -/
def execStationRead (p : Master) (s : State) : Result :=
  .next (takeRequest p 41 true parse8 (reading 64 stationContent) s)

/-- An alarm record on the wire, in the order of R130. -/
def AlarmRecord.wire (r : AlarmRecord) : List Byte :=
  u16 r.serial ++ u8 r.kind.code ++ u16 r.object ++ u8 r.kind.severity.code ++ u8 r.state.code
    ++ u32 r.raised ++ optNum u32 r.cleared ++ u8 r.recurrence ++ r.audience.byte ++ r.acked.byte

/-- Page `n` of the list: places 8n − 7 to 8n (R174). -/
def alarmPage (n : Nat) (l : List AlarmRecord) : List AlarmRecord := (l.drop (8 * (n - 1))).take 8

/-- The content of an ALARM LIST READ: the page, the number of records and the incomplete flag (R174). -/
def alarmContent (n : Nat) (s : State) : List Byte :=
  listOf AlarmRecord.wire (alarmPage n s.alarms.records) ++ u8 s.alarms.records.length
    ++ yesNo s.alarms.incomplete

/-- ALARM_LIST_READ (R174). -/
def execAlarmListRead (p : Master) (s : State) : Result :=
  .next (takeRequest p 42 true parse8 (reading 16 alarmContent) s)

/-- EVENT_READ (R150, R174). -/
def execEventRead (p : Master) (s : State) : Result :=
  .next (takeRequest p 43 true parse8 (reading 16 fun n s => (s.event n).wire) s)

/-- The cursor of the sweep in flight. -/
def Billing.cursor (b : Billing) : Option Nat := b.sweep.map Sweep.cursor

/-- The content of a BILLING READ (R139). DESIGN CHOICE (log 36): a sweep in flight is 1, none 0; the overrun condition is
active 1, not active 0. -/
def billingContent (s : State) : List Byte :=
  u32 s.billing.clock ++ u16 s.billing.cycle ++ u16 s.billing.m ++ u8 s.billing.tc
    ++ s.billing.ratesWire ++ yesNo s.billing.sweep.isSome ++ optZero u16 s.billing.cursor
    ++ yesNo s.billing.tickPending ++ yesNo s.billing.halted ++ yesNo s.billing.overrun

/-- BILLING_READ (R174). -/
def execBillingRead (p : Master) (s : State) : Result :=
  .next (takeRequest p 44 true parseEmpty (fun _ s => answered billingContent s) s)

/-- The content of a LINK READ (R78): the link settings, enables, engine state, noise, broadcast and the
arbiter's order (R81). DESIGN CHOICE (log 36): the noise condition is active 1, not active 0. -/
def linkContent (s : State) : List Byte :=
  s.linkWire ++ onOff s.engine.carrierOn ++ onOff s.engine.returnOn ++ u8 s.engine.state.code
    ++ u16 s.engine.noiseCount ++ yesNo s.engine.noiseActive ++ yesNo s.broadcast.wanted
    ++ u8 s.broadcast.remaining ++ listOf (fun r : Requester => u8 r.code) s.arbiter.order

/-- LINK_READ (R78). -/
def execLinkRead (p : Master) (s : State) : Result :=
  .next (takeRequest p 45 true parseEmpty (fun _ s => answered linkContent s) s)

end Sys2Proof.Machine
end

