-- ==== Sys2Proof/Machine/Restart.lean ====
section
/-! DEFINITION. The warm restart and the cold start: what each block does at a start (R175, R176 and the restart
rule of each chapter). The order of the blocks is log 18's. -/

namespace Sys2Proof.Machine

/-! ### Ports (R167, R173, R175) -/

/-- R167: the bit rate two straps select. -/
def strapRate (b : StrapPair) : Nat :=
  match b.first, b.second with
  | false, false => 9600
  | true, false => 19200
  | false, true => 38400
  | true, true => 57600

/-- R175, R176: a port at a start: its queues empty, its receiver hunting, its straps read. What it has sent
stays sent (log 5). -/
def restartPort (b : StrapPair) (p : Master) (s : State) : State :=
  s.setPort p
    { rx := .hunting, byteTimer := none, inQ := [], inProgress := none, outQ := [], missed := false,
      straps := b, rate := strapRate b, sent := (s.port p).sent }

/-- The three ports at a start. -/
def restartPorts (b : Straps) (s : State) : State :=
  restartPort b.schedule .schedule (restartPort b.technician .technician (restartPort b.office .office s))

/-- R173, R175: the part-started notice to all three masters. -/
def announceStart (s : State) : State :=
  noticeTo allMasters 166 (s.ident.stateByte ++ u16 s.ident.restarts) s

/-- The restart count after `n`: from 65,535 to 0 (R174). -/
def restartAfter (n : Nat) : Nat := if 65535 ≤ n then 0 else n + 1

/-- R174: the restart count increases. -/
def countRestart (s : State) : State :=
  { s with ident := { s.ident with restarts := restartAfter s.ident.restarts } }

/-! ### Line-up and ramp (R2, R5, R21, R35) -/

/-- R5: the qualified presence of source `n` is taken from its line; a difference is a change. -/
def takeSource (n : Nat) (s : State) : State :=
  let r := s.source n
  let s := s.setSource n { r with present := r.line, timer := none }
  if r.present = r.line then s else presenceTaken n s

/-- R2: the sponsor set of slot `n` by its warm behaviour, then owed and source-lost. -/
def warmSponsors (n : Nat) (s : State) : State :=
  let r := s.slot n
  decideOwed n
    (match r.warm with
      | .all => s.setSlot n { r with sponsors := allMasters }
      | .retain => s)

/-- R35, step 1: slot `n` goes off, and OFF and its source are sent. -/
def dropCarrier (n : Nat) (s : State) : State :=
  let r := s.slot n
  sendSelector n r.source
    (sendModulator n none
      (s.setSlot n { r with carrierOn := false, level := none, ramp := .steady, stepTimer := none,
                            aim := .off, aimLevel := 100 }))

/-- R21: the qualified supply states are taken from the lines at once. -/
def takeSupply (s : State) : State :=
  { s with power := { s.power with
    mainsQ := s.power.mainsLine, reserveQ := s.power.reserveLine, mainsTimer := none,
    reserveTimer := none } }

/-- R21, R35, step 2: the power mode from the lines; a mode that differs is announced. -/
def warmMode (s : State) : State :=
  let s := takeSupply s
  let old := s.power.mode
  let new := powerModeOf s.power.mainsQ s.power.reserveQ
  if new = old then s
  else announceMode old new { s with power := { s.power with mode := new } }

/-- R35: the level ramp engine at a warm restart. -/
def restartRamp (s : State) : State :=
  forEach slotNumbers recomputeAim (warmMode (forEach slotNumbers dropCarrier s))

/-! ### The other blocks -/

/-- R121: the level monitor at a warm restart; its conversion begins when the restart is done. -/
def restartMonitor (s : State) : State :=
  let s : State := { s with monitor := { s.monitor with
    conversion := none, settling := s.monitor.enable, cursor := 1 } }
  clearJudgements s

/-- R121: the monitor begins a conversion of slot 1 where the enable is ON. -/
def resumeMonitor (s : State) : State := if s.monitor.enable then beginConversion 1 s else s

/-- R79, R81, R92: the engine, the arbiter and the technician queue at a warm restart. -/
def restartCarrier (s : State) : State :=
  { s with
    engine := { s.engine with
      state := .idle, txn := none, window := none, buffer := [], inFrame := false, noiseCount := 0 }
    arbiter := { s.arbiter with order := fixedOrder }
    techQ := { waiting := [], inFlight := none, nextNumber := 1 } }

/-- R108, items 1 and 2: a watch record at a warm restart, with the survey clock at `clock`. -/
def Watch.warm (w : Watch) (clock : Nat) : Watch :=
  match w.state with
  | .unwatched => w
  | .silent => { w with recovery := .due, recoveryDue := some clock }
  | _ => w.restarted clock

/-- R108: the plant survey unit at a warm restart. -/
def restartSurvey (s : State) : State :=
  { s with
    watches := tabMap .cold (fun w => w.warm s.survey.clock) s.watches
    survey := { s.survey with
      cursor := 1, stepDue := false, auditInFlight := none,
      auditTimer := s.survey.clock + intervalMs s.link.auditInterval } }

/-- R149: the accrual engine at a warm restart. -/
def restartAccrual (s : State) : State :=
  { s with billing := { s.billing with sweep := none, tickPending := false, closeWaiting := false } }

/-- R128: the tap counts of branch `n`, taken anew from the tap table. -/
def recountTaps (n : Nat) (s : State) : State :=
  let on := tabWhere (fun _ r => r.installed && decide (r.branch = some n)) s.taps
  let gone := on.filter fun t => decide ((s.tap t).reach = .unreachable)
  s.setBranch n { s.branch n with installedTaps := on.length, unreachableTaps := gone.length }

/-- R128: the outage correlator at a warm restart: one decision from the inputs as the other blocks left them. -/
def restartCorrelator (s : State) : State :=
  decideTiers (decideBranches (forEach branchNumbers recountTaps s))

/-- R140, R149: the minute timer restarts at the end of the restart. -/
def restartMinute (s : State) : State :=
  { s with billing := { s.billing with minuteTimer := s.now + minuteMs } }

/-- The line-up controller, the level monitor and the level ramp engine at a warm restart. DESIGN CHOICE (log 18): the
sources that differ are taken in rising number; R5 gives no order. -/
def restartHeadEnd (s : State) : State :=
  restartRamp
    (restartMonitor (forEach slotNumbers warmSponsors (forEach sourceNumbers takeSource s)))

/-- The control carrier's blocks, the survey unit and the accrual engine at a warm restart. -/
def restartPlant (s : State) : State := restartAccrual (restartSurvey (rebuildSync (restartCarrier s)))

/-- R175: the warm restart (log 18). -/
def warmRestart (b : Straps) (s : State) : State :=
  let s := announceStart (countRestart (restartPorts b s))
  let s := restartCorrelator (restartPlant (restartHeadEnd s))
  let s := evaluateEvents id s.billing.clock s
  arbitrate (resumeMonitor (restartMinute (clearUntrue s)))

/-! ### The cold start (R176) -/

/-- R5: the record of a source at a cold start, with its line as it stands. -/
def Source.started (r : Source) : Source := { line := r.line, present := r.line, timer := none }

/-- R19, R21: the supply lines and the mode at a cold start. -/
def Power.started (w : Power) : Power :=
  { mainsLine := w.mainsLine, reserveLine := w.reserveLine, mainsQ := w.mainsLine,
    reserveQ := w.reserveLine, mainsTimer := none, reserveTimer := none,
    mode := powerModeOf w.mainsLine w.reserveLine }

/-- R138: the alarm list at a cold start. -/
def Alarms.started (a : Alarms) : Alarms :=
  { a with records := [], incomplete := false, nextSerial := 1 }

/-- R34, R110: what the level ramp engine sends at a cold start, and the slot-select output, not driven. -/
def Outputs.started (o : Outputs) : Outputs :=
  { o with modulator := o.modulator ++ State.reset.out.modulator,
           selector := o.selector ++ State.reset.out.selector,
           slotSelect := State.reset.out.slotSelect }

/-- R176: every table and setting at its cold-start value. The lines, the waiting commands, the model's time
and what has been sent go on from before (logs 1 and 5). -/
def coldTables (s : State) : State :=
  { State.reset with
    pending := s.pending
    now := s.now
    freeIdx := s.freeIdx
    ports := s.ports
    sources := tabMap .cold Source.started s.sources
    power := s.power.started
    alarms := State.reset.alarms.started
    billing := { State.reset.billing with minuteTimer := s.now + minuteMs }
    out := s.out.started }

/-- R5: SOURCE_LOST for source `n`, where it is found LOST. -/
def raiseLost (n : Nat) (s : State) : State :=
  if (s.source n).present then s else raiseAlarm .sourceLost n s

/-- R138: the standing conditions raised at a cold start. -/
def raiseStanding (s : State) : State :=
  raiseAlarm .monitorOff 0 (postPower raiseAlarm s.power.mode (forEach sourceNumbers raiseLost s))

/-- R176: the cold start. -/
def coldStart (b : Straps) (s : State) : State :=
  raiseStanding (announceStart (restartPorts b (coldTables s)))

/-- RESTART_LINE (R176): an intact store gives a warm restart, a lost one a cold start. -/
def execRestartLine (intact : Bool) (straps : Straps) (s : State) : Result :=
  .next (if intact then warmRestart straps s else coldStart straps s)

/-- R171, R175: a taken RESTART: the restart itself, with no answer. -/
def serveRestart (p : Master) (m : Msg) (straps : Straps) (s : State) : State :=
  if isTechnician p then
    match parseEmpty m.body with
    | some _ => warmRestart straps s
    | none => putAnswer p m (refuse .malformed) s
  else putAnswer p m (refuse .notPermitted) s

/-- RESTART (R175). -/
def execRestart (p : Master) (straps : Straps) (s : State) : Result :=
  match s.takable p (· == 28) with
  | some m => .next (serveRestart p m straps (dropHead p s))
  | none => .next s

end Sys2Proof.Machine
end

