-- ==== Sys2Proof/Machine/ScheduleRequests.lean ====
section
/-! DEFINITION. The schedule master's requests: slots and events (chapters 1 and 10). -/

namespace Sys2Proof.Machine

/-! ### Slots (R10 to R12) -/

/-- R9, R10: whether a SLOT SET would move an event slot off tier 7. -/
def State.movesEventSlot (s : State) (a : SlotArgs) : Bool :=
  match a.tier with
  | some t => s.isEventSlot a.slot && decide ((s.slot a.slot).tier = 7) && decide (t ≠ 7)
  | none => false

/-- R11, R12: the slot record with the settings given, clamped in order. -/
def Slot.withArgs (r : Slot) (a : SlotArgs) : Slot :=
  let target := givenOr r.target 100 600 a.target
  { r with
    source := match a.source with
      | some n => zeroIsNone n
      | none => r.source
    tier := a.tier.getD r.tier
    target := target
    floorLevel := clamp 100 target (a.floorLevel.getD r.floorLevel)
    period := givenOr r.period 1 31 a.period
    reserve := a.reserve.getD r.reserve
    conserve := a.conserve.getD r.conserve
    warm := a.warm.getD r.warm }

/-- The revision after `n`: from 255 to 1 (R8). -/
def revisionAfter (n : Nat) : Nat := if 255 ≤ n then 1 else n + 1

/-- R8: a changed tier increments the revision. -/
def raiseRevision (s : State) : State := { s with revision := revisionAfter s.revision }

/-- R8: a new revision is posted to the broadcast requester and then to the port synchroniser; the arbiter decides at
each posting (log 21). -/
def postRevision (s : State) : State := arbitrate (entryTestAll (arbitrate (reloadBroadcast s)))

/-- R33: a changed source is sent on the source selector output. -/
def selectIfChanged (n : Nat) (old new : Option Nat) (s : State) : State :=
  if old = new then s else sendSelector n new s

/-- R12: the settings of a slot are written as one act, with the new revision where the tier changes, and every
change is posted. DESIGN CHOICE (log 39): the source, the aim and the correlator's decision come before the posting of
the new revision; R12 gives its postings no order. -/
def setSlotSettings (a : SlotArgs) (s : State) : State :=
  let old := s.slot a.slot
  let new := old.withArgs a
  let s := s.setSlot a.slot new
  let s := if old.tier = new.tier then s else raiseRevision s
  let s := refreshSlot a.slot (selectIfChanged a.slot old.source new.source s)
  if old.tier = new.tier then s else postRevision s

/-- The answer of a SLOT SET (R12): the settings and the revision. -/
def slotSetContent (n : Nat) (s : State) : List Byte :=
  let r := s.slot n
  optZero u8 r.source ++ u8 r.tier ++ u16 r.target ++ u16 r.floorLevel ++ u8 r.period
    ++ u8 r.reserve.code ++ u8 r.conserve.code ++ u8 r.warm.code ++ u8 s.revision

/-- SLOT SET at the line-up controller (R10 to R12). -/
def slotSet : Block SlotArgs := fun a s =>
  if !within 1 40 a.slot || !within 0 24 (a.source.getD 0) || !within 0 7 (a.tier.getD 0) then
    refused .outOfRange s
  else if s.movesEventSlot a then refused .conflict s
  else answered (slotSetContent a.slot) (setSlotSettings a s)

/-- SLOT_SET (R12). -/
def execSlotSet (p : Master) (s : State) : Result :=
  .next (takeRequest p 29 (isSchedule p) parseSlot slotSet s)

/-! ### Events (R151, R158) -/

/-- The greatest minute of the service clock (R139). -/
def clockMax : Nat := 4294967295

/-- R151: the settings clamped. -/
def ScheduleArgs.clamped (a : ScheduleArgs) : ScheduleArgs :=
  { a with duration := clamp 15 720 a.duration, price := min 9999 a.price }

/-- R151: whether the minutes from `start` to `ends` overlap a SCHEDULED or SHOWING event. -/
def State.overlaps (s : State) (start ends : Nat) : Bool :=
  s.events.any fun e =>
    (decide (e.2.state = .scheduled) || decide (e.2.state = .showing))
      && decide (start < e.2.ends.getD 0) && decide (e.2.start.getD 0 < ends)

/-- The lowest-numbered FREE event record (R151). -/
def State.freeEvent (s : State) : Option Nat :=
  eventNumbers.find? fun n => decide ((s.event n).state = .free)

/-- R151: the record of a scheduled event. -/
def scheduledEvent (a : ScheduleArgs) : Event :=
  { state := .scheduled, slot := some a.slot, start := some a.start, duration := some a.duration,
    ends := some (a.start + a.duration), price := some a.price, buyers := 0, shown := 0 }

/-- The answer of an EVENT SCHEDULE (R151): the number and the record. -/
def scheduleContent (n : Nat) (s : State) : List Byte := u8 n ++ (s.event n).wire

/-- R151: the checks after clamping, in order, and the scheduling. -/
def scheduleClamped (a : ScheduleArgs) (s : State) : State × Ans :=
  if !within 1 40 a.slot || decide (clockMax < a.start + a.duration) then refused .outOfRange s
  else if a.start ≤ s.billing.clock then refused .wrongState s
  else if (s.slot a.slot).tier ≠ 7 then refused .conflict s
  else if s.overlaps a.start (a.start + a.duration) then refused .conflict s
  else
    match s.freeEvent with
    | some n => answered (scheduleContent n) (s.setEvent n (scheduledEvent a))
    | none => refused .full s

/-- EVENT SCHEDULE at the event scheduler (R151). -/
def eventSchedule : Block ScheduleArgs := fun a s => scheduleClamped a.clamped s

/-- EVENT_SCHEDULE (R151). -/
def execEventSchedule (p : Master) (s : State) : Result :=
  .next (takeRequest p 30 (isSchedule p) parseSchedule eventSchedule s)

/-- EVENT CANCEL at the event scheduler (R158). -/
def eventCancel : Block Nat := fun e s =>
  if within 1 16 e then
    match (s.event e).state with
    | .free => refused .notFound s
    | .scheduled => answered noContent (cancelScheduled e s)
    | .showing => answered noContent (cancelShowing e s)
    | .ended => refused .wrongState s
    | .cancelled => refused .wrongState s
  else refused .outOfRange s

/-- EVENT_CANCEL (R158). -/
def execEventCancel (p : Master) (s : State) : Result :=
  .next (takeRequest p 31 (isSchedule p) parse8 eventCancel s)

end Sys2Proof.Machine
end

