-- ==== Sys2Proof/Machine/TechnicianRequests.lean ====
section
/-! DEFINITION. The technician's requests: locks, taps, branches, enables, link settings, queries, monitor and
resurvey (chapters 3, 4, 5, 7 and 8). RESTART stands in Restart.lean. -/

namespace Sys2Proof.Machine

/-! ### Locks (R44) -/

/-- R44: the locked field of record `n` takes a value, and a change tests the tap. -/
def lockRecord (v : Bool) (n : Nat) (s : State) : State :=
  let r := s.sub n
  if r.locked = v then s else arbitrate (entryTestOf r.tap (s.setSub n { r with locked := v }))

/-- The answer of a lock request (R44): number, locked and the tap's sync status, read after the grant that the
request has caused (DESIGN CHOICE, log 35). -/
def lockContent (n t : Nat) (s : State) : List Byte := u16 n ++ yesNo (s.sub n).locked ++ s.syncWire t

/-- PORT LOCK and PORT UNLOCK at the subscriber store (R44). -/
def portLocking (v : Bool) : Block (Nat × Nat) := fun a s =>
  if !within 1 512 a.1 || !within 1 4 a.2 then refused .outOfRange s
  else
    match s.claimant a.1 a.2 with
    | some n => answered (lockContent n a.1) (lockRecord v n s)
    | none => refused .notFound s

/-- PORT_LOCK (R44). -/
def execPortLock (p : Master) (s : State) : Result :=
  .next (takeRequest p 11 (isTechnician p) parse16x8 (portLocking true) s)

/-- PORT_UNLOCK (R44). -/
def execPortUnlock (p : Master) (s : State) : Result :=
  .next (takeRequest p 12 (isTechnician p) parse16x8 (portLocking false) s)

/-! ### Taps (R45, R46) -/

/-- R45: tap `t` is installed on branch `b`, the correlator is told and the tap tested. -/
def installTap (t b : Nat) (s : State) : State :=
  arbitrate
    (entryTest t (postInstalled b (s.setTap t { Tap.cold with installed := true, branch := some b })))

/-- TAP INSTALL at the subscriber store (R45). DESIGN CHOICE (log 41): an installed tap is CONFLICT before an undefined
branch is NOT_FOUND; R45 gives its refusals no order. -/
def tapInstall : Block (Nat × Nat) := fun a s =>
  if !within 1 512 a.1 || !within 1 64 a.2 then refused .outOfRange s
  else if (s.tap a.1).installed then refused .conflict s
  else if !(s.branch a.2).defined then refused .notFound s
  else answered noContent (installTap a.1 a.2 s)

/-- TAP_INSTALL (R45). -/
def execTapInstall (p : Master) (s : State) : Result :=
  .next (takeRequest p 13 (isTechnician p) parse16x8 tapInstall s)

/-- Whether an ACTIVE record names tap `t` (R46). -/
def State.tapClaimed (s : State) (t : Nat) : Bool :=
  s.subs.any fun e => decide (e.2.status = .active) && decide (e.2.tap = some t)

/-- End a condition of tap `t`, where it is true (R46). -/
def endIf (c : Bool) (k : AlarmKind) (t : Nat) (s : State) : State := if c then endAlarm k t s else s

/-- R46: the conditions of a removed tap that were true are ended. DESIGN CHOICE (log 17): TAP_UNREACHABLE first, then
TAP_MISMATCH, then TAP_HOUSING_OPEN; R46 gives them no order. -/
def endTapConditions (t : Nat) (r : Tap) (s : State) : State :=
  endIf r.housingOpen .tapHousingOpen t
    (endIf (decide (r.sync = .mismatch)) .tapMismatch t
      (endIf (decide (r.reach = .unreachable)) .tapUnreachable t s))

/-- The removal of a tap is posted to the branch it hung on (R46). -/
def postTapGone (r : Tap) (s : State) : State :=
  match r.branch with
  | some b => postRemoved b (decide (r.reach = .unreachable)) s
  | none => s

/-- R46: tap `t` is removed: it leaves the sync set, its conditions end, the correlator is told, and its record then
returns to the cold-start values. Its leaving UNREACHABLE ends a TAP_UNREACHABLE that the correlator's posting has
raised while the record stood (R40, R136; DEDUCED, log 17). -/
def removeTap (t : Nat) (s : State) : State :=
  let r := s.tap t
  let s := endTapConditions t r { s with syncSet := s.syncSet.erase t }
  let s := (postTapGone r s).setTap t .cold
  endIf (decide (r.reach = .unreachable)) .tapUnreachable t s

/-- TAP REMOVE at the subscriber store (R46). -/
def tapRemove : Block Nat := fun t s =>
  if !within 1 512 t then refused .outOfRange s
  else if !(s.tap t).installed then refused .notFound s
  else if s.tapClaimed t || decide ((s.tap t).sync = .inFlight)
      || decide (s.survey.auditInFlight = some t) then
    refused .conflict s
  else answered noContent (removeTap t s)

/-- TAP_REMOVE (R46). -/
def execTapRemove (p : Master) (s : State) : Result :=
  .next (takeRequest p 14 (isTechnician p) parse16 tapRemove s)

/-! ### Branches (R123, R124) -/

/-- The defined branches that name `n` as parent. -/
def State.childrenOf (s : State) (n : Nat) : List Nat :=
  tabWhere (fun _ b => b.defined && decide (b.parent = some n)) s.branches

/-- Branch `n` and its descendants among the defined branches (R122). -/
def State.subtree (s : State) (n : Nat) : List Nat :=
  n :: tabWhere (fun d b => b.defined && decide (d ≠ n) && s.isBelow n d) s.branches

/-- The depths below branch `n`, itself counting 1. -/
def State.height (s : State) (n : Nat) : Nat :=
  (s.subtree n).foldl (fun h d => max h (s.depth d - s.depth n + 1)) 1

/-- R123, check 4: the refusal of a parent, if any. -/
def State.parentRefusal (s : State) (n p : Nat) : Option AnswerCode :=
  if p = 0 then none
  else if !(s.branch p).defined then some .notFound
  else if s.isBelow n p then some .conflict
  else if 8 < s.depth p + s.height n then some .conflict
  else none

/-- R123: the record of a branch with the fields given. -/
def Branch.withArgs (b : Branch) (a : BranchArgs) : Branch :=
  { b with
    defined := true
    parent := match a.parent with
      | some p => zeroIsNone p
      | none => b.parent
    station := a.station.getD b.station
    interval := match a.interval with
      | some i => clamp 30 3600 i
      | none => b.interval }

/-- R97: a change of station present is posted to the survey unit. -/
def postStation (n : Nat) (before after : Bool) (s : State) : State :=
  if after && !before then stationGained n s
  else if before && !after then stationLost n s
  else s

/-- R123: branch `n` is defined or changed. The interval is posted before the station, so that a station
gained is watched at it (log 22). DESIGN CHOICE (log 38): a new parent is written before the loss of a station
is posted, so that what is decided at that loss is decided under the new parent. -/
def changeBranchRecord (n : Nat) (a : BranchArgs) (s : State) : State :=
  let old := s.branch n
  let new := old.withArgs a
  arbitrate
    (decideBranches
      (postStation n old.station new.station (postInterval n new.interval (s.setBranch n new))))

/-- R123: branch `n` is removed. The flags that its outage gave it are kept until the correlator decides, so
that each change is handed on (R125; log 22). -/
def removeBranch (n : Nat) (s : State) : State :=
  let old := s.branch n
  let s := s.setBranch n
    { Branch.cold with out := old.out, affected := old.affected, shadowed := old.shadowed }
  let s := decideBranches (postStation n old.station false s)
  s.setWatch n .cold

/-- The answer of a BRANCH SET (R123): the branch record. -/
def branchContent (n : Nat) (s : State) : List Byte := (s.branch n).wire

/-- BRANCH SET with remove (R123). -/
def branchRemoval (n : Nat) (s : State) : State × Ans :=
  if !(s.branch n).defined then refused .notFound s
  else if (s.branch n).installedTaps ≠ 0 || !(s.childrenOf n).isEmpty then refused .conflict s
  else answered (branchContent n) (removeBranch n s)

/-- BRANCH SET without remove (R123). -/
def branchChange (a : BranchArgs) (s : State) : State × Ans :=
  match s.parentRefusal a.branch (a.parent.getD 0) with
  | some c => refused c s
  | none => answered (branchContent a.branch) (changeBranchRecord a.branch a s)

/-- BRANCH SET at the outage correlator (R123). -/
def branchSet : Block BranchArgs := fun a s =>
  if !within 1 64 a.branch || !within 0 64 (a.parent.getD 0) then refused .outOfRange s
  else if a.remove then branchRemoval a.branch s
  else branchChange a s

/-- BRANCH_SET (R123). -/
def execBranchSet (p : Master) (s : State) : Result :=
  .next (takeRequest p 15 (isTechnician p) parseBranch branchSet s)

/-- R124: forced out takes a value; the value already held changes nothing. -/
def forceBranch (v : Bool) (n : Nat) (s : State) : State :=
  if (s.branch n).forced = v then s else changeBranch n (fun b => { b with forced := v }) s

/-- The answer of a forcing (R124): forced out, state and affected. -/
def forceContent (n : Nat) (s : State) : List Byte :=
  yesNo (s.branch n).forced ++ yesNo (s.branch n).out ++ yesNo (s.branch n).affected

/-- BRANCH FORCE and BRANCH RELEASE at the outage correlator (R124). -/
def branchForcing (v : Bool) : Block Nat := fun n s =>
  if !within 1 64 n then refused .outOfRange s
  else if !(s.branch n).defined then refused .notFound s
  else answered (forceContent n) (forceBranch v n s)

/-- BRANCH_FORCE (R124). -/
def execBranchForce (p : Master) (s : State) : Result :=
  .next (takeRequest p 16 (isTechnician p) parse8 (branchForcing true) s)

/-- BRANCH_RELEASE (R124). -/
def execBranchRelease (p : Master) (s : State) : Result :=
  .next (takeRequest p 17 (isTechnician p) parse8 (branchForcing false) s)

/-! ### Enables (R76, R77) -/

/-- R76: the carrier enable goes ON; the first one after a cold start ends COLD-STARTED. -/
def carrierOn (s : State) : State :=
  if s.engine.carrierOn then s
  else
    arbitrate { s with engine := { s.engine with carrierOn := true },
                       ident := { s.ident with coldStarted := false } }

/-- R76: the carrier enable goes OFF. The attempt in flight runs to its end. -/
def carrierOff (s : State) : State := { s with engine := { s.engine with carrierOn := false } }

/-- R77: the return enable goes ON. -/
def returnOn (s : State) : State :=
  if s.engine.returnOn then s
  else arbitrate { s with engine := { s.engine with returnOn := true } }

/-- R77: the return enable goes OFF: the frame in reception is discarded and the reply buffer emptied. -/
def returnOff (s : State) : State :=
  if s.engine.returnOn then
    { s with engine := { s.engine with returnOn := false, inFrame := false, buffer := [] } }
  else s

/-- CARRIER_ON (R76). -/
def execCarrierOn (p : Master) (s : State) : Result :=
  .next (takeRequest p 18 (isTechnician p) parseEmpty (fun _ s => answered noContent (carrierOn s)) s)

/-- CARRIER_OFF (R76). -/
def execCarrierOff (p : Master) (s : State) : Result :=
  .next (takeRequest p 19 (isTechnician p) parseEmpty (fun _ s => answered noContent (carrierOff s)) s)

/-- RETURN_ON (R77). -/
def execReturnOn (p : Master) (s : State) : Result :=
  .next (takeRequest p 20 (isTechnician p) parseEmpty (fun _ s => answered noContent (returnOn s)) s)

/-- RETURN_OFF (R77). -/
def execReturnOff (p : Master) (s : State) : Result :=
  .next (takeRequest p 21 (isTechnician p) parseEmpty (fun _ s => answered noContent (returnOff s)) s)

/-! ### Link settings (R78, R85) -/

/-- R78: the link settings after a LINK SET. -/
def Link.withArgs (l : Link) (a : LinkArgs) : Link :=
  { window := givenOr l.window 1 25 a.window
    retries := givenOr l.retries 0 3 a.retries
    repeats := givenOr l.repeats 1 4 a.repeats
    auditInterval := givenOr l.auditInterval 1 60 a.auditInterval }

/-- R85: a change of mode sets the current order to the fixed order. -/
def Arbiter.withMode (b : Arbiter) (m : Option ArbMode) : Arbiter :=
  match m with
  | some m => if m = b.mode then b else { mode := m, order := fixedOrder }
  | none => b

/-- LINK SET at the control carrier engine and the arbiter (R78, R85). -/
def linkSet : Block LinkArgs := fun a s =>
  answered State.linkWire { s with link := s.link.withArgs a, arbiter := s.arbiter.withMode a.mode }

/-- LINK_SET (R78). -/
def execLinkSet (p : Master) (s : State) : Result :=
  .next (takeRequest p 22 (isTechnician p) parseLink linkSet s)

/-! ### Queries (R89) -/

/-- The query number after `n`: from 255 to 1 (R89). -/
def queryAfter (n : Nat) : Nat := if 255 ≤ n then 1 else n + 1

/-- R89: an entry with the next query number joins the back of the waiting entries. -/
def enqueueQuery (k : QueryKind) (addr : Nat) (token : List Byte) (s : State) : State :=
  let q : Query := { number := s.techQ.nextNumber, kind := k, addr := addr, token := token }
  { s with techQ := { s.techQ with
    waiting := s.techQ.waiting ++ [q], nextNumber := queryAfter s.techQ.nextNumber } }

/-- R89: ACCEPTED with the query number and the number of entries waiting after the acceptance, which the
arbiter's decision follows. -/
def acceptQuery (k : QueryKind) (addr : Nat) (token : List Byte) (s : State) : State × Ans :=
  if s.techQ.waiting.length < 8 then
    (arbitrate (enqueueQuery k addr token s),
      ⟨.accepted, u8 s.techQ.nextNumber ++ u8 (s.techQ.waiting.length + 1)⟩)
  else refused .full s

/-- TAP QUERY at the technician queue (R89). -/
def tapQuery : Block Nat := fun t s =>
  if within 1 512 t then acceptQuery .tapQuery t [] s else refused .outOfRange s

/-- TAP ECHO at the technician queue (R89). -/
def tapEcho : Block (Nat × List Byte) := fun a s =>
  if within 1 512 a.1 then acceptQuery .tapEcho a.1 a.2 s else refused .outOfRange s

/-- STATION QUERY at the technician queue (R89). -/
def stationQuery : Block Nat := fun b s =>
  if within 1 64 b then acceptQuery .stationQuery b [] s else refused .outOfRange s

/-- TAP_QUERY (R89). -/
def execTapQuery (p : Master) (s : State) : Result :=
  .next (takeRequest p 23 (isTechnician p) parse16 tapQuery s)

/-- TAP_ECHO (R89). -/
def execTapEcho (p : Master) (s : State) : Result :=
  .next (takeRequest p 24 (isTechnician p) parseEcho tapEcho s)

/-- STATION_QUERY (R89). -/
def execStationQuery (p : Master) (s : State) : Result :=
  .next (takeRequest p 25 (isTechnician p) parse8 stationQuery s)

/-! ### Monitor and resurvey (R111, R137) -/

/-- R111: the settings after a MONITOR SET, clamped in its order. -/
def Monitor.withArgs (m : Monitor) (a : MonitorArgs) : Monitor :=
  let tolerance := givenOr m.tolerance 10 100 a.tolerance
  { m with
    enable := a.enable.getD m.enable
    resolution := a.resolution.getD m.resolution
    tolerance := tolerance
    hysteresis := min tolerance (a.hysteresis.getD m.hysteresis)
    persistence := givenOr m.persistence 1 8 a.persistence }

/-- R110, R113: what a change of resolution and a change of enable do. -/
def applyMonitor (old : Monitor) (s : State) : State :=
  let s := if s.monitor.resolution = old.resolution then s else restartConversion s
  if s.monitor.enable && !old.enable then monitorEnabled s
  else if old.enable && !s.monitor.enable then monitorDisabled s
  else s

/-- MONITOR SET at the level monitor (R111). -/
def monitorSet : Block MonitorArgs := fun a s =>
  answered (fun t => t.monitor.wire)
    (applyMonitor s.monitor { s with monitor := s.monitor.withArgs a })

/-- MONITOR_SET (R111). -/
def execMonitorSet (p : Master) (s : State) : Result :=
  .next (takeRequest p 26 (isTechnician p) parseMonitor monitorSet s)

/-- ALARM RESURVEY at the alarm list (R137): the number of records made and the incomplete flag. -/
def alarmResurvey : Block Unit := fun _ s =>
  let r := resurvey s
  answered (fun t => u8 r.2 ++ yesNo t.alarms.incomplete) r.1

/-- ALARM_RESURVEY (R137). -/
def execAlarmResurvey (p : Master) (s : State) : Result :=
  .next (takeRequest p 27 (isTechnician p) parseEmpty alarmResurvey s)

end Sys2Proof.Machine
end

