-- ==== Sys2Proof/Machine/Dispatch.lean ====
section
/-! DEFINITION. The effect of each command on the block: one arm per row of spec/opcode_table.json. -/

namespace Sys2Proof.Machine

/-- The effect of command `i` on state `s`, but for the queue of waiting commands. -/
def exec (i : Instr) (s : State) : Host.Outcome State Fault Refusal :=
  match i with
  | .sourcePresenceLineChange src high => Sys2Proof.Machine.execSourcePresenceLineChange src high s
  | .sourceQualificationExpiry src => Sys2Proof.Machine.execSourceQualificationExpiry src s
  | .supplyLineChange line high => Sys2Proof.Machine.execSupplyLineChange line high s
  | .supplyQualificationExpiry line => Sys2Proof.Machine.execSupplyQualificationExpiry line s
  | .stepTimerExpiry slot => Sys2Proof.Machine.execStepTimerExpiry slot s
  | .transmitCompletion => Sys2Proof.Machine.execTransmitCompletion s
  | .frameReceived bytes stops => Sys2Proof.Machine.execFrameReceived bytes stops s
  | .frameStreamTimeout => Sys2Proof.Machine.execFrameStreamTimeout s
  | .replyTake => Sys2Proof.Machine.execReplyTake s
  | .replyWindowExpiry => Sys2Proof.Machine.execReplyWindowExpiry s
  | .pollDueTime branch => Sys2Proof.Machine.execPollDueTime branch s
  | .stationDeadline branch => Sys2Proof.Machine.execStationDeadline branch s
  | .recoveryDueTime branch => Sys2Proof.Machine.execRecoveryDueTime branch s
  | .auditStepTimerExpiry => Sys2Proof.Machine.execAuditStepTimerExpiry s
  | .dwellExpiry reading => Sys2Proof.Machine.execDwellExpiry reading s
  | .minuteTick => Sys2Proof.Machine.execMinuteTick s
  | .sweepVisit => Sys2Proof.Machine.execSweepVisit s
  | .messageReceived p kind tag body => Sys2Proof.Machine.execMessageReceived p kind tag body s
  | .interByteTimeout p => Sys2Proof.Machine.execInterByteTimeout p s
  | .messageSent p => Sys2Proof.Machine.execMessageSent p s
  | .unknownRequest p => Sys2Proof.Machine.execUnknownRequest p s
  | .subscriberAdd p => Sys2Proof.Machine.execSubscriberAdd p s
  | .subscriberChange p => Sys2Proof.Machine.execSubscriberChange p s
  | .subscriberRemove p => Sys2Proof.Machine.execSubscriberRemove p s
  | .purchase p => Sys2Proof.Machine.execPurchase p s
  | .purchaseCancel p => Sys2Proof.Machine.execPurchaseCancel p s
  | .clockSet p => Sys2Proof.Machine.execClockSet p s
  | .rateSet p => Sys2Proof.Machine.execRateSet p s
  | .creditSet p => Sys2Proof.Machine.execCreditSet p s
  | .cycleClose p => Sys2Proof.Machine.execCycleClose p s
  | .statementRead p => Sys2Proof.Machine.execStatementRead p s
  | .portLock p => Sys2Proof.Machine.execPortLock p s
  | .portUnlock p => Sys2Proof.Machine.execPortUnlock p s
  | .tapInstall p => Sys2Proof.Machine.execTapInstall p s
  | .tapRemove p => Sys2Proof.Machine.execTapRemove p s
  | .branchSet p => Sys2Proof.Machine.execBranchSet p s
  | .branchForce p => Sys2Proof.Machine.execBranchForce p s
  | .branchRelease p => Sys2Proof.Machine.execBranchRelease p s
  | .carrierOn p => Sys2Proof.Machine.execCarrierOn p s
  | .carrierOff p => Sys2Proof.Machine.execCarrierOff p s
  | .returnOn p => Sys2Proof.Machine.execReturnOn p s
  | .returnOff p => Sys2Proof.Machine.execReturnOff p s
  | .linkSet p => Sys2Proof.Machine.execLinkSet p s
  | .tapQuery p => Sys2Proof.Machine.execTapQuery p s
  | .tapEcho p => Sys2Proof.Machine.execTapEcho p s
  | .stationQuery p => Sys2Proof.Machine.execStationQuery p s
  | .monitorSet p => Sys2Proof.Machine.execMonitorSet p s
  | .alarmResurvey p => Sys2Proof.Machine.execAlarmResurvey p s
  | .restart p straps => Sys2Proof.Machine.execRestart p straps s
  | .slotSet p => Sys2Proof.Machine.execSlotSet p s
  | .eventSchedule p => Sys2Proof.Machine.execEventSchedule p s
  | .eventCancel p => Sys2Proof.Machine.execEventCancel p s
  | .sponsor p => Sys2Proof.Machine.execSponsor p s
  | .withdraw p => Sys2Proof.Machine.execWithdraw p s
  | .audienceSet p => Sys2Proof.Machine.execAudienceSet p s
  | .alarmAck p => Sys2Proof.Machine.execAlarmAck p s
  | .identify p => Sys2Proof.Machine.execIdentify p s
  | .slotRead p => Sys2Proof.Machine.execSlotRead p s
  | .subscriberRead p => Sys2Proof.Machine.execSubscriberRead p s
  | .tapRead p => Sys2Proof.Machine.execTapRead p s
  | .branchRead p => Sys2Proof.Machine.execBranchRead p s
  | .stationRead p => Sys2Proof.Machine.execStationRead p s
  | .alarmListRead p => Sys2Proof.Machine.execAlarmListRead p s
  | .eventRead p => Sys2Proof.Machine.execEventRead p s
  | .billingRead p => Sys2Proof.Machine.execBillingRead p s
  | .linkRead p => Sys2Proof.Machine.execLinkRead p s
  | .restartLine intact straps => Sys2Proof.Machine.execRestartLine intact straps s
  | .startIndication a b c => Sys2Proof.Machine.execStartIndication a b c s
  | .masterPortByteReceived p byte stopFound => Sys2Proof.Machine.execMasterPortByteReceived p byte stopFound s

end Sys2Proof.Machine
end

