-- ==== Sys2Proof/Machine/Step.lean ====
section
/-! DEFINITION. One step of the block: the command at the front of the queue, or the passing of one
millisecond where none waits. -/

namespace Sys2Proof.Machine

/-- One step: the command at the front leaves the queue and runs; with an empty queue 1 ms passes (DESIGN CHOICE,
log 1). -/
def step (s : State) : Host.Outcome State Fault Refusal :=
  match s.pending with
  | c :: rest => exec c { s with pending := rest }
  | [] => .next (passTime 1 s)

/-- The state with the command that a word spells put at the front of its queue. No row of the table has
bits, so no word spells a command and the state is unchanged (log 2). -/
def State.withFetchWord (s : State) (nbits w : Nat) : State :=
  match decodeTableWord nbits w with
  | some c => { s with pending := c :: s.pending }
  | none => s

end Sys2Proof.Machine
end

