-- ==== Sys2Proof/Safety.lean ====
section
/-! DEFINITION. The terms of the claims: when a port takes a request, the catalogue of requests, what a claim
leaves unchanged, and the invariants of the part. -/

namespace Sys2Proof.Machine

/-! ### Taking a request (R170, R171) -/

/-- Message `m` is the oldest waiting request of port `p`, and the port takes it now (R170). -/
def Waits (s : State) (p : Master) (m : Msg) : Prop :=
  (s.port p).inProgress = none ∧ (s.port p).outQ.length < 16 ∧ (s.port p).inQ.head? = some m

/-- `m` is the request that port `p` takes now, and its kind is `k` (R168, R170). -/
def Asks (s : State) (p : Master) (k : Nat) (m : Msg) : Prop := Waits s p m ∧ m.kind.toNat = k

/-- `s` with the oldest request of port `p` taken and answered `a`, and nothing else done. -/
def afterAnswer (p : Master) (m : Msg) (a : Ans) (s : State) : State := putAnswer p m a (dropHead p s)

/-- The port and the request kind of a request row (the catalogue of R171). -/
def requestRow : Instr → Option (Master × Nat)
  | .subscriberAdd p => some (p, 1) | .subscriberChange p => some (p, 2)
  | .subscriberRemove p => some (p, 3) | .purchase p => some (p, 4)
  | .purchaseCancel p => some (p, 5) | .clockSet p => some (p, 6) | .rateSet p => some (p, 7)
  | .creditSet p => some (p, 8) | .cycleClose p => some (p, 9) | .statementRead p => some (p, 10)
  | .portLock p => some (p, 11) | .portUnlock p => some (p, 12) | .tapInstall p => some (p, 13)
  | .tapRemove p => some (p, 14) | .branchSet p => some (p, 15) | .branchForce p => some (p, 16)
  | .branchRelease p => some (p, 17) | .carrierOn p => some (p, 18) | .carrierOff p => some (p, 19)
  | .returnOn p => some (p, 20) | .returnOff p => some (p, 21) | .linkSet p => some (p, 22)
  | .tapQuery p => some (p, 23) | .tapEcho p => some (p, 24) | .stationQuery p => some (p, 25)
  | .monitorSet p => some (p, 26) | .alarmResurvey p => some (p, 27) | .restart p _ => some (p, 28)
  | .slotSet p => some (p, 29) | .eventSchedule p => some (p, 30) | .eventCancel p => some (p, 31)
  | .sponsor p => some (p, 32) | .withdraw p => some (p, 33) | .audienceSet p => some (p, 34)
  | .alarmAck p => some (p, 35) | .identify p => some (p, 36) | .slotRead p => some (p, 37)
  | .subscriberRead p => some (p, 38) | .tapRead p => some (p, 39) | .branchRead p => some (p, 40)
  | .stationRead p => some (p, 41) | .alarmListRead p => some (p, 42) | .eventRead p => some (p, 43)
  | .billingRead p => some (p, 44) | .linkRead p => some (p, 45)
  | .sourcePresenceLineChange _ _ => none | .sourceQualificationExpiry _ => none
  | .supplyLineChange _ _ => none | .supplyQualificationExpiry _ => none | .stepTimerExpiry _ => none
  | .transmitCompletion => none | .frameReceived _ _ => none | .frameStreamTimeout => none
  | .replyTake => none | .replyWindowExpiry => none | .pollDueTime _ => none
  | .stationDeadline _ => none | .recoveryDueTime _ => none | .auditStepTimerExpiry => none
  | .dwellExpiry _ => none | .minuteTick => none | .sweepVisit => none
  | .messageReceived _ _ _ _ => none | .interByteTimeout _ => none | .messageSent _ => none
  | .unknownRequest _ => none | .restartLine _ _ => none | .startIndication _ _ _ => none
  | .masterPortByteReceived _ _ _ => none

/-- The master column of the catalogue of R171. -/
def permits (k : Nat) (p : Master) : Bool :=
  if k ≤ 10 then decide (p = .office)
  else if k ≤ 28 then decide (p = .technician)
  else if k ≤ 31 then decide (p = .schedule)
  else true

/-- The body length of the rows of R177 whose bodies have one length; none for the others. -/
def fixedLength : Nat → Option Nat
  | 2 => some 3 | 3 => some 2 | 4 => some 3 | 5 => some 3 | 6 => some 4 | 8 => some 1 | 9 => some 0
  | 10 => some 2 | 11 => some 3 | 12 => some 3 | 13 => some 3 | 14 => some 2 | 16 => some 1
  | 17 => some 1 | 18 => some 0 | 19 => some 0 | 20 => some 0 | 21 => some 0 | 23 => some 2
  | 25 => some 1 | 27 => some 0 | 28 => some 0 | 30 => some 9 | 31 => some 1 | 32 => some 1
  | 33 => some 1 | 34 => some 1 | 35 => some 2 | 36 => some 0 | 37 => some 1 | 38 => some 2
  | 39 => some 2 | 40 => some 1 | 41 => some 1 | 42 => some 1 | 43 => some 1 | 44 => some 0
  | 45 => some 0 | _ => none

/-! ### The bodies of requests (R177) -/

/-- A number whose bit `i` says whether field `i` of a list is given. -/
def presenceBits : List Bool → Nat
  | [] => 0
  | b :: l => (if b then 1 else 0) + 2 * presenceBits l

/-- An optional field: its bytes where it is given. -/
def given {α : Type} (enc : α → List Byte) : Option α → List Byte
  | some v => enc v
  | none => []

/-- The body of SUBSCRIBER ADD. -/
def addBody (a : AddArgs) : List Byte :=
  u8 (presenceBits [a.number.isSome]) ++ given u16 a.number ++ u16 a.tap ++ u8 a.port ++ [a.w]

/-- The body of RATE SET: one optional rate for each of the tiers 0 to 7. -/
def ratesBody (l : List (Option Nat)) : List Byte :=
  u8 (presenceBits (l.map Option.isSome)) ++ l.flatMap (given u32)

/-- The rates such a body gives, each with its tier. -/
def ratesGiven (l : List (Option Nat)) : List (Nat × Nat) :=
  l.zipIdx.filterMap fun e => e.1.map fun r => (e.2, r)

/-- The body of BRANCH SET. -/
def branchBody (a : BranchArgs) : List Byte :=
  u8 a.branch ++ u8 (presenceBits [a.remove, a.parent.isSome, a.station.isSome, a.interval.isSome])
    ++ given u8 a.parent ++ given yesNo a.station ++ given u16 a.interval

/-- The body of LINK SET. -/
def linkBody (a : LinkArgs) : List Byte :=
  u8 (presenceBits [a.window.isSome, a.retries.isSome, a.repeats.isSome, a.auditInterval.isSome,
    a.mode.isSome])
    ++ given u8 a.window ++ given u8 a.retries ++ given u8 a.repeats ++ given u8 a.auditInterval
    ++ given (fun m => u8 m.code) a.mode

/-- The body of MONITOR SET. -/
def monitorBody (a : MonitorArgs) : List Byte :=
  u8 (presenceBits [a.enable.isSome, a.resolution.isSome, a.tolerance.isSome, a.hysteresis.isSome,
    a.persistence.isSome])
    ++ given yesNo a.enable ++ given (fun r => u8 r.wireCode) a.resolution ++ given u8 a.tolerance
    ++ given u8 a.hysteresis ++ given u8 a.persistence

/-- The body of SLOT SET. -/
def slotBody (a : SlotArgs) : List Byte :=
  u8 a.slot
    ++ u8 (presenceBits [a.source.isSome, a.tier.isSome, a.target.isSome, a.floorLevel.isSome,
      a.period.isSome, a.reserve.isSome, a.conserve.isSome, a.warm.isSome])
    ++ given u8 a.source ++ given u8 a.tier ++ given u16 a.target ++ given u16 a.floorLevel
    ++ given u8 a.period ++ given (fun b => u8 b.code) a.reserve
    ++ given (fun b => u8 b.code) a.conserve ++ given (fun b => u8 b.code) a.warm

/-- The body of EVENT SCHEDULE. -/
def scheduleBody (a : ScheduleArgs) : List Byte :=
  u8 a.slot ++ u32 a.start ++ u16 a.duration ++ u16 a.price

/-- R177: body `b` has the form of the row of kind `k`: its layout for some operands, or its one length. -/
def FitsForm (k : Nat) (b : List Byte) : Prop :=
  match k with
  | 1 => ∃ a : AddArgs, b = addBody a
  | 7 => ∃ l : List (Option Nat), l.length = 8 ∧ b = ratesBody l
  | 15 => ∃ a : BranchArgs, b = branchBody a ∧
      (a.remove = true → a.parent = none ∧ a.station = none ∧ a.interval = none)
  | 22 => ∃ a : LinkArgs, b = linkBody a
  | 24 => 3 ≤ b.length ∧ b.length ≤ 10
  | 26 => ∃ a : MonitorArgs, b = monitorBody a
  | 29 => ∃ a : SlotArgs, b = slotBody a
  | 34 => ∃ c : ClassSet, b = c.byte
  | _ => fixedLength k = some b.length

/-- Whether an optional number, where given, fits in `n` values. -/
def fits (n : Nat) (v : Option Nat) : Prop := ∀ x, v = some x → x < n

/-- Bytes arriving one after another on the line of port `p`, each with its stop bit found. -/
def receiveAll (p : Master) : List Byte → State → Result
  | [], s => .next s
  | b :: l, s =>
    match exec (.masterPortByteReceived p b true) s with
    | .next t => receiveAll p l t
    | .fault f => .fault f
    | .refused r => .refused r

/-! ### What a claim leaves unchanged

`t.butX = s.butX` says that `t` and `s` agree in every field but those named. -/

/-- Every field but the ports. -/
def State.butPorts (s : State) : State := { s with ports := State.reset.ports }

/-- Every field but the ports and the alarm list: what a posting to the alarm list leaves. -/
def State.butAlarms (s : State) : State := { s.butPorts with alarms := State.reset.alarms }

/-- Every field but those and the outage correlator's: what a change of a branch's inputs leaves. -/
def State.butBranches (s : State) : State := { s.butAlarms with branches := [], branchEpisodes := [] }

/-- Every field but those of the head end's slots: what the level ramp engine and the level monitor leave. -/
def State.butSlots (s : State) : State :=
  { s.butAlarms with
    slots := [], tierCount := [], tierEpisodes := [], monitor := State.reset.monitor,
    out := State.reset.out }

/-- Every field but those of the taps: what the entry test and a reply's intake leave. -/
def State.butTaps (s : State) : State := { s.butBranches with taps := [], syncSet := [], subs := [] }

/-- Every field but those a grant changes. -/
def State.butGrant (s : State) : State :=
  { s.butTaps with
    engine := State.reset.engine, arbiter := State.reset.arbiter, broadcast := State.reset.broadcast,
    techQ := State.reset.techQ, watches := [], survey := State.reset.survey, out := State.reset.out }

/-- Every field but those an evaluation of the events changes. -/
def State.butEvents (s : State) : State :=
  { s.butGrant with events := [], tierCount := [], tierEpisodes := [] }

/-! ### Notices -/

/-- R172: the notices of `kind` with these bodies, in their order, stand behind what port `p` had to send, or one of them
found no room, which the notices-missed flag says. -/
def Noticed (s t : State) (p : Master) (kind : Byte) (bodies : List (List Byte)) : Prop :=
  ((s.port p).outQ ++ bodies.map fun b => (⟨kind, 0, b⟩ : Msg)).Sublist (t.port p).outQ ∨
    ((t.port p).missed = true ∧ 15 ≤ (t.port p).outQ.length)

/-- R153: the body of the notice that event `e` has passed from the state `old` to `new` in minute `minute`, with its
buyer count. -/
def eventTold (e : Nat) (new old : EventState) (minute buyers : Nat) : List Byte :=
  u8 e ++ u8 new.code ++ u8 old.code ++ u32 minute ++ u16 buyers

/-! ### Invariants -/

/-- R81: the current order holds each requester exactly once. -/
def ArbiterSound (s : State) : Prop := s.arbiter.order.Perm fixedOrder

/-- R82: with the engine IDLE and the carrier ON no requester is ready. -/
def ArbiterRests (s : State) : Prop :=
  s.engine.state = .idle → s.engine.carrierOn = true → ∀ r, s.ready r = false

/-- R170, R172: at most 4 requests wait, at most 16 messages wait to be sent, and with a request in progress
there is room for its answer. -/
def PortSound (q : Port) : Prop :=
  q.inQ.length ≤ 4 ∧ q.outQ.length ≤ 16 ∧ (q.inProgress.isSome = true → q.outQ.length ≤ 15)

/-- The three ports. -/
def PortsSound (s : State) : Prop := ∀ p, PortSound (s.port p)

/-- R78, R111, R161, R69, R110, R112: every setting lies in its range, broadcast wanted is yes exactly while
repeats remain, a conversion is in progress exactly while the monitor's enable is ON, and the slot-select
output is the slot of the conversion, or not driven. -/
def SettingsSound (s : State) : Prop :=
  within 1 25 s.link.window = true ∧ s.link.retries ≤ 3 ∧ within 1 4 s.link.repeats = true ∧
  within 1 60 s.link.auditInterval = true ∧ within 10 100 s.monitor.tolerance = true ∧
  s.monitor.hysteresis ≤ s.monitor.tolerance ∧ within 1 8 s.monitor.persistence = true ∧
  s.billing.tc ≤ 240 ∧ s.broadcast.remaining ≤ 4 ∧
  (s.broadcast.wanted = true ↔ 0 < s.broadcast.remaining) ∧
  (s.monitor.conversion.isSome = true ↔ s.monitor.enable = true) ∧ within 1 40 s.monitor.cursor = true ∧
  s.out.slotSelect = s.monitor.conversion.map Conversion.slot

/-- R1, R25: one slot record. -/
def SlotSound (r : Slot) : Prop :=
  within 100 600 r.target = true ∧ within 100 r.target r.floorLevel = true ∧
  within 1 31 r.period = true ∧ r.tier ≤ 7 ∧ within 100 600 r.aimLevel = true ∧
  (r.carrierOn = false → r.level = none ∧ r.ramp = .steady ∧ r.aim = .off) ∧
  (r.carrierOn = true → ∃ l, r.level = some l ∧ within 100 600 l = true) ∧
  (r.carrierOn = true → r.ramp = .steady → r.level = some r.aimLevel ∧ r.aim ≠ .off) ∧
  (r.ramp = .ramping ↔ r.stepTimer.isSome = true)

/-- Every slot record. -/
def SlotsSound (s : State) : Prop := ∀ n, SlotSound (s.slot n)

/-- R130: the alarm list holds at most 128 records, no two of one kind and object and no two of one serial, each
acknowledged by members of its audience alone, with a cleared minute exactly while CLEARED. Serials lie
within 1–65,535. -/
def AlarmsSound (s : State) : Prop :=
  s.alarms.records.length ≤ 128 ∧
  (s.alarms.records.map fun r => (r.kind, r.object)).Nodup ∧
  (s.alarms.records.map AlarmRecord.serial).Nodup ∧ within 1 65535 s.alarms.nextSerial = true ∧
  ∀ r ∈ s.alarms.records, within 1 65535 r.serial = true ∧
    (∀ p, r.acked.has p = true → r.audience.has p = true) ∧
    (r.cleared.isSome = true ↔ r.state = .cleared)

/-- R129, R132, R135, R136, R138: a condition that is true, its gate open, has an ACTIVE record, but for one that found no
room, which the incomplete flag says; no other condition has an ACTIVE record. -/
def ConditionsSound (s : State) : Prop :=
  ∀ (k : AlarmKind), ∀ o ∈ k.objects,
    ((s.conditionTrue k o && s.gateOpen k o) = true →
      (∃ r, s.alarm k o = some r ∧ r.state = .active) ∨
        (s.alarms.incomplete = true ∧ s.alarm k o = none)) ∧
    ((s.conditionTrue k o && s.gateOpen k o) = false → ∀ r, s.alarm k o = some r → r.state = .cleared)

/-- Every table is in its canonical form. -/
def TablesSound (s : State) : Prop :=
  tabWf .cold s.sources = true ∧ tabWf .cold s.slots = true ∧ tabWf .cold s.subs = true ∧
  tabWf .cold s.taps = true ∧ tabWf .cold s.watches = true ∧ tabWf .cold s.branches = true ∧
  tabWf .cold s.events = true ∧ tabWf 0 s.tierCount = true ∧ tabWf .cold s.branchEpisodes = true ∧
  tabWf .cold s.tierEpisodes = true ∧ tabWf 0 s.billing.rates = true

/-- R47, R50, R39: the sync set holds each QUEUED tap once and no other, the tap of a sync transaction in flight
is IN_FLIGHT, and a tap that is not installed is IN_STEP. -/
def SyncSound (s : State) : Prop :=
  s.syncSet.Nodup ∧ (∀ t, t ∈ s.syncSet ↔ (s.tap t).sync = .queued) ∧
  (∀ x, s.engine.txn = some x → x.requester = .sync → (s.tap x.addr).sync = .inFlight) ∧
  ∀ t, (s.tap t).installed = false → (s.tap t).sync = .inStep

/-- R47, R48, R56: no installed tap that is IN_STEP is out of step by what it reports, and none that is MISMATCH is out
of step by what was last sent to it: every change that puts a tap out of step is followed by its entry test. -/
def StepsSound (s : State) : Prop :=
  ∀ t, (s.tap t).installed = true →
    ((s.tap t).sync = .inStep → s.outOfStepReported t = false) ∧
    ((s.tap t).sync = .mismatch → s.outOfStepSent t = false)

/-- R63 to R66, R73, R77: a transaction is held exactly while the engine is not IDLE; the window runs exactly
while it is AWAITING; frames wait in the buffer only then, at most two; the attempts stay within
their limit; and nothing is received while the return is OFF. -/
def EngineSound (s : State) : Prop :=
  (s.engine.state = .idle ↔ s.engine.txn = none) ∧
  (s.engine.state = .awaiting ↔ s.engine.window.isSome = true) ∧
  s.engine.buffer.length ≤ 2 ∧ (s.engine.buffer ≠ [] → s.engine.state = .awaiting) ∧
  (∀ x, s.engine.txn = some x → 1 ≤ x.used ∧ x.used ≤ x.limit ∧ x.limit ≤ 4) ∧ s.link.retries ≤ 3 ∧
  (s.engine.returnOn = false → s.engine.buffer = [] ∧ s.engine.inFrame = false)

/-- R15, R6, R24, R22: owed, source-lost, shed and the aim of every slot are what its settings, its source and the
power mode give. -/
def DecidedSound (s : State) : Prop :=
  ∀ n, wfSlot n = true →
    (s.slot n).owed = (s.slot n).isOwed ∧
    (s.slot n).sourceLost = ((s.slot n).isOwed && s.sourceIsLost (s.slot n)) ∧
    (s.slot n).shed = (s.slot n).isShed s.power.mode ∧
    ((s.slot n).aim, (s.slot n).aimLevel) = (s.slot n).aimIn s.power.mode

/-- R125: every branch's state is what its inputs give, and affected and shadowed are what the states of the branch
and its ancestors give. -/
def BranchesSound (s : State) : Prop :=
  ∀ n, (s.branch n).out = (s.branch n).isOut ∧
    (s.branch n).affected = ((s.branch n).out || s.ancestorOut n) ∧
    (s.branch n).shadowed = ((s.branch n).out && s.ancestorOut n)

/-- R122: every branch counts the installed taps on it and those of them that are UNREACHABLE. -/
def BranchCountsSound (s : State) : Prop :=
  ∀ n, (s.branch n).installedTaps
      = (tabWhere (fun _ r => r.installed && decide (r.branch = some n)) s.taps).length ∧
    (s.branch n).unreachableTaps
      = (tabWhere (fun _ r => r.installed && decide (r.branch = some n)
          && decide (r.reach = .unreachable)) s.taps).length

/-- R95, R97, R101, R102: a watch record. It is UNWATCHED exactly while its branch has no station, and then holds nothing
but its interval, which is the branch's; the branch counts as silent exactly while the record is SILENT, and its
supply as failed exactly while the last report says so. A SILENT record has a recovery poll and neither due time
nor deadline; another has no recovery poll, and one that is watched has both times, and when it was last heard. -/
def WatchesSound (s : State) : Prop :=
  ∀ n, let w := s.watch n
    (w.state = .unwatched ↔ (s.branch n).station = false) ∧ w.interval = (s.branch n).interval ∧
    (w.state = .unwatched → w = { Watch.cold with interval := w.interval }) ∧
    ((s.branch n).silent = true ↔ w.state = .silent) ∧
    (s.branch n).supplyFailed = s.conditionTrue .stationSupplyFailed n ∧
    (w.state = .silent → w.due = none ∧ w.deadline = none ∧ w.deadlinePassed = false ∧
      w.recovery ≠ .noPoll ∧ w.recoveryDue.isSome = true ∧ w.lastGood.isSome = true) ∧
    (w.state ≠ .silent → w.recovery = .noPoll ∧ w.recoveryDue = none) ∧
    (w.state ≠ .silent → w.state ≠ .unwatched →
      w.due.isSome = true ∧ w.deadline.isSome = true ∧ w.lastGood.isSome = true) ∧
    (w.state = .watching → w.deadlinePassed = false)

/-- R127: one episode, of a condition that holds or not: it is open exactly while the condition holds, with its
start minute and an age of at most 65,535 sweeps; a closed one holds the cold-start values. -/
def EpisodeSound (e : Episode) (holds : Bool) : Prop :=
  e.isOpen = holds ∧ (e.isOpen = true → e.start.isSome = true ∧ e.age ≤ 65535) ∧
  (e.isOpen = false → e = .cold)

/-- R127: the episode of a branch is open exactly while the branch is affected, and that of a tier exactly while the
correlator counts an impaired slot of it (R126). -/
def EpisodesSound (s : State) : Prop :=
  (∀ n, EpisodeSound (s.branchEpisode n) (s.branch n).affected) ∧
  ∀ t, t < 8 → EpisodeSound (s.tierEpisode t) (decide (s.heldCount t ≠ 0))

/-- R37, R46: every ACTIVE record names an installed tap and one of its ports 1–4, and no two name the same. -/
def ClaimsSound (s : State) : Prop :=
  (∀ n, (s.sub n).status = .active →
    ∃ t p, (s.sub n).tap = some t ∧ (s.sub n).port = some p ∧ (s.tap t).installed = true ∧
      within 1 4 p = true) ∧
  ∀ n k, (s.sub n).status = .active → (s.sub k).status = .active →
    (s.sub n).tap = (s.sub k).tap → (s.sub n).port = (s.sub k).port → n = k

/-- An event on the schedule: SCHEDULED or SHOWING. -/
def Event.isLive (e : Event) : Prop := e.state = .scheduled ∨ e.state = .showing

/-- R151, R152: the SCHEDULED and SHOWING events end after they start and do not overlap; the clock has not reached the
start of a SCHEDULED one, and stands between the start and the end of a SHOWING one. -/
def EventsSound (s : State) : Prop :=
  (∀ n, (s.event n).isLive → s.startOf n < (s.event n).ends.getD 0) ∧
  (∀ n k, (s.event n).isLive → (s.event k).isLive → n ≠ k →
    (s.event n).ends.getD 0 ≤ s.startOf k ∨ (s.event k).ends.getD 0 ≤ s.startOf n) ∧
  (∀ n, (s.event n).state = .scheduled → s.billing.clock < s.startOf n) ∧
  ∀ n, (s.event n).state = .showing →
    s.startOf n ≤ s.billing.clock ∧ s.billing.clock < (s.event n).ends.getD 0

/-- The minutes of event `e` that a purchase of record `n` may have been accrued: D, but for the sweep in flight
that shows the event and has not reached the record (R143, R146). -/
def State.shownFor (s : State) (n e : Nat) : Nat :=
  match s.billing.sweep with
  | some w => if w.shown = some e ∧ (s.event e).state = .showing ∧ w.cursor ≤ n then (s.event e).shown - 1
    else (s.event e).shown
  | none => (s.event e).shown

/-- R146, R155, R158: one purchase entry of record `n`: its event is on the table, the entry is OPEN and without a
charge exactly while the event is SCHEDULED or SHOWING, the charge is the price or 0, and
Kev + Pev ≤ V ≤ D. -/
def PurchaseSound (s : State) (n : Nat) (p : Purchase) : Prop :=
  (s.event p.event).state ≠ .free ∧ (p.settlement = .unsettled ↔ (s.event p.event).isLive) ∧
  (p.charge = none ↔ p.settlement = .unsettled) ∧
  (∀ c, p.charge = some c → c = 0 ∨ c = (s.event p.event).price.getD 0) ∧
  p.kev + p.pev ≤ p.v ∧ p.v ≤ s.shownFor n p.event

/-- R146, R150, R155: a purchase list holds at most 4 entries, no two of one event, in order of the start minute of
their events; a FREE record holds none; each event's buyer count is the number of the records whose
list names it, and D does not pass its duration; the event that a sweep in flight shows has been counted
in D and is still on the table. -/
def PurchasesSound (s : State) : Prop :=
  (∀ n, (s.sub n).purchases.length ≤ 4 ∧ ((s.sub n).purchases.map Purchase.event).Nodup ∧
    ((s.sub n).purchases.map fun p => s.startOf p.event).Pairwise (· ≤ ·) ∧
    ((s.sub n).status = .free → (s.sub n).purchases = []) ∧
    ∀ p ∈ (s.sub n).purchases, PurchaseSound s n p) ∧
  (∀ e, (s.event e).buyers = (s.buyersOf e).length ∧
    (s.event e).shown ≤ (s.event e).duration.getD 0 ∧
    ((s.event e).state = .free → s.event e = .cold) ∧
    ((s.event e).state = .scheduled → (s.event e).shown = 0)) ∧
  ∀ w e, s.billing.sweep = some w → w.shown = some e →
    1 ≤ (s.event e).shown ∧ (s.event e).state ≠ .free ∧ (s.event e).state ≠ .scheduled

/-- R126: the count the correlator holds for each tier is the number of its impaired slots. -/
def TierCountsSound (s : State) : Prop := ∀ t, t < 8 → s.heldCount t = s.impairedIn t

/-- R145: the counters of one tier, with at most `m` minutes swept for the record. -/
def CountSound (m : Nat) (c : TierCount) : Prop := c.k + c.p ≤ c.s ∧ c.s ≤ m ∧ c.p ≤ 240

/-- The minutes of this cycle that record `n` may have been accrued: M, but for the sweep in flight that has not
reached it (R143, R144). -/
def State.sweptFor (s : State) (n : Nat) : Nat :=
  match s.billing.sweep with
  | some w => if w.cursor ≤ n then s.billing.m - 1 else s.billing.m
  | none => s.billing.m

/-- R145: for every record and tier K + P ≤ S ≤ M ≤ 65,535 and P ≤ 240, a FREE record is the cold one (R36), and
a sweep in flight has been counted in M. -/
def CountersSound (s : State) : Prop :=
  s.billing.m ≤ 65535 ∧ (s.billing.sweep.isSome = true → 1 ≤ s.billing.m) ∧
  ∀ n, ((s.sub n).status = .free → s.sub n = .cold) ∧
    tabWf .cold (s.sub n).counters = true ∧ ∀ t, CountSound (s.sweptFor n) ((s.sub n).count t)

end Sys2Proof.Machine
end

