-- ==== Sys2Proof/Certificates/Slice0/Obligations.lean ====
section
/-! DEFINITION. The statements about the model. Each says what the part does by the rules of the spec; a clause that rests
on a choice of the model says so and names the log. -/

section

open Sys2Proof Sys2Proof.Machine

/-! ### The machine -/

/-- A step takes the command at the front of the queue and runs it on the queue's rest; no command changes which commands
wait. Every well-formed command answers a next state. Every ill-formed one stops with the fault that says what is wrong with
it, each of the eight commands that can be ill-formed with its own (the model's choice, log 8): no command is refused by the
model. -/
def Obligations.StepRunsTheFrontCommand : Prop :=
  (∀ (c : Instr) (rest : List Instr) (s : State),
    step { s with pending := c :: rest } = exec c { s with pending := rest }) ∧
  (∀ (c : Instr) (s t : State), exec c s = .next t → t.pending = s.pending) ∧
  ∀ (c : Instr) (s : State),
    (WellFormed c = true → ∃ t, exec c s = .next t) ∧
    (WellFormed c = false →
      (∃ n h, c = .sourcePresenceLineChange n h ∧ ¬ (1 ≤ n ∧ n ≤ 24) ∧ exec c s = .fault .noSuchSource) ∨
      (∃ n, c = .sourceQualificationExpiry n ∧ ¬ (1 ≤ n ∧ n ≤ 24) ∧ exec c s = .fault .noSuchSource) ∨
      (∃ n, c = .stepTimerExpiry n ∧ ¬ (1 ≤ n ∧ n ≤ 40) ∧ exec c s = .fault .noSuchSlot) ∨
      (∃ n, (c = .pollDueTime n ∨ c = .stationDeadline n ∨ c = .recoveryDueTime n) ∧
        ¬ (1 ≤ n ∧ n ≤ 64) ∧ exec c s = .fault .noSuchBranch) ∨
      (∃ bytes stops, c = .frameReceived bytes stops ∧ wfSamples bytes stops = false ∧
        exec c s = .fault .incompleteFrame) ∨
      (∃ p kind tag body, c = .messageReceived p kind tag body ∧ 196 < body.length ∧
        exec c s = .fault .messageTooLong))

/-- R94: while the return enable is OFF no command moves the survey clock, but for the cold start, which
sets it to 0. -/
def Obligations.SurveyClockHoldsWhileReturnOff : Prop :=
  ∀ (i : Instr) (s t : State), s.engine.returnOn = false → exec i s = .next t →
    (∀ b, i = .restartLine false b → t.survey.clock = 0) ∧
    ((∀ b, i ≠ .restartLine false b) → t.survey.clock = s.survey.clock)


/-! ### The master ports -/

/-- R168, R169, R177: a hunting receiver that is given the bytes of a whole message takes it as the message, and
one whose check does not agree is discarded. -/
def Obligations.WholeFrameIsOneMessage : Prop :=
  ∀ (s : State) (p : Master) (m : Msg), (s.port p).rx = .hunting → m.body.length ≤ 196 →
    receiveAll p m.frame s = exec (.messageReceived p m.kind m.tag m.body) s ∧
    ∀ a b : Byte, [a, b] ≠ u16 (crc16 m.checkedPart).toNat →
      receiveAll p (165 :: (m.checkedPart ++ [a, b])) s
        = .next (s.setPort p { s.port p with rx := .hunting, byteTimer := none })

/-- R167, R169: one byte at a port. A byte with a framing fault discards the message being collected. A hunting
receiver waits for the start marker 165. The byte behind it is a length within 4–200; any other
is taken as a byte hunted. While a message is collected 100 ms are allowed to the next byte, and
their passing discards it. (That the time then stands at the end of the 100 ms, or where it is already later, is the model's
choice, log 1; that the timeout is no event where no byte is awaited, log 7.) -/
def Obligations.ReceiverTakesBytes : Prop :=
  ∀ (s : State) (p : Master) (b : Byte),
    let hunt := s.setPort p { s.port p with rx := .hunting, byteTimer := none }
    let await := s.setPort p { s.port p with rx := .awaitLength, byteTimer := some (s.now + 100) }
    exec (.masterPortByteReceived p b false) s = .next hunt ∧
    ((s.port p).rx = .hunting →
      exec (.masterPortByteReceived p b true) s = .next (if b = 165 then await else hunt)) ∧
    ((s.port p).rx = .awaitLength →
      exec (.masterPortByteReceived p b true) s =
        .next (if 4 ≤ b.toNat ∧ b.toNat ≤ 200 then
            s.setPort p { s.port p with
              rx := .collecting b.toNat [], byteTimer := some (s.now + 100) }
          else hunt)) ∧
    (∀ n got, (s.port p).rx = .collecting n got → got.length + 1 < n →
      exec (.masterPortByteReceived p b true) s =
        .next (s.setPort p { s.port p with
          rx := .collecting n (got ++ [b]), byteTimer := some (s.now + 100) })) ∧
    (∀ t, (s.port p).byteTimer = some t →
      exec (.interByteTimeout p) s =
        .next ((passTime (t - s.now) s).setPort p
          { s.port p with rx := .hunting, byteTimer := none }) ∧
      (passTime (t - s.now) s).now = max s.now t) ∧
    ((s.port p).byteTimer = none → exec (.interByteTimeout p) s = .next s)

/-- R170, R172: a checked message joins an input queue that holds fewer than 4; with 4 waiting it is answered FULL where
the output queue holds fewer than 15 messages, and is otherwise discarded. A notice is placed while the output queue holds
fewer than 15 messages, and otherwise sets the notices-missed flag. An answer is placed without condition, carries the flag
and makes it no. The message at the head, once sent, leaves the queue as its frame. -/
def Obligations.PortQueueRules : Prop :=
  ∀ (s : State) (p : Master) (m : Msg),
    (m.body.length ≤ 196 →
      let q := { s.port p with rx := .hunting, byteTimer := none }
      exec (.messageReceived p m.kind m.tag m.body) s =
        .next (s.setPort p
          (if q.inQ.length < 4 then { q with inQ := q.inQ ++ [m] }
           else if q.outQ.length < 15 then
             { q with outQ := q.outQ ++ [answerMsg m q.missed (refuse .full)], missed := false }
           else q))) ∧
    (∀ k b, putNotice p k b s =
      if (s.port p).outQ.length < 15 then
        s.setPort p { s.port p with outQ := (s.port p).outQ ++ [⟨k, 0, b⟩] }
      else s.setPort p { s.port p with missed := true }) ∧
    (∀ a, putAnswer p m a s = s.setPort p { s.port p with
      missed := false
      outQ := (s.port p).outQ ++ [⟨128, m.tag, a.code.byte
        :: (if 1 ≤ m.kind.toNat ∧ m.kind.toNat ≤ 45 then m.kind else 0)
        :: (if (s.port p).missed then 1 else 0) :: a.content⟩] }) ∧
    ∀ x rest, (s.port p).outQ = x :: rest →
      exec (.messageSent p) s = .next (s.setPort p { s.port p with
        outQ := rest, sent := (s.port p).sent ++ [x.frame] })

/-- R171, R177: the port's own checks. A kind that the catalogue does not permit to the master is NOT_PERMITTED, a kind outside
the catalogue is MALFORMED, and so is a body that has not the form of its kind: one of another length, or with a presence bit, a
choice or a class bit beyond its list, or remove with another field. Such a request has no reading and changes nothing. The
model's choices: such a body is MALFORMED before its numbers are looked at (log 42); a request row whose request is not the one
the port takes now is no event, and changes nothing (logs 7 and 21). -/
def Obligations.RequestsAreChecked : Prop :=
  ∀ (s : State) (p : Master) (k : Nat),
    (∀ m, Asks s p k m → (k = 0 ∨ 46 ≤ k) →
      exec (.unknownRequest p) s = .next (afterAnswer p m (refuse .malformed) s)) ∧
    ∀ c, requestRow c = some (p, k) →
      (∀ m, Asks s p k m → permits k p = false →
        exec c s = .next (afterAnswer p m (refuse .notPermitted) s)) ∧
      (∀ m n, Asks s p k m → permits k p = true → fixedLength k = some n → m.body.length ≠ n →
        exec c s = .next (afterAnswer p m (refuse .malformed) s)) ∧
      (∀ m, Asks s p k m → permits k p = true → ¬ FitsForm k m.body →
        exec c s = .next (afterAnswer p m (refuse .malformed) s)) ∧
      ((∀ m, ¬ Asks s p k m) → exec c s = .next s)

/-- R171: a refused request changes nothing: where the answer that a request row places is a refusal, the request has
left the input queue and nothing else has changed. -/
def Obligations.RefusedRequestChangesNothing : Prop :=
  ∀ (s t : State) (p : Master) (k : Nat) (m : Msg) (c : Instr) (f : Bool) (a : Ans),
    requestRow c = some (p, k) → Asks s p k m → exec c s = .next t → (t.port p).inProgress = none →
    (t.port p).outQ.getLast? = some (answerMsg m f a) → a.code ≠ .done → a.code ≠ .accepted →
      t = afterAnswer p m ⟨a.code, []⟩ s

/-- R177: a body laid out as the form of its request reads back as its operands. -/
def Obligations.RequestBodiesReadBack : Prop :=
  (∀ n, n < 256 → parse8 (u8 n) = some n) ∧
  (∀ n, n < 65536 → parse16 (u16 n) = some n) ∧
  (∀ n, n < 4294967296 → parse32 (u32 n) = some n) ∧
  (∀ n k, n < 65536 → k < 256 → parse16x8 (u16 n ++ u8 k) = some (n, k)) ∧
  (∀ n w, n < 65536 → parseChange (u16 n ++ [w]) = some (n, w)) ∧
  (∀ n l, n < 65536 → 1 ≤ l.length → l.length ≤ 8 → parseEcho (u16 n ++ l) = some (n, l)) ∧
  (∀ c : ClassSet, parseAudience c.byte = some c) ∧
  (∀ a : AddArgs, fits 65536 a.number → a.tap < 65536 → a.port < 256 →
    parseAdd (addBody a) = some a) ∧
  (∀ l : List (Option Nat), l.length = 8 → (∀ r ∈ l, fits 4294967296 r) →
    parseRates (ratesBody l) = some (ratesGiven l)) ∧
  (∀ a : BranchArgs, a.branch < 256 → fits 256 a.parent → fits 65536 a.interval →
    parseBranch (branchBody a)
      = if a.remove ∧ ¬ (a.parent = none ∧ a.station = none ∧ a.interval = none) then none
        else some a) ∧
  (∀ a : LinkArgs, fits 256 a.window → fits 256 a.retries → fits 256 a.repeats →
    fits 256 a.auditInterval → parseLink (linkBody a) = some a) ∧
  (∀ a : MonitorArgs, fits 256 a.tolerance → fits 256 a.hysteresis → fits 256 a.persistence →
    parseMonitor (monitorBody a) = some a) ∧
  (∀ a : SlotArgs, a.slot < 256 → fits 256 a.source → fits 256 a.tier → fits 65536 a.target →
    fits 65536 a.floorLevel → fits 256 a.period → parseSlot (slotBody a) = some a) ∧
  ∀ a : ScheduleArgs, a.slot < 256 → a.start < 4294967296 → a.duration < 65536 → a.price < 65536 →
    parseSchedule (scheduleBody a) = some a


/-! ### Reads and statements -/

/-- R174, R166: a read names an identity; outside its range it is refused with OUT_OF_RANGE, and otherwise answered DONE with
the record as it stands, and it changes nothing. IDENTIFY answers vendor 1,047, part 316, revision 3, the retained-store state
and the restart count. STATEMENT READ is NOT_FOUND without a snapshot or an entry. SUBSCRIBER READ answers the record with the
sync status of its tap, its desired mask and its billed set (R36); for a record without a tap, whose sync standing the spec
does not state, the standing is a free value, one for each read (the model's choice, log 4). The bytes of each content rest on
the model's choices too: the order of its fields (log 12), how the choices without a stated code are coded (log 13), times
(log 14) and those above 32 bits (log 37), the desired mask of a record that is not ACTIVE (log 23), optional groups (log 24),
where a purchase's minutes stand (log 33), a settlement's code (log 34), that of a condition that holds or not (log 36), and
that no count stands before a group of a fixed number (log 43). -/
def Obligations.ReadsAnswerFromTheTables : Prop :=
  ∀ (s : State) (p : Master) (m : Msg) (n : Nat),
    let out := afterAnswer p m (refuse .outOfRange) s
    let reads := fun content => afterAnswer p m (answerDone content) s
    (Asks s p 36 m → m.body = [] → exec (.identify p) s =
      .next (reads ([4, 23, 1, 60, 3, if s.ident.coldStarted then 0 else 1]
        ++ u16 s.ident.restarts))) ∧
    (Asks s p 37 m → parse8 m.body = some n → exec (.slotRead p) s =
      .next (if 1 ≤ n ∧ n ≤ 40 then reads (slotContent n s) else out)) ∧
    (Asks s p 38 m → parse16 m.body = some n →
      (¬ (1 ≤ n ∧ n ≤ 2048) → exec (.subscriberRead p) s = .next out) ∧
      (1 ≤ n → n ≤ 2048 → ∀ t, (s.sub n).tap = some t → ∀ v,
        exec (.subscriberRead p) s = .next (reads (subscriberContent v n s))) ∧
      (1 ≤ n → n ≤ 2048 → (s.sub n).tap = none →
        exec (.subscriberRead p) s = .next (afterAnswer p m
          (answerDone (subscriberContent (Config.syncStandingOfNoTap s.freeIdx) n s))
          { s with freeIdx := s.freeIdx + 1 }))) ∧
    (Asks s p 39 m → parse16 m.body = some n → exec (.tapRead p) s =
      .next (if 1 ≤ n ∧ n ≤ 512 then reads (tapContent n s) else out)) ∧
    (Asks s p 40 m → parse8 m.body = some n → exec (.branchRead p) s =
      .next (if 1 ≤ n ∧ n ≤ 64 then reads (branchReadContent n s) else out)) ∧
    (Asks s p 41 m → parse8 m.body = some n → exec (.stationRead p) s =
      .next (if 1 ≤ n ∧ n ≤ 64 then reads (stationContent n s) else out)) ∧
    (Asks s p 42 m → parse8 m.body = some n → exec (.alarmListRead p) s =
      .next (if 1 ≤ n ∧ n ≤ 16 then reads (alarmContent n s) else out)) ∧
    (Asks s p 43 m → parse8 m.body = some n → exec (.eventRead p) s =
      .next (if 1 ≤ n ∧ n ≤ 16 then reads (s.event n).wire else out)) ∧
    (Asks s p 44 m → m.body = [] → exec (.billingRead p) s = .next (reads (billingContent s))) ∧
    (Asks s p 45 m → m.body = [] → exec (.linkRead p) s = .next (reads (linkContent s))) ∧
    (Asks s .office 10 m → parse16 m.body = some n → exec (.statementRead .office) s =
      .next (afterAnswer .office m
        (if 1 ≤ n ∧ n ≤ 2048 then
          match s.snapshot with
          | none => refuse .notFound
          | some x =>
            match x.entries.find? fun e => decide (e.number = n) with
            | none => refuse .notFound
            | some e => answerDone (x.statement e)
        else refuse .outOfRange) s))

/-- R165: the line of each tier, the purchase lines and the total of a statement; no charge or credit passes the rate, no
value formed passes 13,106,934,465, and no total passes 739,989 cents. -/
def Obligations.StatementArithmetic : Prop :=
  ∀ (x : Snapshot) (e : SnapshotEntry),
    (∀ t, (x.line e t).billable = (tabGet .cold e.counters t).s - (tabGet .cold e.counters t).k) ∧
    (∀ t, x.m = 0 → (x.line e t).charge = 0 ∧ (x.line e t).credit = 0) ∧
    (∀ t, x.m ≠ 0 →
      (x.line e t).charge
        = (2 * tabGet 0 x.rates t * (x.line e t).billable + x.m) / (2 * x.m) ∧
      (x.line e t).credit
        = (2 * tabGet 0 x.rates t * (tabGet .cold e.counters t).k + x.m) / (2 * x.m)) ∧
    (∀ t, (tabGet .cold e.counters t).k ≤ (tabGet .cold e.counters t).s →
      (tabGet .cold e.counters t).s ≤ x.m →
      (x.line e t).charge ≤ tabGet 0 x.rates t ∧ (x.line e t).credit ≤ tabGet 0 x.rates t ∧
      (tabGet 0 x.rates t ≤ 99999 → x.m ≤ 65535 →
        2 * tabGet 0 x.rates t * (x.line e t).billable + x.m ≤ 13106934465 ∧
        2 * tabGet 0 x.rates t * (tabGet .cold e.counters t).k + x.m ≤ 13106934465)) ∧
    ((∀ t, (tabGet .cold e.counters t).k ≤ (tabGet .cold e.counters t).s ∧
        (tabGet .cold e.counters t).s ≤ x.m ∧ tabGet 0 x.rates t ≤ 99999) →
      e.lines.length ≤ 4 → (∀ l ∈ e.lines, l.charge ≤ 9999) → x.total e ≤ 739989) ∧
    (∀ (s : State) (n : Nat) (r : Subscriber),
      (snapshotEntry s n r).lines.map (fun l => (l.event, l.charge))
        = (r.purchases.filter fun p => decide (p.settlement ≠ .unsettled)).map
            fun p => (p.event, p.charge.getD 0)) ∧
    (∀ (d price : Nat) (p : Purchase), (p.settled d price).charge
      = if (p.settled d price).settlement = .charged then some price else some 0) ∧
    x.total e = (x.line e 0).charge + (x.line e 1).charge + (x.line e 2).charge + (x.line e 3).charge
      + (x.line e 4).charge + (x.line e 5).charge + (x.line e 6).charge
      + (e.lines.map SettledLine.charge).sum


/-! ### The office's requests -/

/-- R41: a SUBSCRIBER ADD that passes its checks writes the record and tests the tap, after which the arbiter
decides. The record is the FREE one named, or else the lowest FREE one; C is the tap's reported
mask for the port, empty where it is unknown. That the answer's sync status is read after the arbiter's decision is the
model's choice (log 35). -/
def Obligations.SubscriberAddWritesTheRecord : Prop :=
  ∀ (s : State) (m : Msg) (a : AddArgs) (n : Nat), Asks s .office 1 m → parseAdd m.body = some a →
    TablesSound s → 1 ≤ n ∧ n ≤ 2048 → (1 ≤ a.tap ∧ a.tap ≤ 512) → (1 ≤ a.port ∧ a.port ≤ 4) →
    hasTier a.w 7 = false → (s.tap a.tap).installed = true →
    (∀ k, (s.sub k).status = .active → ¬ ((s.sub k).tap = some a.tap ∧ (s.sub k).port = some a.port)) →
    (s.sub n).status = .free →
    (a.number = some n ∨
      (a.number = none ∧ ∀ k, 1 ≤ k → k < n → (s.sub k).status ≠ .free)) →
    let r : Subscriber := { s.sub n with
      status := .active, tap := some a.tap, port := some a.port, w := a.w,
      c := ((s.tap a.tap).reported.get a.port).getD 0, locked := false }
    let t := arbitrate (entryTest a.tap ((dropHead .office s).setSub n r))
    exec (.subscriberAdd .office) s
        = .next (putAnswer .office m
            (answerDone (u16 n ++ [r.w, r.c] ++ u8 (t.tap a.tap).sync.code)) t) ∧
      t.sub n = r ∧ (∀ k, k ≠ n → t.sub k = s.sub k) ∧ t.butGrant = s.butGrant

/-- R42, R43: SUBSCRIBER CHANGE replaces W and tests the tap, and the W already held changes nothing. SUBSCRIBER
REMOVE makes the record REMOVED with W and C empty and unlocked, takes its purchases of SCHEDULED
events out of the list and the buyer counts, and then tests the tap: `u` is the state before the test. That the answer's sync
status is read after the arbiter's decision is the model's choice (log 35). -/
def Obligations.SubscriberChangeAndRemove : Prop :=
  ∀ (s : State) (m : Msg) (n : Nat), TablesSound s → 1 ≤ n ∧ n ≤ 2048 → (s.sub n).status = .active →
    (∀ w tp, Asks s .office 2 m → parseChange m.body = some (n, w) → hasTier w 7 = false →
      (s.sub n).tap = some tp →
      let t := if w = (s.sub n).w then dropHead .office s
        else arbitrate (entryTest tp ((dropHead .office s).setSub n { s.sub n with w := w }))
      exec (.subscriberChange .office) s
          = .next (putAnswer .office m
              (answerDone ([w, (s.sub n).c] ++ u8 (t.tap tp).sync.code)) t) ∧
        t.sub n = { s.sub n with w := w } ∧ (∀ k, k ≠ n → t.sub k = s.sub k) ∧
        t.butGrant = s.butGrant) ∧
    (Asks s .office 3 m → parse16 m.body = some n →
      ((s.sub n).purchases.map Purchase.event).Nodup →
      ∃ u : State,
        let t := arbitrate (entryTestOf (s.sub n).tap u)
        exec (.subscriberRemove .office) s = .next (putAnswer .office m (answerDone []) t) ∧
        { u with subs := [], events := [] } = { dropHead .office s with subs := [], events := [] } ∧
        u.sub n = { s.sub n with
          status := .removed, w := 0, c := 0, locked := false,
          purchases := (s.sub n).purchases.filter fun p =>
            decide ((s.event p.event).state ≠ .scheduled) } ∧
        (∀ k, k ≠ n → u.sub k = s.sub k) ∧
        (∀ e, u.event e =
          if (s.event e).state = .scheduled ∧ e ∈ (s.sub n).purchases.map Purchase.event then
            { s.event e with buyers := (s.event e).buyers - 1 }
          else s.event e) ∧
        t.subs = u.subs ∧ t.events = u.events ∧ t.butEvents = s.butEvents)

/-- R156, R155, R157: a PURCHASE that passes its checks adds an OPEN entry with zero counters behind every entry whose event
starts no later, and one to the buyer count; where the event is SHOWING the record's tap is then tested (`u` is the state before
the test), and where it is SCHEDULED nothing else changes. A PURCHASE CANCEL of an entry of a SCHEDULED event takes the entry out
of the list and one from the buyer count. -/
def Obligations.PurchaseAndCancel : Prop :=
  ∀ (s : State) (m : Msg) (n e : Nat), parse16x8 m.body = some (n, e) →
    TablesSound s → 1 ≤ n ∧ n ≤ 2048 → 1 ≤ e ∧ e ≤ 16 →
    (Asks s .office 4 m → (s.sub n).status = .active → (s.sub n).purchases.length < 4 →
      (∀ p ∈ (s.sub n).purchases, p.event ≠ e) →
      ((s.event e).state = .scheduled ∨
        ((s.event e).state = .showing ∧
          (s.billing.clock - s.startOf e) * 2 < (s.event e).duration.getD 0)) →
      ∃ u : State,
        let t := if (s.event e).state = .showing then arbitrate (entryTestOf (s.sub n).tap u) else u
        exec (.purchase .office) s
          = .next (putAnswer .office m (answerDone (purchasesWire (t.sub n).purchases)) t) ∧
        { u with subs := [], events := [] } = { dropHead .office s with subs := [], events := [] } ∧
        u.sub n = { s.sub n with
          purchases :=
            (s.sub n).purchases.takeWhile (fun p => decide (s.startOf p.event ≤ s.startOf e))
            ++ ⟨e, 0, 0, 0, .unsettled, none⟩
            :: (s.sub n).purchases.dropWhile (fun p => decide (s.startOf p.event ≤ s.startOf e)) } ∧
        (∀ k, k ≠ n → u.sub k = s.sub k) ∧
        u.event e = { s.event e with buyers := (s.event e).buyers + 1 } ∧
        (∀ k, k ≠ e → u.event k = s.event k) ∧
        t.subs = u.subs ∧ t.events = u.events ∧ t.butEvents = s.butEvents) ∧
    (Asks s .office 5 m → (s.event e).state = .scheduled → (∃ p ∈ (s.sub n).purchases, p.event = e) →
      let t := cancelPurchase n e (dropHead .office s)
      exec (.purchaseCancel .office) s
          = .next (putAnswer .office m (answerDone (purchasesWire (t.sub n).purchases)) t) ∧
        t.sub n = { s.sub n with
          purchases := (s.sub n).purchases.filter fun p => decide (p.event ≠ e) } ∧
        (∀ k, k ≠ n → t.sub k = s.sub k) ∧
        t.event e = { s.event e with buyers := (s.event e).buyers - 1 } ∧
        (∀ k, k ≠ e → t.event k = s.event k) ∧
        ({ t with subs := [], events := [] } : State).butPorts
          = ({ s with subs := [], events := [] } : State).butPorts)

/-- R141, R152, R154: CLOCK SET takes the minute given, answers it, leaves every other field of the accrual engine, and evaluates
the events against the minute. The SHOWING event ends where the minute has reached its end or lies before its start; a
SCHEDULED one starts where the minute has reached its start, and ends where it has reached its end; no other changes. Each
purchase of an event that ends is CHARGED its price where its viewing minutes less those creditable are at least half of the
minutes shown, which are not 0, and is otherwise REFUNDED. R153, R154: each event that starts or ends is told to the office and
the schedule master, its start before its end, and to no other. -/
def Obligations.ClockSetEvaluatesTheEvents : Prop :=
  ∀ (s : State) (m : Msg) (n : Nat), Asks s .office 6 m → parse32 m.body = some n → TablesSound s →
    (∀ e k, (s.event e).state = .showing → (s.event k).state = .showing → e = k) →
    let ended := fun e =>
      (decide ((s.event e).state = .showing) &&
        (decide ((s.event e).ends.getD 0 ≤ n) || decide (n < s.startOf e))) ||
      (decide ((s.event e).state = .scheduled) && decide (s.startOf e ≤ n) &&
        decide ((s.event e).ends.getD 0 ≤ n))
    ∃ t, exec (.clockSet .office) s = .next (putAnswer .office m (answerDone (u32 n)) t) ∧
      t.billing = { s.billing with clock := n } ∧
      (∀ e, t.event e = { s.event e with
        state := if ended e then .ended
          else if (s.event e).state = .scheduled ∧ s.startOf e ≤ n then .showing
          else (s.event e).state }) ∧
      (∀ k, t.sub k = { s.sub k with
        purchases := (s.sub k).purchases.map fun p =>
          if ended p.event then
            (if (s.event p.event).shown ≤ (p.v - p.kev) * 2 ∧ 0 < (s.event p.event).shown then
              { p with settlement := .charged, charge := some ((s.event p.event).price.getD 0) }
            else { p with settlement := .refunded, charge := some 0 })
          else p }) ∧
      (let news := fun e =>
         let told := fun new old => eventTold e new old n (s.event e).buyers
         if (s.event e).state = .showing ∧ ended e then [told .ended .showing]
         else if (s.event e).state = .scheduled ∧ s.startOf e ≤ n then
           told .showing .scheduled :: (if ended e then [told .ended .showing] else [])
         else []
       ∀ e, Noticed s t .office 164 (news e) ∧ Noticed s t .schedule 164 (news e)) ∧
      (∀ x ∈ (t.port .technician).outQ, x.kind = 164 → x ∈ (s.port .technician).outQ) ∧
      t.butEvents = ({ s with billing := { s.billing with clock := n } } : State).butEvents

/-- R161: RATE SET writes the rates given, each at most 99,999, and leaves the others; a rate of tier 7 refuses the whole
request. CREDIT SET writes the credit threshold, at most 240. (That no count stands before the seven rates of the answer is the
model's choice, log 43.) -/
def Obligations.RatesAndThresholdAreSet : Prop :=
  ∀ (s : State) (m : Msg),
    (∀ l, Asks s .office 7 m → parseRates m.body = some l → (∃ e ∈ l, e.1 = 7) →
      exec (.rateSet .office) s = .next (afterAnswer .office m (refuse .outOfRange) s)) ∧
    (∀ l, Asks s .office 7 m → parseRates m.body = some l → (∀ e ∈ l, e.1 ≠ 7) →
      tabWf 0 s.billing.rates = true →
      ∃ b : Billing,
        exec (.rateSet .office) s
          = .next (afterAnswer .office m (answerDone b.ratesWire) { s with billing := b }) ∧
        { b with rates := s.billing.rates } = s.billing ∧
        (∀ t r, (t, r) ∈ l → tabGet 0 b.rates t = min 99999 r) ∧
        (∀ t, (∀ r, (t, r) ∉ l) → tabGet 0 b.rates t = tabGet 0 s.billing.rates t)) ∧
    (∀ v, Asks s .office 8 m → parse8 m.body = some v →
      exec (.creditSet .office) s
        = .next (afterAnswer .office m (answerDone (u8 (min 240 v)))
            { s with billing := { s.billing with tc := min 240 v } }))

/-- R162: with no sweep in flight a CYCLE CLOSE is taken at once and answered with the cycle closed, its M, its number
of entries and the new cycle; with one in flight the close waits and its request stays in
progress. -/
def Obligations.CycleCloseIsTakenOrWaits : Prop :=
  ∀ (s : State) (m : Msg), Asks s .office 9 m → m.body = [] →
    (s.billing.sweep = none →
      let t := resetCycle { dropHead .office s with snapshot := some s.takeSnapshot }
      exec (.cycleClose .office) s
        = .next (putAnswer .office m
            (answerDone (u16 s.billing.cycle ++ u16 s.billing.m
              ++ u16 s.takeSnapshot.entries.length ++ u16 (cycleAfter s.billing.cycle))) t)) ∧
    (∀ w, s.billing.sweep = some w →
      exec (.cycleClose .office) s
        = .next (({ s with billing := { s.billing with closeWaiting := true } } : State).setPort .office
            { s.port .office with inQ := (s.port .office).inQ.tail, inProgress := some m }))

/-- R163, R164: the snapshot takes S and K of every record that is not FREE, in order of number, with its settled purchases,
each a line of its event, the event's price, its settlement and its charge, in the order of the list; the reset clears M,
halted, the counters and the settled purchases, frees the REMOVED records without an entry left and the ENDED and CANCELLED
events, and raises the cycle number. -/
def Obligations.CloseSnapshotsAndResets : Prop :=
  ∀ (s : State), TablesSound s →
    let x := s.takeSnapshot
    let t := resetCycle { s with snapshot := some x }
    (x.cycle = s.billing.cycle ∧ x.m = s.billing.m ∧ x.rates = s.billing.rates ∧
      (∀ e ∈ x.entries, ∃ n, e.number = n ∧ (s.sub n).status ≠ .free ∧ e.status = (s.sub n).status ∧
        e.tap = (s.sub n).tap ∧ e.port = (s.sub n).port ∧
        e.lines = ((s.sub n).purchases.filter fun p => decide (p.settlement ≠ .unsettled)).map
          fun p => ⟨p.event, (s.event p.event).price.getD 0, p.settlement, p.charge.getD 0⟩) ∧
      (x.entries.map SnapshotEntry.number).Pairwise (· < ·) ∧
      (∀ n, (s.sub n).status ≠ .free → ∃ e ∈ x.entries, e.number = n ∧
        ∀ k, tabWf .cold (s.sub n).counters = true →
          tabGet .cold e.counters k = { (s.sub n).count k with p := 0 })) ∧
    (t.billing = { s.billing with
        m := 0, halted := false, closeWaiting := false,
        cycle := if s.billing.cycle < 65535 then s.billing.cycle + 1 else 1 } ∧
      t.snapshot = some x ∧
      (∀ n,
        let kept := (s.sub n).purchases.filter fun p => decide (p.settlement = .unsettled)
        t.sub n =
          if (s.sub n).status = .free then s.sub n
          else if (s.sub n).status = .removed ∧ kept = [] then .cold
          else { s.sub n with counters := [], purchases := kept }) ∧
      (∀ e, t.event e =
        if (s.event e).state = .ended ∨ (s.event e).state = .cancelled then .cold else s.event e) ∧
      { t.butAlarms with subs := [], events := [], billing := s.billing, snapshot := none }
        = { s.butAlarms with subs := [], events := [], snapshot := none })

/-- R41 to R43, R156, R157: the refusals of the office's requests, each by the first check that fails. That a SUBSCRIBER
CHANGE is OUT_OF_RANGE before WRONG_STATE, and a PURCHASE CANCEL NOT_FOUND before WRONG_STATE, is the model's choice (log 41:
R42 and R157 list their refusals without an order). -/
def Obligations.OfficeRefusals : Prop :=
  ∀ (s : State) (m : Msg),
    let no := fun c => Host.Outcome.next (afterAnswer .office m (refuse c) s)
    (∀ a : AddArgs, Asks s .office 1 m → parseAdd m.body = some a →
      let out := (∃ n, a.number = some n ∧ ¬ (1 ≤ n ∧ n ≤ 2048)) ∨ ¬ (1 ≤ a.tap ∧ a.tap ≤ 512)
        ∨ ¬ (1 ≤ a.port ∧ a.port ≤ 4) ∨ hasTier a.w 7 = true
      (out → exec (.subscriberAdd .office) s = no .outOfRange) ∧
      (¬ out → (s.tap a.tap).installed = false → exec (.subscriberAdd .office) s = no .notFound) ∧
      (¬ out → (s.tap a.tap).installed = true → (s.claimant a.tap a.port).isSome = true →
        exec (.subscriberAdd .office) s = no .conflict) ∧
      (¬ out → (s.tap a.tap).installed = true → s.claimant a.tap a.port = none →
        (∀ n, a.number = some n → (s.sub n).status ≠ .free →
          exec (.subscriberAdd .office) s = no .wrongState) ∧
        (a.number = none → (∀ n, 1 ≤ n → n ≤ 2048 → (s.sub n).status ≠ .free) →
          exec (.subscriberAdd .office) s = no .full))) ∧
    (∀ n w, Asks s .office 2 m → parseChange m.body = some (n, w) →
      let out := ¬ (1 ≤ n ∧ n ≤ 2048) ∨ hasTier w 7 = true
      (out → exec (.subscriberChange .office) s = no .outOfRange) ∧
      (¬ out → (s.sub n).status ≠ .active → exec (.subscriberChange .office) s = no .wrongState)) ∧
    (∀ n, Asks s .office 3 m → parse16 m.body = some n →
      (¬ (1 ≤ n ∧ n ≤ 2048) → exec (.subscriberRemove .office) s = no .outOfRange) ∧
      (1 ≤ n ∧ n ≤ 2048 → (s.sub n).status ≠ .active →
        exec (.subscriberRemove .office) s = no .wrongState)) ∧
    (∀ n e, Asks s .office 4 m → parse16x8 m.body = some (n, e) →
      let out := ¬ (1 ≤ n ∧ n ≤ 2048) ∨ ¬ (1 ≤ e ∧ e ≤ 16)
      (out → exec (.purchase .office) s = no .outOfRange) ∧
      (¬ out → (s.event e).state = .free → exec (.purchase .office) s = no .notFound) ∧
      (¬ out → (s.event e).state ≠ .free → (s.sub n).status ≠ .active →
        exec (.purchase .office) s = no .wrongState) ∧
      (¬ out → (s.event e).state = .ended ∨ (s.event e).state = .cancelled ∨
          ((s.event e).state = .showing ∧
            (s.event e).duration.getD 0 ≤ (s.billing.clock - s.startOf e) * 2) →
        exec (.purchase .office) s = no .wrongState) ∧
      (¬ out → s.onSale e = true → (s.sub n).status = .active →
        (∃ p ∈ (s.sub n).purchases, p.event = e) → exec (.purchase .office) s = no .conflict) ∧
      (¬ out → s.onSale e = true → (s.sub n).status = .active →
        (∀ p ∈ (s.sub n).purchases, p.event ≠ e) → 4 ≤ (s.sub n).purchases.length →
        exec (.purchase .office) s = no .full)) ∧
    (∀ n e, Asks s .office 5 m → parse16x8 m.body = some (n, e) →
      let out := ¬ (1 ≤ n ∧ n ≤ 2048) ∨ ¬ (1 ≤ e ∧ e ≤ 16)
      (out → exec (.purchaseCancel .office) s = no .outOfRange) ∧
      (¬ out → (∀ p ∈ (s.sub n).purchases, p.event ≠ e) →
        exec (.purchaseCancel .office) s = no .notFound) ∧
      (¬ out → (∃ p ∈ (s.sub n).purchases, p.event = e) → (s.event e).state ≠ .scheduled →
        exec (.purchaseCancel .office) s = no .wrongState))


/-! ### The technician's requests -/

/-- R44: PORT LOCK and PORT UNLOCK set the locked field of the ACTIVE record that names the tap port, and a change tests
the tap; a field already at its value changes nothing; without such a record the answer is
NOT_FOUND. That the answer's sync status is read after the arbiter's decision is the model's choice (log 35). -/
def Obligations.PortLockAndUnlock : Prop :=
  ∀ (s : State) (m : Msg) (tp p : Nat) (v : Bool),
    let c : Instr := if v then .portLock .technician else .portUnlock .technician
    Asks s .technician (if v then 11 else 12) m → parse16x8 m.body = some (tp, p) →
    (¬ ((1 ≤ tp ∧ tp ≤ 512) ∧ 1 ≤ p ∧ p ≤ 4) →
      exec c s = .next (afterAnswer .technician m (refuse .outOfRange) s)) ∧
    ((1 ≤ tp ∧ tp ≤ 512) → (1 ≤ p ∧ p ≤ 4) → s.claimant tp p = none →
      exec c s = .next (afterAnswer .technician m (refuse .notFound) s)) ∧
    ((1 ≤ tp ∧ tp ≤ 512) → (1 ≤ p ∧ p ≤ 4) → TablesSound s →
      ∀ n, s.claimant tp p = some n →
        let t := if (s.sub n).locked = v then dropHead .technician s
          else arbitrate
            (entryTest tp ((dropHead .technician s).setSub n { s.sub n with locked := v }))
        exec c s = .next (putAnswer .technician m
            (answerDone (u16 n ++ yesNo v ++ u8 (t.tap tp).sync.code)) t) ∧
          t.sub n = { s.sub n with locked := v } ∧ (∀ k, k ≠ n → t.sub k = s.sub k) ∧
          t.butGrant = s.butGrant)

/-- R45, R46: TAP INSTALL writes the tap installed on the branch, with every other field at its cold-start value, posts it to
the correlator and tests it: the tap becomes QUEUED, or IN_FLIGHT where it is granted at once. TAP REMOVE takes the tap out of
the sync set, lowers the count of its branch and returns its record to the cold-start values; a tap that an ACTIVE record
names, that is IN_FLIGHT or that is the audit in flight is refused with CONFLICT. That an installed tap is CONFLICT before an
undefined branch is NOT_FOUND is the model's choice (log 41). -/
def Obligations.TapInstallAndRemove : Prop :=
  ∀ (s : State) (m : Msg) (tp b : Nat),
    let no := fun c => Host.Outcome.next (afterAnswer .technician m (refuse c) s)
    (Asks s .technician 13 m → parse16x8 m.body = some (tp, b) →
      (¬ ((1 ≤ tp ∧ tp ≤ 512) ∧ 1 ≤ b ∧ b ≤ 64) → exec (.tapInstall .technician) s = no .outOfRange) ∧
      ((1 ≤ tp ∧ tp ≤ 512) → (1 ≤ b ∧ b ≤ 64) →
        ((s.tap tp).installed = true → exec (.tapInstall .technician) s = no .conflict) ∧
        ((s.tap tp).installed = false → (s.branch b).defined = false →
          exec (.tapInstall .technician) s = no .notFound) ∧
        ((s.tap tp).installed = false → (s.branch b).defined = true → TablesSound s →
          ∃ t, exec (.tapInstall .technician) s = .next (putAnswer .technician m (answerDone []) t) ∧
            ((t.tap tp).sync = .queued ∨ (t.tap tp).sync = .inFlight) ∧
            { t.tap tp with sync := .inStep, lastSent := none }
              = { Tap.cold with installed := true, branch := some b } ∧
            (∀ k, (t.branch k).installedTaps
              = (s.branch k).installedTaps + (if k = b then 1 else 0)) ∧
            t.subs = s.subs ∧ t.butGrant = s.butGrant))) ∧
    (Asks s .technician 14 m → parse16 m.body = some tp →
      (¬ (1 ≤ tp ∧ tp ≤ 512) → exec (.tapRemove .technician) s = no .outOfRange) ∧
      (1 ≤ tp ∧ tp ≤ 512 →
        ((s.tap tp).installed = false → exec (.tapRemove .technician) s = no .notFound) ∧
        (TablesSound s → (s.tap tp).installed = true →
          ((∃ n, (s.sub n).status = .active ∧ (s.sub n).tap = some tp) ∨
              (s.tap tp).sync = .inFlight ∨ s.survey.auditInFlight = some tp →
            exec (.tapRemove .technician) s = no .conflict) ∧
          ((∀ n, (s.sub n).status = .active → (s.sub n).tap ≠ some tp) →
              (s.tap tp).sync ≠ .inFlight → s.survey.auditInFlight ≠ some tp →
            ∃ t, exec (.tapRemove .technician) s = .next (putAnswer .technician m (answerDone []) t) ∧
              t.tap tp = .cold ∧ (∀ k, k ≠ tp → t.tap k = s.tap k) ∧ t.subs = s.subs ∧
              t.syncSet = s.syncSet.erase tp ∧
              (∀ k, (t.branch k).installedTaps
                = (s.branch k).installedTaps - (if (s.tap tp).branch = some k then 1 else 0)) ∧
              t.butTaps = s.butTaps))))

/-- R123, R96, R97: a BRANCH SET that is not refused. Without remove it defines or changes the branch with the fields given, the
interval clamped to 30–3600. A station gained is watched from now, its times by that interval; a station lost leaves the watch
UNWATCHED, with no report, and the branch neither silent nor failed on its account; a changed interval of a watched station moves
its times, by its state, and one already held changes nothing in the watch. (The arbiter may then grant a poll that is due.) With
remove the branch and its watch return to the cold-start values (the watch interval with them: DEDUCED, log 22). No input of
another branch changes. -/
def Obligations.BranchSetWritesTheBranch : Prop :=
  ∀ (s : State) (m : Msg) (a : BranchArgs), Asks s .technician 15 m → parseBranch m.body = some a →
    TablesSound s → 1 ≤ a.branch ∧ a.branch ≤ 64 → (∀ q, a.parent = some q → q ≤ 64) →
    (a.remove = false → s.parentRefusal a.branch (a.parent.getD 0) = none →
      ∃ t, exec (.branchSet .technician) s = .next (putAnswer .technician m
            (answerDone (t.branch a.branch).wire) t) ∧
        (t.branch a.branch).defined = true ∧
        (t.branch a.branch).parent = (match a.parent with
          | some q => if q = 0 then none else some q
          | none => (s.branch a.branch).parent) ∧
        (t.branch a.branch).station = a.station.getD (s.branch a.branch).station ∧
        (t.branch a.branch).interval = (match a.interval with
          | some i => max 30 (min 3600 i)
          | none => (s.branch a.branch).interval) ∧
        (t.branch a.branch).forced = (s.branch a.branch).forced ∧
        (∀ k, k ≠ a.branch →
          ({ t.branch k with out := false, affected := false, shadowed := false } : Branch)
            = { s.branch k with out := false, affected := false, shadowed := false }) ∧
        (let before := (s.branch a.branch).station
         let after := (t.branch a.branch).station
         let i := (t.branch a.branch).interval
         let w := s.watch a.branch
         let clock := s.survey.clock
         let orPolled := fun (x y : Watch) => y = x ∨
           (x.state = .pollDue ∧ y = { x with state := .polled }) ∨
           (x.state = .silent ∧ x.recovery = .due ∧ y = { x with recovery := .polled })
         (∀ k, k ≠ a.branch → orPolled (s.watch k) (t.watch k)) ∧
         (before = false → after = true → w.state = .unwatched → t.watch a.branch = { w with
           interval := i, state := .watching, lastGood := some clock
           due := some (clock + 3 * i / 4 * 1000), deadline := some (clock + i * 1000)
           deadlinePassed := false, recovery := .noPoll, recoveryDue := none, lastReport := none }) ∧
         (before = true → after = false →
           t.watch a.branch = { Watch.cold with interval := i } ∧
           (t.branch a.branch).silent
             = (if w.state = .silent then false else (s.branch a.branch).silent) ∧
           (t.branch a.branch).supplyFailed
             = (if ∃ r, w.lastReport = some r ∧ r.supply = .failed then false
               else (s.branch a.branch).supplyFailed)) ∧
         (before = after →
           (t.branch a.branch).silent = (s.branch a.branch).silent ∧
           (t.branch a.branch).supplyFailed = (s.branch a.branch).supplyFailed ∧
           (w.interval = i → orPolled w (t.watch a.branch)) ∧
           (w.interval ≠ i →
             (w.state = .unwatched ∨ w.state = .silent →
               orPolled { w with interval := i } (t.watch a.branch)) ∧
             ∀ g, w.lastGood = some g →
               let due := g + 3 * i / 4 * 1000
               let deadline := g + i * 1000
               (w.state = .watching → clock < due → t.watch a.branch = { w with
                 interval := i, due := some due, deadline := some deadline }) ∧
               (w.state = .watching → due ≤ clock → orPolled { w with
                 interval := i, state := .pollDue, due := some due, deadline := some deadline
                 deadlinePassed := decide (deadline ≤ clock) } (t.watch a.branch)) ∧
               (w.state = .pollDue ∨ w.state = .polled → orPolled { w with
                 interval := i, deadline := some deadline
                 deadlinePassed := decide (deadline ≤ clock) } (t.watch a.branch))))) ∧
        t.subs = s.subs ∧ t.butGrant = s.butGrant) ∧
    (a.remove = true → (s.branch a.branch).defined = true → (s.branch a.branch).installedTaps = 0 →
      (∀ k, (s.branch k).defined = true → (s.branch k).parent ≠ some a.branch) →
      ∃ t, exec (.branchSet .technician) s = .next (putAnswer .technician m
            (answerDone (t.branch a.branch).wire) t) ∧
        t.branch a.branch = .cold ∧ t.watch a.branch = .cold ∧
        (∀ k, k ≠ a.branch → t.watch k = s.watch k) ∧
        (∀ k, k ≠ a.branch →
          ({ t.branch k with out := false, affected := false, shadowed := false } : Branch)
            = { s.branch k with out := false, affected := false, shadowed := false }) ∧
        ({ t with watches := [] } : State).butBranches = ({ s with watches := [] } : State).butBranches) ∧
    (a.remove = true → (s.branch a.branch).defined = false →
      exec (.branchSet .technician) s = .next (afterAnswer .technician m (refuse .notFound) s)) ∧
    (a.remove = true → (s.branch a.branch).defined = true →
      ((s.branch a.branch).installedTaps ≠ 0 ∨
        ∃ k, (s.branch k).defined = true ∧ (s.branch k).parent = some a.branch) →
      exec (.branchSet .technician) s = .next (afterAnswer .technician m (refuse .conflict) s))

/-- R124: BRANCH FORCE and BRANCH RELEASE set forced out, and a change is decided and handed on as R125 states; a field
already at its value changes nothing. -/
def Obligations.BranchForceAndRelease : Prop :=
  ∀ (s : State) (m : Msg) (b : Nat) (v : Bool),
    let c : Instr := if v then .branchForce .technician else .branchRelease .technician
    Asks s .technician (if v then 16 else 17) m → parse8 m.body = some b →
    (¬ (1 ≤ b ∧ b ≤ 64) →
      exec c s = .next (afterAnswer .technician m (refuse .outOfRange) s)) ∧
    (1 ≤ b ∧ b ≤ 64 → (s.branch b).defined = false →
      exec c s = .next (afterAnswer .technician m (refuse .notFound) s)) ∧
    (1 ≤ b ∧ b ≤ 64 → (s.branch b).defined = true → (s.branch b).forced = v →
      exec c s = .next (afterAnswer .technician m
        (answerDone (yesNo v ++ yesNo (s.branch b).out ++ yesNo (s.branch b).affected)) s)) ∧
    (1 ≤ b ∧ b ≤ 64 → (s.branch b).defined = true → (s.branch b).forced ≠ v → TablesSound s →
      let t := decideBranches ((dropHead .technician s).setBranch b { s.branch b with forced := v })
      exec c s = .next (putAnswer .technician m
          (answerDone (yesNo v ++ yesNo (t.branch b).out ++ yesNo (t.branch b).affected)) t) ∧
        (t.branch b).forced = v ∧ (v = true → (t.branch b).out = true) ∧
        (∀ k, k ≠ b → (t.branch k).forced = (s.branch k).forced) ∧
        (∀ k, (t.branch k).parent = (s.branch k).parent ∧
          (t.branch k).installedTaps = (s.branch k).installedTaps) ∧
        t.butBranches = s.butBranches)

/-- R76, R77: the carrier and return enables. Each request is answered DONE; one that finds the enable at its value changes
nothing. CARRIER ON ends COLD-STARTED, and it and RETURN ON are followed by the arbiter's decision. CARRIER OFF leaves the
attempt in flight. RETURN OFF empties the reply buffer uncounted and discards the frame in reception. R78, R85: LINK SET clamps
and writes the settings given, keeps the others, and answers them all; a changed arbitration mode sets the current order to the
fixed order. A transaction in flight and a broadcast under way are left. -/
def Obligations.EnablesAndLinkSettings : Prop :=
  ∀ (s : State) (m : Msg),
    let done := fun t => Host.Outcome.next (putAnswer .technician m (answerDone []) t)
    let u := dropHead .technician s
    (m.body = [] → Asks s .technician 18 m → exec (.carrierOn .technician) s = done
      (if s.engine.carrierOn then u
       else arbitrate { u with
         engine := { s.engine with carrierOn := true }, ident := { s.ident with coldStarted := false } })) ∧
    (m.body = [] → Asks s .technician 19 m → exec (.carrierOff .technician) s = done
      { u with engine := { s.engine with carrierOn := false } }) ∧
    (m.body = [] → Asks s .technician 20 m → exec (.returnOn .technician) s = done
      (if s.engine.returnOn then u
       else arbitrate { u with engine := { s.engine with returnOn := true } })) ∧
    (m.body = [] → Asks s .technician 21 m → exec (.returnOff .technician) s = done
      (if s.engine.returnOn then
        { u with engine := { s.engine with returnOn := false, inFrame := false, buffer := [] } }
       else u)) ∧
    ∀ a : LinkArgs, Asks s .technician 22 m → parseLink m.body = some a →
      ∃ (l : Link) (b : Arbiter),
        exec (.linkSet .technician) s = .next (afterAnswer .technician m
          (answerDone (u8 l.window ++ u8 l.retries ++ u8 l.repeats ++ u8 l.auditInterval
            ++ u8 b.mode.code)) { s with link := l, arbiter := b }) ∧
        l.window = (match a.window with | some v => max 1 (min 25 v) | none => s.link.window) ∧
        l.retries = (match a.retries with | some v => min 3 v | none => s.link.retries) ∧
        l.repeats = (match a.repeats with | some v => max 1 (min 4 v) | none => s.link.repeats) ∧
        l.auditInterval
          = (match a.auditInterval with | some v => max 1 (min 60 v) | none => s.link.auditInterval) ∧
        b.mode = a.mode.getD s.arbiter.mode ∧
        b.order = (if b.mode = s.arbiter.mode then s.arbiter.order
          else [.broadcast, .technician, .sync, .survey])

/-- R88, R89: a query that passes its checks joins the back of the technician queue with the next query number, is answered
ACCEPTED with the number and the entries waiting, and the arbiter decides; with 8 waiting it is
FULL. -/
def Obligations.QueriesAreQueued : Prop :=
  ∀ (s : State) (m : Msg) (n : Nat),
    let no := fun c => Host.Outcome.next (afterAnswer .technician m (refuse c) s)
    let q := s.techQ
    let yes := fun kind token => Host.Outcome.next (putAnswer .technician m
      ⟨.accepted, u8 q.nextNumber ++ u8 (q.waiting.length + 1)⟩
      (arbitrate { dropHead .technician s with techQ := { q with
        waiting := q.waiting ++ [⟨q.nextNumber, kind, n, token⟩]
        nextNumber := if q.nextNumber < 255 then q.nextNumber + 1 else 1 } }))
    (Asks s .technician 23 m → parse16 m.body = some n →
      exec (.tapQuery .technician) s =
        if 1 ≤ n ∧ n ≤ 512 then (if q.waiting.length < 8 then yes .tapQuery [] else no .full)
        else no .outOfRange) ∧
    (∀ token, Asks s .technician 24 m → parseEcho m.body = some (n, token) →
      exec (.tapEcho .technician) s =
        if 1 ≤ n ∧ n ≤ 512 then (if q.waiting.length < 8 then yes .tapEcho token else no .full)
        else no .outOfRange) ∧
    (Asks s .technician 25 m → parse8 m.body = some n →
      exec (.stationQuery .technician) s =
        if 1 ≤ n ∧ n ≤ 64 then (if q.waiting.length < 8 then yes .stationQuery [] else no .full)
        else no .outOfRange)

/-- R110 to R113: MONITOR SET clamps and writes its settings as one act and answers them. ON from OFF sets settling and
begins a conversion of slot 1; OFF from ON leaves no conversion, no judgement, no count and no
measured level, and the slot-select output not driven; a changed resolution begins the conversion in progress
again. -/
def Obligations.MonitorSetAppliesTheSettings : Prop :=
  ∀ (s : State) (m : Msg) (a : MonitorArgs), Asks s .technician 26 m → parseMonitor m.body = some a →
    ∃ t, exec (.monitorSet .technician) s
        = .next (putAnswer .technician m (answerDone t.monitor.wire) t) ∧
      t.monitor.enable = a.enable.getD s.monitor.enable ∧
      t.monitor.resolution = a.resolution.getD s.monitor.resolution ∧
      t.monitor.tolerance
        = (match a.tolerance with | some v => max 10 (min 100 v) | none => s.monitor.tolerance) ∧
      t.monitor.hysteresis = min t.monitor.tolerance (a.hysteresis.getD s.monitor.hysteresis) ∧
      t.monitor.persistence
        = (match a.persistence with | some v => max 1 (min 8 v) | none => s.monitor.persistence) ∧
      (t.monitor.enable = true → s.monitor.enable = false →
        t.monitor.settling = true ∧ t.monitor.cursor = 1 ∧ t.slots = s.slots ∧
        t.out = { s.out with slotSelect := some 1 } ∧
        t.monitor.conversion = some (⟨1, t.monitor.resolution, s.now + t.monitor.resolution.dwell, false⟩ : Conversion)) ∧
      (t.monitor.enable = false → s.monitor.enable = true →
        t.monitor.settling = false ∧ t.monitor.conversion = none ∧
        t.out = { s.out with slotSelect := none } ∧
        (TablesSound s → ∀ n, 1 ≤ n → n ≤ 40 →
          t.slot n = { s.slot n with
            measured := none, judgement := .unjudged, lowCount := 0, highCount := 0, clearCount := 0 })) ∧
      (t.monitor.enable = s.monitor.enable → t.slots = s.slots ∧ t.alarms = s.alarms ∧
        t.monitor.settling = s.monitor.settling ∧ t.monitor.cursor = s.monitor.cursor ∧
        (t.monitor.resolution = s.monitor.resolution ∨ s.monitor.conversion = none →
          t.monitor.conversion = s.monitor.conversion ∧ t.out = s.out) ∧
        (t.monitor.resolution ≠ s.monitor.resolution → ∀ c, s.monitor.conversion = some c →
          t.out = { s.out with slotSelect := some c.slot } ∧
          t.monitor.conversion = some (⟨c.slot, t.monitor.resolution, s.now + t.monitor.resolution.dwell, false⟩ : Conversion))) ∧
      t.butSlots = s.butSlots

/-- R137: after an ALARM RESURVEY that leaves the incomplete flag no, every true condition whose gate is open has a record,
where no CLEARED record stood for a true condition; nothing but the alarm list and the ports changes. It makes a record, in the
order of the table, for each true condition without one, as far as the list has room beside its ACTIVE records, and answers how
many it made; the incomplete flag becomes no where none is left unrecorded, and is yes otherwise. No record is cleared or
reopened: an ACTIVE record stays as it is and where it is, and a CLEARED one stays or is evicted, where room is short. -/
def Obligations.ResurveyRecordsEveryCondition : Prop :=
  ∀ (s : State) (m : Msg), Asks s .technician 27 m → m.body = [] →
    ∃ t n, exec (.alarmResurvey .technician) s = .next (putAnswer .technician m
        (answerDone (u8 n ++ yesNo t.alarms.incomplete)) t) ∧
      t.butAlarms = s.butAlarms ∧
      ((∀ r ∈ s.alarms.records, r.state = .cleared →
          ¬ (s.conditionTrue r.kind r.object = true ∧ s.gateOpen r.kind r.object = true)) →
        (t.alarms.incomplete = false →
          ∀ k ∈ alarmKinds, ∀ o ∈ k.objects,
            s.conditionTrue k o = true → s.gateOpen k o = true → (t.alarm k o).isSome = true) ∧
        (AlarmsSound s →
          let missing := alarmKinds.flatMap fun k =>
            (k.objects.filter fun o =>
              s.conditionTrue k o && s.gateOpen k o && (s.alarm k o).isNone).map fun o => (k, o)
          let room := 128 - (s.alarms.records.filter fun r => decide (r.state = .active)).length
          n = min missing.length room ∧
          (t.alarms.incomplete = true ↔ room < missing.length) ∧
          ∃ kept made, t.alarms.records = kept ++ made ∧ kept.Sublist s.alarms.records ∧
            (∀ r ∈ s.alarms.records, r.state = .active → r ∈ kept) ∧
            (s.alarms.records.length + n ≤ 128 → kept = s.alarms.records) ∧
            made.map (fun r => (r.kind, r.object)) = missing.take n ∧
            ∀ r ∈ made, r.state = .active ∧ r.raised = s.billing.clock ∧ r.recurrence = 0))

/-- R175, R176: a RESTART from the technician is the warm restart and has no answer; the restart line is a warm restart with the
store intact, and a cold start otherwise; each such command answers its next state. A warm restart counts itself, keeps the link
settings, the enables, the broadcast's wanted and repeats, the rates and the clock, the slots', the branches' and the monitor's
settings, what the taps reported and, with the events sound, the subscriber and event records; a slot whose warm behaviour is
ALL is then sponsored by every master, and one with RETAIN by those it had. The watches keep their intervals and last reports:
one that is watched is heard from now, a SILENT one has its recovery poll due (and the arbiter may have granted it), and the
audit begins anew. The monitor clears its judgements and, where ON, begins with slot 1. The restart abandons the queries and the
sweep. A cold start leaves every table empty but that of the sources, whose lines go on. Either start reads each port's bit rate
from its straps and empties its queues: what they held does not enter the state after it, and all that a port then has to send
is the part-started notice and, behind it, the notices of that start's own alarms, event endings and mode (R173); the
notices-missed flag is no, unless such a notice found no room (R172). -/
def Obligations.RestartsAreTaken : Prop :=
  ∀ (s : State) (b : Straps),
    let pair := fun (p : Master) => match p with
      | .office => b.office
      | .technician => b.technician
      | .schedule => b.schedule
    let reads := fun (q : Port) (x : StrapPair) => q.straps = x ∧
      q.rate = (if x.first then (if x.second then 57600 else 19200)
        else if x.second then 38400 else 9600)
    (∀ m, Asks s .technician 28 m → m.body = [] →
      exec (.restart .technician b) s = .next (warmRestart b s)) ∧
    exec (.restartLine true b) s = .next (warmRestart b s) ∧
    exec (.restartLine false b) s = .next (coldStart b s) ∧
    (let t := warmRestart b s
     t.ident.restarts = (if s.ident.restarts < 65535 then s.ident.restarts + 1 else 0) ∧
     t.ident.coldStarted = s.ident.coldStarted ∧ t.link = s.link ∧ t.revision = s.revision ∧
     t.snapshot = s.snapshot ∧ t.arbiter.mode = s.arbiter.mode ∧
     t.engine.carrierOn = s.engine.carrierOn ∧ t.engine.returnOn = s.engine.returnOn ∧
     t.engine.buffer = [] ∧ t.engine.inFrame = false ∧ t.engine.noiseCount = 0 ∧
     t.engine.noiseActive = s.engine.noiseActive ∧ t.techQ = ⟨[], none, 1⟩ ∧
     t.broadcast.wanted = s.broadcast.wanted ∧ t.broadcast.remaining = s.broadcast.remaining ∧
     t.monitor = { s.monitor with
       settling := s.monitor.enable, cursor := 1
       conversion := if s.monitor.enable then some ⟨1, s.monitor.resolution,
         s.now + (if s.monitor.resolution = .fine then 25 else 10), false⟩ else none } ∧
     t.billing = { s.billing with
       sweep := none, tickPending := false, closeWaiting := false, minuteTimer := s.now + 60000 } ∧
     (TablesSound s → EventsSound s → t.subs = s.subs ∧ t.events = s.events) ∧
     (TablesSound s →
       (∀ n, (t.slot n).source = (s.slot n).source ∧ (t.slot n).tier = (s.slot n).tier ∧
         (t.slot n).target = (s.slot n).target ∧ (t.slot n).floorLevel = (s.slot n).floorLevel ∧
         (t.slot n).period = (s.slot n).period ∧ (t.slot n).reserve = (s.slot n).reserve ∧
         (t.slot n).conserve = (s.slot n).conserve ∧ (t.slot n).warm = (s.slot n).warm) ∧
       (∀ n, 1 ≤ n → n ≤ 40 → (t.slot n).judgement = .unjudged ∧ (t.slot n).lowCount = 0 ∧
         (t.slot n).highCount = 0 ∧ (t.slot n).clearCount = 0 ∧ (t.slot n).measured = none) ∧
       (∀ n, 1 ≤ n → n ≤ 40 → (t.slot n).sponsors
         = if (s.slot n).warm = .all then ⟨true, true, true⟩ else (s.slot n).sponsors) ∧
       (∀ n, (t.branch n).defined = (s.branch n).defined ∧ (t.branch n).parent = (s.branch n).parent ∧
         (t.branch n).station = (s.branch n).station ∧ (t.branch n).interval = (s.branch n).interval ∧
         (t.branch n).forced = (s.branch n).forced ∧ (t.branch n).silent = (s.branch n).silent ∧
         (t.branch n).supplyFailed = (s.branch n).supplyFailed) ∧
       t.survey = { s.survey with
         cursor := 1, stepDue := false, auditInFlight := none
         auditTimer := s.survey.clock + s.link.auditInterval * 1000 } ∧
       (∀ n, let w := s.watch n
         (w.state = .unwatched → t.watch n = w) ∧
         (w.state = .silent → ∃ v, (v = .due ∨ v = .polled) ∧
           t.watch n = { w with recovery := v, recoveryDue := some s.survey.clock }) ∧
         (w.state ≠ .unwatched → w.state ≠ .silent → t.watch n = { w with
           state := .watching, lastGood := some s.survey.clock
           due := some (s.survey.clock + 3 * w.interval / 4 * 1000)
           deadline := some (s.survey.clock + w.interval * 1000)
           deadlinePassed := false, recovery := .noPoll, recoveryDue := none })) ∧
       ∀ n, ({ t.tap n with sync := .inStep, lastSent := none } : Tap)
         = { s.tap n with sync := .inStep, lastSent := none }) ∧
     (∀ q : Ports, (∀ p, (({ s with ports := q } : State).port p).sent = (s.port p).sent) →
       warmRestart b { s with ports := q } = t) ∧
     ∀ p, reads (t.port p) (pair p) ∧ (t.port p).rx = .hunting ∧ (t.port p).byteTimer = none ∧
       (t.port p).inQ = [] ∧ (t.port p).inProgress = none ∧ (t.port p).sent = (s.port p).sent ∧
       ∃ rest, (t.port p).outQ = ⟨166, 0,
           (if s.ident.coldStarted then 0 else 1) :: u16 t.ident.restarts⟩ :: rest ∧
         (∀ x ∈ rest, x.tag = 0 ∧
           (x.kind = 160 ∨ x.kind = 161 ∨ x.kind = 162 ∨ x.kind = 164 ∨ x.kind = 165)) ∧
         rest.length ≤ 14 ∧ ((t.port p).missed = true → rest.length = 14)) ∧
    (let t := coldStart b s
     t.sources = tabMap .cold Source.started s.sources ∧ t.slots = [] ∧ t.subs = [] ∧ t.taps = [] ∧
     t.syncSet = [] ∧ t.watches = [] ∧ t.branches = [] ∧ t.tierCount = [] ∧ t.branchEpisodes = [] ∧
     t.tierEpisodes = [] ∧ t.events = [] ∧ t.snapshot = none ∧ t.revision = 1 ∧
     t.engine = State.reset.engine ∧ t.link = ⟨6, 2, 3, 5⟩ ∧
     t.broadcast.wanted = true ∧ t.broadcast.remaining = 3 ∧
     t.arbiter = ⟨.fixed, [.broadcast, .technician, .sync, .survey]⟩ ∧ t.techQ = ⟨[], none, 1⟩ ∧
     t.survey.clock = 0 ∧ t.monitor = ⟨false, .fine, 30, 10, 3, false, 1, none⟩ ∧
     t.ident = ⟨true, 0⟩ ∧ t.billing.clock = 0 ∧ t.billing.cycle = 1 ∧ t.billing.m = 0 ∧
     t.billing.tc = 30 ∧ t.billing.rates = [] ∧ t.billing.sweep = none ∧
     (t.alarm .monitorOff 0).isSome = true ∧
     (∀ q : Ports, (∀ p, (({ s with ports := q } : State).port p).sent = (s.port p).sent) →
       coldStart b { s with ports := q } = t) ∧
     ∀ p, reads (t.port p) (pair p) ∧ (t.port p).rx = .hunting ∧ (t.port p).byteTimer = none ∧
       (t.port p).inQ = [] ∧ (t.port p).inProgress = none ∧ (t.port p).sent = (s.port p).sent ∧
       ∃ rest, (t.port p).outQ = ⟨166, 0, [0, 0, 0]⟩ :: rest ∧
         (∀ x ∈ rest, x.tag = 0 ∧ x.kind = 160) ∧
         rest.length ≤ 14 ∧ ((t.port p).missed = true → rest.length = 14))

/-- R123, R10: further refusals. BRANCH SET refuses a branch outside 1–64, a parent that is above 64, not defined, the branch itself or below it, or
under which the branch and what hangs below it would be more than 8 deep. SLOT SET refuses a slot outside 1–40, a source above
24, a tier above 7, and a move of an event slot off tier 7. -/
def Obligations.BranchAndSlotSetRefusals : Prop :=
  ∀ (s : State) (m : Msg),
    (∀ a : BranchArgs, Asks s .technician 15 m → parseBranch m.body = some a →
      ¬ (1 ≤ a.branch ∧ a.branch ≤ 64) →
        exec (.branchSet .technician) s = .next (afterAnswer .technician m (refuse .outOfRange) s)) ∧
    (∀ (a : BranchArgs) (q : Nat), Asks s .technician 15 m → parseBranch m.body = some a →
      1 ≤ a.branch ∧ a.branch ≤ 64 → a.remove = false → a.parent = some q →
      (64 < q →
        exec (.branchSet .technician) s = .next (afterAnswer .technician m (refuse .outOfRange) s)) ∧
      (1 ≤ q → q ≤ 64 → (s.branch q).defined = false →
        exec (.branchSet .technician) s = .next (afterAnswer .technician m (refuse .notFound) s)) ∧
      (1 ≤ q → q ≤ 64 → (s.branch q).defined = true →
        (q = a.branch ∨ a.branch ∈ s.ancestorsOf q ∨ 8 < s.depth q + s.height a.branch) →
        exec (.branchSet .technician) s
          = .next (afterAnswer .technician m (refuse .conflict) s))) ∧
    (∀ a : SlotArgs, Asks s .schedule 29 m → parseSlot m.body = some a →
      let out := ¬ (1 ≤ a.slot ∧ a.slot ≤ 40) ∨ (∃ n, a.source = some n ∧ 24 < n)
        ∨ ∃ n, a.tier = some n ∧ 7 < n
      (out → exec (.slotSet .schedule) s = .next (afterAnswer .schedule m (refuse .outOfRange) s)) ∧
      (¬ out → ∀ n, a.tier = some n → n ≠ 7 → (s.slot a.slot).tier = 7 → TablesSound s →
        (∃ e, (s.event e).isLive ∧ (s.event e).slot = some a.slot) →
        exec (.slotSet .schedule) s = .next (afterAnswer .schedule m (refuse .conflict) s)))


/-! ### The schedule master's requests and the shared ones -/

/-- R8, R11, R12: a SLOT SET that passes its checks writes the settings given as one act: the target within 100–600, the
floor within 100 and the target that then holds, the period within 1–31. The sponsors stay, a
changed tier raises the revision and reloads the broadcast, and no other slot changes. -/
def Obligations.SlotSetWritesTheSettings : Prop :=
  ∀ (s : State) (m : Msg) (a : SlotArgs), Asks s .schedule 29 m → parseSlot m.body = some a →
    TablesSound s → 1 ≤ a.slot ∧ a.slot ≤ 40 → (∀ n, a.source = some n → n ≤ 24) →
    (∀ n, a.tier = some n → n ≤ 7) → s.movesEventSlot a = false →
    let r := s.slot a.slot
    ∃ t, exec (.slotSet .schedule) s
        = .next (putAnswer .schedule m (answerDone (slotSetContent a.slot t)) t) ∧
      (t.slot a.slot).source
        = (match a.source with | some n => if n = 0 then none else some n | none => r.source) ∧
      (t.slot a.slot).tier = a.tier.getD r.tier ∧
      (t.slot a.slot).target
        = (match a.target with | some v => max 100 (min 600 v) | none => r.target) ∧
      (t.slot a.slot).floorLevel
        = max 100 (min (t.slot a.slot).target (a.floorLevel.getD r.floorLevel)) ∧
      (t.slot a.slot).period = (match a.period with | some v => max 1 (min 31 v) | none => r.period) ∧
      (t.slot a.slot).reserve = a.reserve.getD r.reserve ∧
      (t.slot a.slot).conserve = a.conserve.getD r.conserve ∧
      (t.slot a.slot).warm = a.warm.getD r.warm ∧ (t.slot a.slot).sponsors = r.sponsors ∧
      (t.slot a.slot).owed = (t.slot a.slot).isOwed ∧
      (∀ k, k ≠ a.slot → t.slot k = s.slot k) ∧
      ((t.slot a.slot).tier = r.tier → t.revision = s.revision ∧ t.broadcast = s.broadcast ∧
        t.taps = s.taps) ∧
      ((t.slot a.slot).tier ≠ r.tier →
        t.revision = (if s.revision < 255 then s.revision + 1 else 1) ∧
        t.broadcast.wanted = true ∧ t.broadcast.remaining = s.link.repeats) ∧
      t.out.selector = s.out.selector ++
        (if (t.slot a.slot).source = r.source then [] else [⟨a.slot, (t.slot a.slot).source.getD 0⟩]) ∧
      t.subs = s.subs ∧ t.events = s.events ∧
      ({ t.butEvents with slots := [], revision := 1, monitor := State.reset.monitor } : State)
        = { s.butEvents with slots := [], revision := 1, monitor := State.reset.monitor }

/-- R13, R14, R15: SPONSOR and WITHDRAW put the sending master in the slot's sponsor set or take it out, decide owed, and
answer both; a slot outside 1–40 is OUT_OF_RANGE. The code of owed in the answer, owed 1 and not owed 0, is the model's choice
(log 36). -/
def Obligations.SponsorAndWithdraw : Prop :=
  ∀ (s : State) (p : Master) (m : Msg) (n : Nat) (v : Bool),
    let c : Instr := if v then .sponsor p else .withdraw p
    Asks s p (if v then 32 else 33) m → parse8 m.body = some n →
    (¬ (1 ≤ n ∧ n ≤ 40) → exec c s = .next (afterAnswer p m (refuse .outOfRange) s)) ∧
    (1 ≤ n ∧ n ≤ 40 → TablesSound s →
      ∃ t, exec c s = .next (putAnswer p m
          (answerDone ((t.slot n).sponsors.byte ++ yesNo (t.slot n).owed)) t) ∧
        (∀ q, (t.slot n).sponsors.has q = if q = p then v else (s.slot n).sponsors.has q) ∧
        (t.slot n).owed = (!(t.slot n).sponsors.isEmpty && (s.slot n).source.isSome) ∧
        ((t.slot n).aim, (t.slot n).aimLevel) = (t.slot n).aimIn s.power.mode ∧
        (t.slot n).source = (s.slot n).source ∧ (t.slot n).tier = (s.slot n).tier ∧
        (t.slot n).target = (s.slot n).target ∧ (t.slot n).floorLevel = (s.slot n).floorLevel ∧
        (∀ k, k ≠ n → t.slot k = s.slot k) ∧ t.butSlots = s.butSlots)

/-- R151: EVENT SCHEDULE clamps the duration to 15–720 and the price to 9,999, refuses by the first check that fails, and
otherwise writes the lowest FREE event SCHEDULED. -/
def Obligations.EventScheduleWritesTheEvent : Prop :=
  ∀ (s : State) (m : Msg) (a : ScheduleArgs), Asks s .schedule 30 m → parseSchedule m.body = some a →
    let d := max 15 (min 720 a.duration)
    let no := fun c => Host.Outcome.next (afterAnswer .schedule m (refuse c) s)
    let out := ¬ (1 ≤ a.slot ∧ a.slot ≤ 40) ∨ 4294967295 < a.start + d
    let clash := ∃ e ∈ s.events, e.2.isLive ∧ a.start < e.2.ends.getD 0 ∧ e.2.start.getD 0 < a.start + d
    (out → exec (.eventSchedule .schedule) s = no .outOfRange) ∧
    (¬ out → a.start ≤ s.billing.clock → exec (.eventSchedule .schedule) s = no .wrongState) ∧
    (¬ out → s.billing.clock < a.start → (s.slot a.slot).tier ≠ 7 ∨ clash →
      exec (.eventSchedule .schedule) s = no .conflict) ∧
    (¬ out → s.billing.clock < a.start → (s.slot a.slot).tier = 7 → ¬ clash →
      ((∀ n, 1 ≤ n → n ≤ 16 → (s.event n).state ≠ .free) →
        exec (.eventSchedule .schedule) s = no .full) ∧
      ∀ n, 1 ≤ n → n ≤ 16 → (s.event n).state = .free →
        (∀ k, 1 ≤ k → k < n → (s.event k).state ≠ .free) → TablesSound s →
        let e : Event := { state := .scheduled, slot := some a.slot, start := some a.start,
                           duration := some d, ends := some (a.start + d),
                           price := some (min 9999 a.price), buyers := 0, shown := 0 }
        exec (.eventSchedule .schedule) s
          = .next (afterAnswer .schedule m (answerDone (u8 n ++ e.wire)) (s.setEvent n e)) ∧
        (s.setEvent n e).event n = e ∧ ∀ k, k ≠ n → (s.setEvent n e).event k = s.event k)

/-- R158: EVENT CANCEL. A SCHEDULED event becomes CANCELLED without buyers, and its entries leave every purchase list. The
SHOWING event becomes CANCELLED, and its entries are REFUNDED with charge 0. The office and the schedule master, and no other,
are told of either. Any other event is refused. -/
def Obligations.EventCancelEndsTheEvent : Prop :=
  ∀ (s : State) (m : Msg) (e : Nat), Asks s .schedule 31 m → parse8 m.body = some e →
    let no := fun c => Host.Outcome.next (afterAnswer .schedule m (refuse c) s)
    (¬ (1 ≤ e ∧ e ≤ 16) → exec (.eventCancel .schedule) s = no .outOfRange) ∧
    (1 ≤ e ∧ e ≤ 16 → (s.event e).state = .free → exec (.eventCancel .schedule) s = no .notFound) ∧
    (1 ≤ e ∧ e ≤ 16 → (s.event e).state = .ended ∨ (s.event e).state = .cancelled →
      exec (.eventCancel .schedule) s = no .wrongState) ∧
    (1 ≤ e ∧ e ≤ 16 → TablesSound s → (s.event e).state = .scheduled →
      ∃ t, exec (.eventCancel .schedule) s = .next (putAnswer .schedule m (answerDone []) t) ∧
        t.event e = { s.event e with state := .cancelled, buyers := 0 } ∧
        (∀ k, k ≠ e → t.event k = s.event k) ∧
        (∀ n, t.sub n = { s.sub n with
          purchases := (s.sub n).purchases.filter fun p => decide (p.event ≠ e) }) ∧
        (let told := eventTold e .cancelled .scheduled s.billing.clock 0
         Noticed s t .office 164 [told] ∧ Noticed s t .schedule 164 [told]) ∧
        t.port .technician = s.port .technician ∧
        ({ t with subs := [], events := [] } : State).butPorts
          = ({ s with subs := [], events := [] } : State).butPorts) ∧
    (1 ≤ e ∧ e ≤ 16 → TablesSound s → (s.event e).state = .showing →
      ∃ t, exec (.eventCancel .schedule) s = .next (putAnswer .schedule m (answerDone []) t) ∧
        t.event e = { s.event e with state := .cancelled } ∧
        (∀ k, k ≠ e → t.event k = s.event k) ∧
        (∀ n, t.sub n = { s.sub n with
          purchases := (s.sub n).purchases.map fun p =>
            if p.event = e then { p with settlement := .refunded, charge := some 0 } else p }) ∧
        (let told := eventTold e .cancelled .showing s.billing.clock (s.event e).buyers
         Noticed s t .office 164 [told] ∧ Noticed s t .schedule 164 [told]) ∧
        (∀ x ∈ (t.port .technician).outQ, x.kind = 164 → x ∈ (s.port .technician).outQ) ∧
        t.butEvents = s.butEvents)

/-- R131, R133: AUDIENCE SET writes the sender's filter and leaves the records; another class makes it MALFORMED. The filters
start cold with the table's sets and stay at a warm restart, and a new record takes its audience from them. ALARM ACK by a
member of the audience adds it to the acknowledged set, and tells whether the record, CLEARED and acknowledged by its whole
audience, has been retired; serial 0 is OUT_OF_RANGE, one that no record holds is NOT_FOUND, and a master outside the audience
is NOT_PERMITTED. The code of retired in the answer, 1 or 0, is the model's
choice (log 36). -/
def Obligations.AudienceSetAndAlarmAck : Prop :=
  ∀ (s : State) (p : Master) (m : Msg),
    (∀ c, Asks s p 34 m → parseAudience m.body = some c →
      exec (.audienceSet p) s = .next (afterAnswer p m (answerDone c.byte)
        { s with alarms := s.alarms.setFilter p c }) ∧
      (s.alarms.setFilter p c).records = s.alarms.records ∧
      ∀ q, (s.alarms.setFilter p c).filter q = if q = p then c else s.alarms.filter q) ∧
    (Asks s p 34 m → parseAudience m.body = none →
      exec (.audienceSet p) s = .next (afterAnswer p m (refuse .malformed) s)) ∧
    (∀ b,
      (coldStart b s).alarms.filter .office = ⟨true, false, true⟩ ∧
      (coldStart b s).alarms.filter .technician = ⟨true, true, true⟩ ∧
      (coldStart b s).alarms.filter .schedule = ⟨false, true, false⟩ ∧
      ∀ q, (warmRestart b s).alarms.filter q = s.alarms.filter q) ∧
    (∀ k o, s.alarm k o = none → ∀ r ∈ (raiseAlarm k o s).alarms.records, r.kind = k → r.object = o →
      ∀ q, r.audience.has q = (s.alarms.filter q).has k.cls) ∧
    (∀ n, Asks s p 35 m → parse16 m.body = some n →
      (n = 0 → exec (.alarmAck p) s = .next (afterAnswer p m (refuse .outOfRange) s)) ∧
      (1 ≤ n → (∀ r ∈ s.alarms.records, r.serial ≠ n) →
        exec (.alarmAck p) s = .next (afterAnswer p m (refuse .notFound) s)) ∧
      (1 ≤ n → ∀ l r l', s.alarms.records = l ++ r :: l' → r.serial = n →
        (∀ x ∈ l, x.serial ≠ n) → AlarmsSound s →
        (r.audience.has p = false →
          exec (.alarmAck p) s = .next (afterAnswer p m (refuse .notPermitted) s)) ∧
        (r.audience.has p = true →
          let r' : AlarmRecord := { r with acked := r.acked.put p true }
          let gone := decide (r.state = .cleared ∧ r'.acked = r.audience)
          exec (.alarmAck p) s = .next (afterAnswer p m
            (answerDone (u8 r.state.code ++ r'.acked.byte ++ yesNo gone))
            { s with alarms := { s.alarms with
              records := if gone then l ++ l' else l ++ r' :: l' } }))))


/-! ### The lines, the ramp and the level monitor -/

/-- R3, R4, R6: a presence line that departs from the value of its source's qualified state starts the 2 s timer, and one that
returns to it cancels the timer. At the expiry the qualified state takes the line's value, every owed slot of that source is
source-lost exactly where the source is LOST, and no other slot and no other source changes. (That the 2 s have then passed is
the model's choice, log 1.) -/
def Obligations.SourcePresenceIsQualified : Prop :=
  ∀ (s : State) (n : Nat), 1 ≤ n → n ≤ 24 →
    (∀ high, high ≠ (s.source n).line →
      exec (.sourcePresenceLineChange n high) s = .next (s.setSource n
        { s.source n with
          line := high
          timer := if high = (s.source n).present then none else some (s.now + 2000) })) ∧
    ∀ w, (s.source n).timer = some w → TablesSound s →
      ∃ t, exec (.sourceQualificationExpiry n) s = .next t ∧ t.now = max s.now w ∧
        t.source n = { s.source n with present := (s.source n).line, timer := none } ∧
        (∀ k, k ≠ n → t.source k = s.source k) ∧
        (∀ k, 1 ≤ k → k ≤ 40 → t.slot k =
          if (s.slot k).source = some n then
            { s.slot k with
              owed := (s.slot k).isOwed
              sourceLost := (s.slot k).isOwed && !(s.source n).line }
          else s.slot k) ∧
        t.subs = s.subs ∧ t.taps = s.taps ∧ t.branches = s.branches ∧ t.engine = s.engine

/-- R19, R20: a supply line that departs from its qualified state starts the 2 s timer, and one that returns to it cancels the
timer. At the expiry the qualified state takes the line's value, and the power mode is the one the table gives; with the mode
as it was, nothing else changes, and otherwise all three masters are told the new mode and the one it replaced. (That the 2 s
have then passed is the model's choice, log 1.) -/
def Obligations.SupplyLinesDecideTheMode : Prop :=
  ∀ (s : State) (high : Bool) (w : Nat),
    (high ≠ s.power.mainsLine →
      exec (.supplyLineChange .mainsGood high) s = .next { s with power := { s.power with
        mainsLine := high
        mainsTimer := if high = s.power.mainsQ then none else some (s.now + 2000) } }) ∧
    (high ≠ s.power.reserveLine →
      exec (.supplyLineChange .reserveLow high) s = .next { s with power := { s.power with
        reserveLine := high
        reserveTimer := if high = s.power.reserveQ then none else some (s.now + 2000) } }) ∧
    (s.power.mainsTimer = some w →
      ∃ t, exec (.supplyQualificationExpiry .mainsGood) s = .next t ∧
        t.power = { s.power with
          mainsQ := s.power.mainsLine, mainsTimer := none
          mode := if s.power.mainsLine then .mains
            else if s.power.reserveQ then .conserve else .reserve } ∧
        (t.power.mode = s.power.mode →
          t = { passTime (w - s.now) s with power := t.power }) ∧
        (t.power.mode ≠ s.power.mode → ∀ p,
          Noticed s t p 165 [u8 t.power.mode.code ++ u8 s.power.mode.code]) ∧
        t.subs = s.subs ∧ t.taps = s.taps ∧ t.engine = s.engine) ∧
    (s.power.reserveTimer = some w →
      ∃ t, exec (.supplyQualificationExpiry .reserveLow) s = .next t ∧
        t.power = { s.power with
          reserveQ := s.power.reserveLine, reserveTimer := none
          mode := if s.power.mainsQ then .mains
            else if s.power.reserveLine then .conserve else .reserve } ∧
        (t.power.mode = s.power.mode →
          t = { passTime (w - s.now) s with power := t.power }) ∧
        (t.power.mode ≠ s.power.mode → ∀ p,
          Noticed s t p 165 [u8 t.power.mode.code ++ u8 s.power.mode.code]) ∧
        t.subs = s.subs ∧ t.taps = s.taps ∧ t.engine = s.engine)

/-- R27, R28: a ramp step moves the level by 5 toward the aim level, or the rest of the way; at the aim level the slot is
STEADY, or goes OFF where the aim is NONE; otherwise the next step follows in one period (from the moment the timer ran out:
the model's choice of time, log 1). No other slot changes. -/
def Obligations.RampStepMovesTheLevel : Prop :=
  ∀ (s : State) (n w l : Nat), 1 ≤ n → n ≤ 40 → (s.slot n).stepTimer = some w →
    (s.slot n).level = some l → TablesSound s →
    let r := s.slot n
    let next := if l < r.aimLevel then min r.aimLevel (l + 5) else max r.aimLevel (l - 5)
    ∃ t, exec (.stepTimerExpiry n) s = .next t ∧ t.now = max s.now w ∧
      (next ≠ r.aimLevel → t.slot n = { r with
        level := some next, stepTimer := some (max s.now w + 10 * r.period) }) ∧
      (next = r.aimLevel → r.aim ≠ .off → t.slot n = { r with
        level := some next, ramp := .steady, stepTimer := none }) ∧
      (next = r.aimLevel → r.aim = .off →
        (t.slot n).carrierOn = false ∧ (t.slot n).level = none ∧ (t.slot n).ramp = .steady ∧
        (t.slot n).stepTimer = none ∧ (t.slot n).target = r.target ∧
        (t.slot n).aim = r.aim ∧ (t.slot n).owed = r.owed) ∧
      (∀ k, k ≠ n → t.slot k = s.slot k) ∧
      t.out = { s.out with modulator := s.out.modulator ++
        (if next = r.aimLevel ∧ r.aim = .off then [⟨n, none⟩]
         else if next = l then [] else [⟨n, some next⟩]) } ∧
      t.butSlots = (passTime (w - s.now) s).butSlots

/-- R114: the measured level of a code at each resolution, at most 639; so a slot at target 600 lies above its band only while
the tolerance is below 39. -/
def Obligations.MeasuredLevelOfACode : Prop :=
  ∀ code : Nat,
    (code ≤ 1023 → Resolution.measure .fine code = code * 5 / 8) ∧
    (code ≤ 255 → Resolution.measure .coarse code = (code * 4) * 5 / 8) ∧
    ∀ r : Resolution, code ≤ r.maxCode →
      r.measure code ≤ 639 ∧ ∀ tolerance, 600 + tolerance < r.measure code → tolerance < 39

/-- R112, R115 to R118: at the end of a dwell the conversion is discarded for settling, or the measured level of its slot is stored
and the cursor moves on; the slot-select output is set to the slot at the cursor and its conversion begins (that the dwell has
then passed is the model's choice, log 1). An undisturbed scan is judged. An ON, STEADY slot that is UNJUDGED or GOOD is judged
LOW or HIGH once the persistence of scans in a row lie out-low or out-high, and GOOD by any other scan; a LOW or HIGH one is GOOD
again once as many in a row lie in the return band. An OFF slot is judged STUCK once as many in a row are lit, and STUCK ends
once as many in a row are dark. A RAMPING slot is not judged. -/
def Obligations.ConversionCompletes : Prop :=
  ∀ (s : State) (reading : Nat) (c : Conversion), s.monitor.conversion = some c →
    TablesSound s →
    let now := max s.now c.expiry
    let begun := fun n => some (⟨n, s.monitor.resolution, now + s.monitor.resolution.dwell, false⟩ : Conversion)
    let next := if s.monitor.cursor < 40 then s.monitor.cursor + 1 else 1
    ∃ t, exec (.dwellExpiry reading) s = .next t ∧ t.now = now ∧
      (s.monitor.settling = true → t.slots = s.slots ∧
        t.monitor = { s.monitor with settling := false, conversion := begun s.monitor.cursor } ∧
        t.out = { s.out with slotSelect := some s.monitor.cursor }) ∧
      (s.monitor.settling = false →
        t.monitor = { s.monitor with cursor := next, conversion := begun next } ∧
        t.out = { s.out with slotSelect := some next } ∧
        (let r := s.slot c.slot
         let m := s.monitor
         let l := c.resolution.measure (min c.resolution.maxCode reading)
         let is := fun j low high clear => t.slot c.slot = { r with
           measured := some l, judgement := j, lowCount := low, highCount := high, clearCount := clear }
         ((t.slot c.slot).judgement = r.judgement → t.alarms = s.alarms) ∧
         (c.disturbed = true ∨ (r.carrierOn = true ∧ r.ramp = .ramping) →
           is r.judgement r.lowCount r.highCount r.clearCount) ∧
         (c.disturbed = false → r.carrierOn = true → r.ramp = .steady → ∀ level, r.level = some level →
           (r.judgement = .unjudged ∨ r.judgement = .good →
             (l + m.tolerance < level →
               if m.persistence ≤ r.lowCount + 1 then is .low 0 0 0
               else is r.judgement (r.lowCount + 1) 0 r.clearCount) ∧
             (level + m.tolerance < l →
               if m.persistence ≤ r.highCount + 1 then is .high 0 0 0
               else is r.judgement 0 (r.highCount + 1) r.clearCount) ∧
             (level ≤ l + m.tolerance → l ≤ level + m.tolerance → is .good 0 0 r.clearCount)) ∧
           (r.judgement = .low ∨ r.judgement = .high →
             (level ≤ l + (m.tolerance - m.hysteresis) ∧ l ≤ level + (m.tolerance - m.hysteresis) →
               if m.persistence ≤ r.clearCount + 1 then is .good r.lowCount r.highCount 0
               else is r.judgement r.lowCount r.highCount (r.clearCount + 1)) ∧
             (¬ (level ≤ l + (m.tolerance - m.hysteresis) ∧ l ≤ level + (m.tolerance - m.hysteresis)) →
               is r.judgement r.lowCount r.highCount 0))) ∧
         (c.disturbed = false → r.carrierOn = false →
           (r.judgement = .unjudged ∨ r.judgement = .good →
             (100 ≤ l →
               if m.persistence ≤ r.highCount + 1 then is .stuck 0 0 0
               else is r.judgement r.lowCount (r.highCount + 1) r.clearCount) ∧
             (l < 100 → is .good r.lowCount 0 r.clearCount)) ∧
           (r.judgement = .stuck →
             (l + m.hysteresis < 100 →
               if m.persistence ≤ r.clearCount + 1 then is .good r.lowCount r.highCount 0
               else is r.judgement r.lowCount r.highCount (r.clearCount + 1)) ∧
             (100 ≤ l + m.hysteresis → is r.judgement r.lowCount r.highCount 0))))) ∧
      (∀ k, k ≠ c.slot → t.slot k = s.slot k) ∧
      t.butSlots = (passTime (c.expiry - s.now) s).butSlots


/-! ### The control carrier -/

/-- R64 to R68, R75: the end of an attempt. At transmit completion a MAP LOAD completes DONE and any other command starts its
reply window. A frame taken is judged by the first case of R65's table, and the window's expiry fails the attempt with
NO_REPLY. An attempt that ends discards and counts the frames still in the buffer; a failed one is retried while attempts
remain and the carrier is ON. At a completion the record is handed over, then the engine becomes IDLE, then the arbiter
decides. (That the window's time has passed at its expiry is the model's choice, log 1.) R62, R65, R177: how a reply frame is
read, its sender, its kind and its content, one that does not fit the layout being of no kind; and the kind that each command
expects. (A housing, door or supply byte outside its list is a free value, log 27; that a frame of another type is of no kind is
the model's, log 15.) -/
def Obligations.AttemptsRunToTheirEnd : Prop :=
  ((∀ (ty c hi lo : Byte) (rest : List Byte), frameSender (ty :: c :: hi :: lo :: rest) =
      let addr := hi.toNat * 256 + lo.toNat
      if c = 1 then some (.tap, addr) else if c = 2 then some (.station, addr) else none) ∧
    (∀ (ty c hi lo kind n check : Byte) (content : List Byte), content.length = n.toNat →
      let bit := fun (b : Byte) (past : Byte → Bool) => if b = 0 then false else if b = 1 then true else past b
      let read := frameReply (ty :: c :: hi :: lo :: kind :: n :: (content ++ [check]))
      (ty ≠ 3 → read = none) ∧
      (ty = 3 → kind = 1 →
        (∀ p1 p2 p3 p4 rev housing, content = [p1, p2, p3, p4, rev, housing] →
          read = some (.tapStatus ⟨p1, p2, p3, p4⟩ rev.toNat (bit housing Config.housingPastList))) ∧
        (content.length ≠ 6 → read = none)) ∧
      (ty = 3 → kind = 2 →
        (∀ supply door a b, content = [supply, door, a, b] →
          ∃ v, read = some (.stationStatus ⟨v, bit door Config.doorPastList, a.toNat * 256 + b.toNat⟩) ∧
            (supply = 0 → v = .mains) ∧ (supply = 1 → v = .standby) ∧ (supply = 2 → v = .failed)) ∧
        (content.length ≠ 4 → read = none)) ∧
      (ty = 3 → kind = 3 →
        read = if 1 ≤ content.length ∧ content.length ≤ 8 then some (.echo content) else none) ∧
      (kind ≠ 1 → kind ≠ 2 → kind ≠ 3 → read = none)) ∧
    ∀ (c : Command) (r : Reply), c.expects r = true ↔
      ((∃ m x, c = .portSet m x) ∨ c = .portRead) ∧ (∃ m rev housing, r = .tapStatus m rev housing) ∨
      (c = .stationPoll ∧ ∃ report, r = .stationStatus report) ∨
      ∃ token, c = .echo token ∧ r = .echo token) ∧
  ∀ (s : State) (x : Txn), s.engine.txn = some x →
    (s.engine.state = .sending → exec .transmitCompletion s =
      .next (match x.cmd with
        | .mapLoad _ => completeTxn x .done none s
        | _ => { s with engine := { s.engine with
            state := .awaiting, window := some (s.now + x.windowMs) } })) ∧
    (s.engine.state = .awaiting → ∀ f rest, s.engine.buffer = f :: rest →
      let u : State := { s with engine := { s.engine with buffer := rest } }
      (f.status ≠ .intact →
        exec .replyTake s = .next (failAttempt x .faultyReply (countNoise u))) ∧
      (f.status = .intact → frameSender f.bytes ≠ some (x.cls, x.addr) →
        exec .replyTake s =
          .next (if f.overrun then failAttempt x .faultyReply (countNoise u) else countNoise u)) ∧
      (f.status = .intact → frameSender f.bytes = some (x.cls, x.addr) →
        (∀ r, frameReply f.bytes = some r → x.cmd.expects r = true →
          exec .replyTake s = .next (completeTxn x .done (some r) (closeAttempt u))) ∧
        ((∀ r, frameReply f.bytes = some r → x.cmd.expects r = false) →
          exec .replyTake s = .next (failAttempt x .faultyReply u)))) ∧
    (s.engine.state = .awaiting → ∀ w, s.engine.window = some w →
      exec .replyWindowExpiry s = .next (failAttempt x .noReply (passTime (w - s.now) s))) ∧
    (∀ (f : Failure) (u : State),
      (u.engine.carrierOn = false →
        failAttempt x f u = completeTxn x .carrierOff none (closeAttempt u)) ∧
      (u.engine.carrierOn = true → x.used < x.limit →
        failAttempt x f u
          = beginAttempt { x with used := x.used + 1, lastFailure := some f } (closeAttempt u)) ∧
      (u.engine.carrierOn = true → x.limit ≤ x.used →
        failAttempt x f u = completeTxn x f.outcome none (closeAttempt u))) ∧
    (∀ (o : TxnOutcome) (r : Option Reply) (u : State),
      let v := handOver ⟨x.requester, x.cls, x.addr, x.cmd, x.used, o, r⟩ u
      completeTxn x o r u
        = arbitrate { v with engine := { v.engine with state := .idle, txn := none, window := none } }) ∧
    ∀ u : State, u.engine.noiseCount ≤ 65535 →
      (closeAttempt u).engine.window = none ∧ (closeAttempt u).engine.buffer = [] ∧
      (closeAttempt u).engine.noiseCount = min 65535 (u.engine.noiseCount + u.engine.buffer.length) ∧
      (closeAttempt u).engine.txn = u.engine.txn

/-- R71 to R77: the receiver. Every symbol takes the value of at least two of its three samples. While the return enable is ON, a
start indication so decided begins a frame; any other is a noise spike and is without effect. A frame in reception that
completes takes its receive status, waits in the buffer while the engine is AWAITING and the buffer has room, marks the newer
frame OVERRUN where it has none, and is otherwise counted. One that stops short is a framing fault. With no frame in
reception nothing is received, and none is while the return enable is OFF (such a command is no event: the model's choice,
log 7). The bit order of the 8-bit check is the model's choice as well (log 44). A counted frame adds 1, up to 65,535; the one that brings the count to 8 makes the noise condition active and posts
RETURN_NOISE as raised. -/
def Obligations.ReturnFramesAreReceived : Prop :=
  ∀ (s : State) (bytes : List SampledByte) (stops : List SampledStop), wfSamples bytes stops = true →
    let two := fun (a b c : Bool) => (a = true ∧ b = true) ∨ (a = true ∧ c = true) ∨ (b = true ∧ c = true)
    let after := fun (f : Frame) =>
      let u : State := { s with engine := { s.engine with inFrame := false } }
      if s.engine.state = .awaiting then
        { u with engine := { u.engine with
          buffer := if s.engine.buffer.length < 2 then s.engine.buffer ++ [f]
            else markOverrun s.engine.buffer } }
      else countNoise u
    (∀ (content : List Byte) (status : RxStatus), content.length = bytes.length →
      (∀ e ∈ bytes.zip content, ∀ k, k < 8 → (e.2.getLsbD k = true ↔
        two (e.1.first.getLsbD k) (e.1.second.getLsbD k) (e.1.third.getLsbD k))) →
      (status = .framingFault ↔ ∃ x ∈ stops, ¬ two x.first x.second x.third) →
      (status = .intact ↔ (∀ x ∈ stops, two x.first x.second x.third) ∧
        content.getLast? = some (crc8 content.dropLast)) →
      s.engine.returnOn = true → s.engine.inFrame = true →
        exec (.frameReceived bytes stops) s = .next (after ⟨content, status, false⟩)) ∧
    (s.engine.returnOn = true → s.engine.inFrame = true →
      exec .frameStreamTimeout s = .next (after ⟨[], .framingFault, false⟩)) ∧
    (∀ a b c, s.engine.returnOn = true → s.engine.inFrame = false →
      (two a b c → exec (.startIndication a b c) s = .next
        { s with engine := { s.engine with inFrame := true } }) ∧
      (¬ two a b c → exec (.startIndication a b c) s = .next s)) ∧
    (s.engine.inFrame = false →
      exec (.frameReceived bytes stops) s = .next s ∧ exec .frameStreamTimeout s = .next s) ∧
    (s.engine.returnOn = false →
      exec (.frameReceived bytes stops) s = .next s ∧ exec .frameStreamTimeout s = .next s ∧
      ∀ a b c, exec (.startIndication a b c) s = .next s) ∧
    (∀ f g : Frame, markOverrun [f, g] = [f, { g with overrun := true }]) ∧
    ∀ u : State,
      let n := min 65535 (u.engine.noiseCount + 1)
      (n ≠ 8 → countNoise u = { u with engine := { u.engine with noiseCount := n } }) ∧
      (n = 8 → countNoise u = raiseAlarm .returnNoise 0
        { u with engine := { u.engine with noiseCount := 8, noiseActive := true } })

/-- R82, R83, R84, R87: the arbiter decides with the engine IDLE and the carrier ON, and otherwise grants nothing. In FIXED the first ready requester in the fixed
order is granted and the current order stays, so that SURVEY is granted only with no broadcast wanted, no query waiting and no
tap in the sync set. In ROTATING the first ready requester in the current order is granted and moves to the end, and the others
keep their order; so a requester that stays ready moves one place forward at each other grant. -/
def Obligations.ArbiterGrantsByMode : Prop :=
  ∀ s : State,
    (¬ (s.engine.state = .idle ∧ s.engine.carrierOn = true) → arbitrate s = s) ∧
    (s.engine.state = .idle → s.engine.carrierOn = true →
      (s.arbiter.mode = .fixed → ∀ l r l', [.broadcast, .technician, .sync, .survey] = l ++ r :: l' →
        s.ready r = true → (∀ q ∈ l, s.ready q = false) →
        arbitrate s = grantTo r s ∧ (arbitrate s).arbiter = s.arbiter ∧
        (r = .survey → s.broadcast.wanted = false ∧ s.techQ.waiting = [] ∧ s.syncSet = [])) ∧
      (s.arbiter.mode = .rotating → ∀ l r l', s.arbiter.order = l ++ r :: l' →
        s.ready r = true → (∀ q ∈ l, s.ready q = false) →
        arbitrate s = grantTo r { s with arbiter := { s.arbiter with order := l ++ l' ++ [r] } } ∧
        (arbitrate s).arbiter = { s.arbiter with order := l ++ l' ++ [r] } ∧
        (ArbiterSound s → ∀ q, q ≠ r → s.ready q = true →
          (l ++ l' ++ [r]).idxOf q + 1 = s.arbiter.order.idxOf q)) ∧
      ((∀ r, s.ready r = false) → arbitrate s = s))

/-- R70, R90, R50, R98, R105, R63: the transaction that each grant hands to the engine, and what the requester writes with it. The
survey unit chooses the due poll with the earliest due time, a recovery poll at its own, the lower branch number first; with no
poll due it chooses the first eligible tap after the audit cursor, wrapping to the lowest, the cursor's own tap last. R59,
R61, R177: the bytes of the address frame and of each command's message, and the check that ends them: it is linear in its bytes,
and the bit order and the absence of an inversion are the model's choice (log 44). -/
def Obligations.GrantsBuildTheirTransactions : Prop :=
  ((∀ cls addr, addressFrame cls addr =
      let l := 1 :: (match cls with | .tap => 1 | .station => 2 | .allTaps => 3) :: u16 addr
      l ++ [crc8 l]) ∧
    (let frame := fun (c : Command) (l : List Byte) => commandMessage c = l ++ [crc8 l]
     (∀ m : Quad TierSet, frame (.portSet m none) [2, 1, 5, m.p1, m.p2, m.p3, m.p4, 0]) ∧
     (∀ (m : Quad TierSet) (x : TierMap), x.tiers.length = 40 → frame (.portSet m (some x))
       ([2, 1, 46, m.p1, m.p2, m.p3, m.p4, 1, BitVec.ofNat 8 x.revision]
         ++ x.tiers.map (BitVec.ofNat 8 ·))) ∧
     frame .portRead [2, 2, 0] ∧
     (∀ token, frame (.echo token) (2 :: 3 :: BitVec.ofNat 8 token.length :: token)) ∧
     frame .stationPoll [2, 4, 0] ∧
     ∀ x : TierMap, x.tiers.length = 40 → frame (.mapLoad x)
       ([2, 5, 41, BitVec.ofNat 8 x.revision] ++ x.tiers.map (BitVec.ofNat 8 ·))) ∧
    crc8 [] = 0 ∧ crc8 [1] = 7 ∧ (∀ l b, crc8 (l ++ [b]) = crc8 [crc8 l ^^^ b]) ∧
    (∀ a b, crc8 [a ^^^ b] = crc8 [a] ^^^ crc8 [b]) ∧
    ∀ b : Byte, b.getLsbD 7 = false →
      crc8 [b <<< 1] = (crc8 [b] <<< 1) ^^^ (if (crc8 [b]).getLsbD 7 then 7 else 0)) ∧
  ∀ s : State,
    let sends := fun (t : State) r c addr cmd limit =>
      t.engine.state = .sending ∧
      t.engine.txn = some ⟨r, c, addr, cmd, limit, 10 * s.link.window, 1, none⟩ ∧
      t.out.carrier = s.out.carrier ++ [addressFrame c addr, commandMessage cmd]
    (sends (grantTo .broadcast s) .broadcast .allTaps 0 (.mapLoad s.tierMap) 1 ∧
      (grantTo .broadcast s).broadcast = { s.broadcast with revisionSent := s.revision }) ∧
    (∀ q rest, s.techQ.waiting = q :: rest →
      sends (grantTo .technician s) .technician
        (if q.kind = .stationQuery then .station else .tap) q.addr
        (match q.kind with
          | .tapQuery => .portRead
          | .tapEcho => .echo q.token
          | .stationQuery => .stationPoll) (s.link.retries + 1) ∧
      (grantTo .technician s).techQ = { s.techQ with waiting := rest, inFlight := some q }) ∧
    (∀ tp rest, s.syncSet = tp :: rest → TablesSound s →
      sends (grantTo .sync s) .sync .tap tp
        (.portSet (s.desiredMasks tp)
          (if (s.tap tp).heldRev = some s.revision then none else some s.tierMap))
        (s.link.retries + 1) ∧
      (grantTo .sync s).syncSet = rest ∧
      (grantTo .sync s).tap tp = { s.tap tp with
        sync := .inFlight, lastSent := some ⟨s.desiredMasks tp, s.revision⟩ } ∧
      ∀ k, k ≠ tp → (grantTo .sync s).tap k = s.tap k) ∧
    (TablesSound s →
      let polls := fun b d =>
        ((s.watch b).state = .pollDue ∧ d = (s.watch b).due.getD 0) ∨
        ((s.watch b).state = .silent ∧ (s.watch b).recovery = .due ∧ d = (s.watch b).recoveryDue.getD 0)
      let eligible := fun tp => (s.tap tp).installed = true ∧ (s.tap tp).sync ≠ .queued ∧
        (s.tap tp).sync ≠ .inFlight
      (∀ b d, polls b d → (∀ k e, polls k e → d < e ∨ (d = e ∧ b ≤ k)) → s.choosePoll = some b) ∧
      ((∀ b d, ¬ polls b d) → s.choosePoll = none) ∧
      (∀ tp, eligible tp →
        (s.survey.cursor < tp ∧ ∀ k, eligible k → s.survey.cursor < k → tp ≤ k) ∨
          (∀ k, eligible k → k ≤ s.survey.cursor ∧ tp ≤ k) → s.chooseAudit = some tp) ∧
      ((∀ tp, ¬ eligible tp) → s.chooseAudit = none)) ∧
    (∀ b, s.choosePoll = some b → TablesSound s →
      sends (grantTo .survey s) .survey .station b .stationPoll (s.link.retries + 1) ∧
      (((s.watch b).state = .pollDue ∧
          (grantTo .survey s).watch b = { s.watch b with state := .polled }) ∨
        ((s.watch b).state = .silent ∧ (s.watch b).recovery = .due ∧
          (grantTo .survey s).watch b = { s.watch b with recovery := .polled })) ∧
      (∀ k, k ≠ b → (grantTo .survey s).watch k = s.watch k) ∧
      (grantTo .survey s).survey = s.survey) ∧
    (∀ tp, s.choosePoll = none → s.chooseAudit = some tp →
      sends (grantTo .survey s) .survey .tap tp .portRead (s.link.retries + 1) ∧
      (grantTo .survey s).survey
        = { s.survey with cursor := tp, auditInFlight := some tp, stepDue := false })

/-- R51 to R55, R68, R70, R91, R99, R106: what a completion record does at its requester. A MAP LOAD of the current revision takes
one from the repeats. A query's completion is noticed to the technician and its entry removed, then a DONE TAP QUERY is taken in
(in this order: the model's choice, log 20; the notice's layout: log 28). A port set that agrees with what was sent leaves its
tap IN_STEP, or QUEUED where the reply differs from what is desired now. One that does not agree leaves it MISMATCH, or QUEUED
where what is desired now differs from what was sent. One that failed with the return ON leaves it FAILED and UNREACHABLE; any
other failure puts it back in the sync set, where it stays unless it is in step by what it last reported. A poll goes to its
watch, and an audit's reply to the tap; an audit that failed with the return ON makes its tap UNREACHABLE, and any other
failure says nothing about it. -/
def Obligations.CompletionsReachTheirRequester : Prop :=
  ∀ (s : State) (c : Completion),
    let t := handOver c s
    let tp := c.addr
    (c.requester = .broadcast → t = { s with
      broadcast := if s.broadcast.revisionSent = s.revision then
          { s.broadcast with
            remaining := s.broadcast.remaining - 1
            wanted := decide (0 < s.broadcast.remaining - 1) }
        else s.broadcast }) ∧
    (c.requester = .technician → ∀ q, s.techQ.inFlight = some q →
      let noticed := fun (reply : List Byte) => ({ putNotice .technician 163
          (u8 q.number ++ u8 q.kind.code ++ u8 c.cls.code ++ u16 c.addr ++ u8 c.used
            ++ u8 c.outcome.code ++ reply) s with
        techQ := { s.techQ with inFlight := none } } : State)
      (c.reply = none → t = noticed []) ∧
      (∀ token, c.reply = some (.echo token) → t = noticed token) ∧
      (∀ r, c.reply = some (.stationStatus r) →
        t = noticed (u8 r.supply.code ++ openClosed r.doorOpen ++ u16 r.level)) ∧
      (∀ m rev housing, c.reply = some (.tapStatus m rev housing) → c.cmd = .portRead →
        t = intakeReply tp m rev housing
          (noticed ([m.p1, m.p2, m.p3, m.p4] ++ u8 rev ++ yesNo housing)))) ∧
    (c.requester = .sync → TablesSound s → (s.tap tp).installed = true → (s.tap tp).sync = .inFlight →
      (∀ sent map m rev housing, c.cmd = .portSet sent map → c.reply = some (.tapStatus m rev housing) →
        let agrees := m = sent ∧ ∀ x, map = some x → rev = x.revision
        let apart := rev ≠ s.revision ∨ ∃ p, (1 ≤ p ∧ p ≤ 4) ∧ m.get p ≠ s.desiredMask tp p
        { t.tap tp with sync := .inFlight } = { s.tap tp with
          reach := .reachable, heldRev := some rev, housingOpen := housing
          reported := ⟨some m.p1, some m.p2, some m.p3, some m.p4⟩ } ∧
        (agrees → ¬ apart → (t.tap tp).sync = .inStep ∧ t.syncSet = s.syncSet) ∧
        (agrees → apart → (t.tap tp).sync = .queued ∧ t.syncSet = s.syncSet ++ [tp]) ∧
        (¬ agrees → ∀ l, (s.tap tp).lastSent = some l →
          let changed := s.revision ≠ l.revision ∨
            ∃ p, (1 ≤ p ∧ p ≤ 4) ∧ l.masks.get p ≠ s.desiredMask tp p
          (¬ changed → (t.tap tp).sync = .mismatch ∧ t.syncSet = s.syncSet) ∧
          (changed → (t.tap tp).sync = .queued ∧ t.syncSet = s.syncSet ++ [tp])) ∧
        (∀ n, t.sub n =
          if (s.sub n).status = .active ∧ (s.sub n).tap = some tp then
            { s.sub n with c := m.get ((s.sub n).port.getD 0) } else s.sub n) ∧
        (∀ k, k ≠ tp → t.tap k = s.tap k) ∧ t.butTaps = s.butTaps) ∧
      (c.reply = none →
        (c.outcome ≠ .carrierOff → s.engine.returnOn = true →
          t.tap tp = { s.tap tp with sync := .failed, reach := .unreachable } ∧
          t.syncSet = s.syncSet) ∧
        (c.outcome = .carrierOff ∨ s.engine.returnOn = false →
          let apart := (s.tap tp).heldRev ≠ some s.revision ∨
            ∃ p, (1 ≤ p ∧ p ≤ 4) ∧ (s.tap tp).reported.get p ≠ some (s.desiredMask tp p)
          (apart → t.tap tp = { s.tap tp with sync := .queued } ∧ t.syncSet = s.syncSet ++ [tp]) ∧
          (¬ apart → tp ∉ s.syncSet →
            t.tap tp = { s.tap tp with sync := .inStep } ∧ t.syncSet = s.syncSet)) ∧
        (∀ k, k ≠ tp → t.tap k = s.tap k) ∧ t.subs = s.subs ∧ t.butTaps = s.butTaps)) ∧
    (c.requester = .survey → c.cls = .station →
      (c.reply = none → t = pollCompleted c.addr c.outcome none s) ∧
      ∀ r, c.reply = some (.stationStatus r) → t = pollCompleted c.addr c.outcome (some r) s) ∧
    (c.requester = .survey → c.cls = .tap →
      let u : State := { s with survey := { s.survey with auditInFlight := none } }
      (∀ m rev housing, c.reply = some (.tapStatus m rev housing) → t = intakeReply tp m rev housing u) ∧
      (c.reply = none → c.outcome = .carrierOff ∨ s.engine.returnOn = false → t = u) ∧
      (c.reply = none → c.outcome ≠ .carrierOff → s.engine.returnOn = true →
        (s.tap tp).installed = true → TablesSound s →
        t.tap tp = { s.tap tp with reach := .unreachable } ∧ (∀ k, k ≠ tp → t.tap k = s.tap k) ∧
        t.syncSet = s.syncSet ∧ t.subs = s.subs ∧ t.butTaps = u.butTaps))


/-! ### Taps, the survey, accrual and alarms -/

/-- R38, R47, R51: the desired mask of a port is empty without an ACTIVE record or with a locked one; else it passes the tiers of
W, and tier 7 where the record holds a purchase of the SHOWING event. The entry test compares the four desired masks and the
revision with what the tap reports, or, for a MISMATCH tap, with what was last sent to it. The reply of an audit or a query
is taken into an installed tap and the records it serves; a FAILED tap then enters the sync set, a MISMATCH tap found in
step becomes IN_STEP, and any other is tested. -/
def Obligations.EntryTestFollowsTheTable : Prop :=
  ∀ (s : State) (t : Nat),
    (∀ p, s.claimant t p = none → s.desiredMask t p = 0) ∧
    (∀ p n, s.claimant t p = some n → (s.sub n).locked = true → s.desiredMask t p = 0) ∧
    (∀ p n k, s.claimant t p = some n → (s.sub n).locked = false → k < 8 →
      (hasTier (s.desiredMask t p) k = true ↔ hasTier (s.sub n).w k = true ∨
        (k = 7 ∧ ∃ e ∈ (s.sub n).purchases, (s.event e.event).state = .showing))) ∧
    (let r := s.tap t
     let apart := r.heldRev ≠ some s.revision ∨
       ∃ p, (1 ≤ p ∧ p ≤ 4) ∧ r.reported.get p ≠ some (s.desiredMask t p)
     let enters := setSync t .queued { s with syncSet := s.syncSet ++ [t] }
     (r.installed = false ∨ r.sync = .inFlight ∨ r.sync = .failed → entryTest t s = s) ∧
     (r.installed = true → r.sync = .inStep →
       (apart → entryTest t s = enters) ∧ (¬ apart → entryTest t s = s)) ∧
     (r.installed = true → r.sync = .queued →
       (apart → entryTest t s = s) ∧
       (¬ apart → entryTest t s = setSync t .inStep { s with syncSet := s.syncSet.erase t })) ∧
     (r.installed = true → r.sync = .mismatch → ∀ l, r.lastSent = some l →
       ((s.revision ≠ l.revision ∨ ∃ p, (1 ≤ p ∧ p ≤ 4) ∧ l.masks.get p ≠ s.desiredMask t p) →
         entryTest t s = enters) ∧
       (¬ (s.revision ≠ l.revision ∨ ∃ p, (1 ≤ p ∧ p ≤ 4) ∧ l.masks.get p ≠ s.desiredMask t p) →
         entryTest t s = s))) ∧
    ∀ (m : Quad TierSet) (rev : Nat) (housing : Bool),
      let u := intakeReply t m rev housing s
      let apart := rev ≠ s.revision ∨ ∃ p, (1 ≤ p ∧ p ≤ 4) ∧ m.get p ≠ s.desiredMask t p
      let stays := (u.tap t).sync = (s.tap t).sync ∧ u.syncSet = s.syncSet
      let enters := (u.tap t).sync = .queued ∧ u.syncSet = s.syncSet ++ [t]
      ((s.tap t).installed = false → u = s) ∧
      ((s.tap t).installed = true → TablesSound s →
        { u.tap t with sync := (s.tap t).sync } = { s.tap t with
          reach := .reachable, heldRev := some rev, housingOpen := housing
          reported := ⟨some m.p1, some m.p2, some m.p3, some m.p4⟩ } ∧
        (∀ n, u.sub n =
          if (s.sub n).status = .active ∧ (s.sub n).tap = some t then
            { s.sub n with c := m.get ((s.sub n).port.getD 0) } else s.sub n) ∧
        ((s.tap t).sync = .inFlight → stays) ∧
        ((s.tap t).sync = .failed → enters) ∧
        ((s.tap t).sync = .inStep → (apart → enters) ∧ (¬ apart → stays)) ∧
        ((s.tap t).sync = .queued → (apart → stays) ∧
          (¬ apart → (u.tap t).sync = .inStep ∧ u.syncSet = s.syncSet.erase t)) ∧
        ((s.tap t).sync = .mismatch →
          (¬ apart → (u.tap t).sync = .inStep ∧ u.syncSet = s.syncSet) ∧
          (apart → ∀ l, (s.tap t).lastSent = some l →
            ((s.revision ≠ l.revision ∨ ∃ p, (1 ≤ p ∧ p ≤ 4) ∧ l.masks.get p ≠ s.desiredMask t p) →
              enters) ∧
            (¬ (s.revision ≠ l.revision ∨ ∃ p, (1 ≤ p ∧ p ≤ 4) ∧ l.masks.get p ≠ s.desiredMask t p) →
              stays))) ∧
        (∀ k, k ≠ t → u.tap k = s.tap k) ∧ u.butTaps = s.butTaps)

/-- R98, R101, R102, R104: with the return enable ON the survey clock reaches a poll's due time, a station's deadline, a recovery
poll's due time or the audit step; what falls due is written and the arbiter decides. A deadline defers an outstanding poll
and makes a WATCHING record SILENT, posted to the correlator first (log 10). (That the survey clock has then reached that time is
the model's choice, log 1.) -/
def Obligations.SurveyTimesFallDue : Prop :=
  ∀ (s : State) (b d : Nat), s.engine.returnOn = true → 1 ≤ b → b ≤ 64 →
    let w := s.watch b
    let u := passTime (d - s.survey.clock) s
    (w.state = .watching → w.due = some d →
      exec (.pollDueTime b) s = .next (arbitrate (u.setWatch b { w with state := .pollDue }))) ∧
    ((w.state = .pollDue ∨ w.state = .polled) → w.deadlinePassed = false → w.deadline = some d →
      exec (.stationDeadline b) s
        = .next (arbitrate (u.setWatch b { w with deadlinePassed := true }))) ∧
    (w.state = .watching → w.deadline = some d →
      exec (.stationDeadline b) s = .next (arbitrate
        (raiseAlarm .stationSilent b (postSilence b true (u.setWatch b { w with
          state := .silent, due := none, deadline := none, deadlinePassed := false,
          recovery := .waiting, recoveryDue := some (u.survey.clock + w.interval * 1000) }))))) ∧
    (w.state = .silent → w.recovery = .waiting → w.recoveryDue = some d →
      exec (.recoveryDueTime b) s = .next (arbitrate (u.setWatch b { w with recovery := .due }))) ∧
    (s.survey.auditTimer = d →
      exec .auditStepTimerExpiry s = .next (arbitrate { u with survey := { u.survey with
        stepDue := true, auditTimer := u.survey.clock + s.link.auditInterval * 1000 } })) ∧
    (s.survey.clock ≤ d → d ≤ surveyClockMax → u.survey.clock = d)

/-- R99, R100: what the completion of a poll of the survey unit does to the watch record it finds POLLED or with its recovery poll
POLLED. A DONE poll posts the end of a silence and then the conditions of its report (the correlator first and
in this order: the model's choices, logs 10 and 11). Each station condition that a change of report makes true then has an ACTIVE record, or the list is incomplete; none
that it makes false has an ACTIVE one; one that it leaves stays as it is, and a report that changes none posts nothing. The
correlator learns whether the supply has FAILED. -/
def Obligations.PollCompletionDecidesTheWatch : Prop :=
  ∀ (s : State) (b : Nat) (o : TxnOutcome), TablesSound s →
    let w := s.watch b
    let polled := w.state = .polled ∨ (w.state = .silent ∧ w.recovery = .polled)
    (¬ polled → ∀ r, pollCompleted b o r s = s) ∧
    (polled → ∀ r,
      (pollCompleted b .done (some r) s).watch b = { w with
        state := .watching, lastGood := some s.survey.clock
        due := some (s.survey.clock + 3 * w.interval / 4 * 1000)
        deadline := some (s.survey.clock + w.interval * 1000), deadlinePassed := false
        recovery := .noPoll, recoveryDue := none, lastReport := some r } ∧
      ((pollCompleted b .done (some r) s).branch b).silent
        = (if w.state = .silent then false else (s.branch b).silent) ∧
      (let u := s.setWatch b ((pollCompleted b .done (some r) s).watch b)
       pollCompleted b .done (some r) s
         = postReport b w.lastReport (some r)
           (if w.state = .silent then endAlarm .stationSilent b (postSilence b false u) else u))) ∧
    (∀ old new : Option StationReport,
      let holds := fun (k : AlarmKind) (x : Option StationReport) => ∃ r, x = some r ∧
        ((k = .stationSupplyFailed ∧ r.supply = .failed) ∨
          (k = .stationOnStandby ∧ r.supply = .standby) ∨ (k = .stationDoorOpen ∧ r.doorOpen = true))
      let t := postReport b old new s
      let kinds : List AlarmKind := [.stationSupplyFailed, .stationOnStandby, .stationDoorOpen]
      ((∀ k ∈ kinds, holds k old ↔ holds k new) → t = s) ∧
      ((holds .stationSupplyFailed new → ¬ holds .stationSupplyFailed old →
          (t.branch b).supplyFailed = true) ∧
        (holds .stationSupplyFailed old → ¬ holds .stationSupplyFailed new →
          (t.branch b).supplyFailed = false)) ∧
      (AlarmsSound s → ∀ k ∈ kinds,
        (holds k new → ¬ holds k old →
          (∃ x, t.alarm k b = some x ∧ x.state = .active) ∨ t.alarms.incomplete = true) ∧
        (holds k old → ¬ holds k new → ∀ x, t.alarm k b = some x → x.state = .cleared) ∧
        ((holds k old ↔ holds k new) → ∀ x, s.alarm k b = some x → x.state = .active →
          t.alarm k b = some x)) ∧
      t.butBranches = s.butBranches) ∧
    ((o = .noReply ∨ o = .faultyReply) → s.engine.returnOn = true →
      (w.state = .polled → w.deadlinePassed = false →
        pollCompleted b o none s = s.setWatch b { w with state := .pollDue }) ∧
      (w.state = .polled → w.deadlinePassed = true →
        ((pollCompleted b o none s).watch b).state = .silent ∧
        ((pollCompleted b o none s).branch b).silent = true) ∧
      (w.state = .silent → w.recovery = .polled →
        pollCompleted b o none s = s.setWatch b { w with
          recovery := .waiting, recoveryDue := some (s.survey.clock + w.interval * 1000) })) ∧
    ((o = .carrierOff ∨ ((o = .noReply ∨ o = .faultyReply) ∧ s.engine.returnOn = false)) →
      (w.state = .polled → pollCompleted b o none s = s.setWatch b { w with state := .pollDue }) ∧
      (w.state = .silent → w.recovery = .polled →
        pollCompleted b o none s = s.setWatch b { w with recovery := .due }))

/-- R140, R142, R143, R75: a minute tick advances the clock, restarts the minute timer, has the events evaluated, and then starts
a sweep with none in flight, becomes pending with one in flight, and is lost with one already pending. A sweep that starts counts
its minute in M, in D of the SHOWING event whose D is below its duration, which it records as its shown event, and in the age of
every open episode, of branches and tiers alike; at M 65,535 it is skipped. The noise minute closes: with a count of 0 the noise
condition ends and its record is cleared. The line-up, the power, the branches' inputs and the settings stay. (That the minute
has passed at the tick is the model's choice, log 1; that the noise minute closes last, log 19.) -/
def Obligations.MinuteTickCountsTheMinute : Prop :=
  ∀ s : State, TablesSound s →
    let clock := if s.billing.clock < 4294967295 then s.billing.clock + 1 else 0
    let u := evaluateEvents arbitrate clock
      { passTime (s.billing.minuteTimer - s.now) s with
        billing := { s.billing with
          clock := clock, minuteTimer := max s.now s.billing.minuteTimer + 60000 } }
    ∃ t, exec .minuteTick s = .next t ∧
      t.billing.clock = clock ∧
      t.billing.minuteTimer = max s.now s.billing.minuteTimer + 60000 ∧
      t.engine = { u.engine with
        noiseCount := 0
        noiseActive := s.engine.noiseActive && decide (s.engine.noiseCount ≠ 0) } ∧
      (AlarmsSound s → s.engine.noiseActive = true → s.engine.noiseCount = 0 →
        ∀ x, t.alarm .returnNoise 0 = some x → x.state = .cleared) ∧
      t.billing.cycle = s.billing.cycle ∧ t.billing.tc = s.billing.tc ∧
      t.billing.rates = s.billing.rates ∧
      ({ t.butEvents with billing := s.billing, now := s.now, freeIdx := s.freeIdx } : State)
        = s.butEvents ∧
      (s.billing.sweep = none → s.billing.m < 65535 →
        let aged := fun (e : Episode) => if e.isOpen then { e with age := min 65535 (e.age + 1) } else e
        t.billing.m = s.billing.m + 1 ∧
        (∀ b, t.branchEpisode b = aged (s.branchEpisode b)) ∧
        (∀ k, t.tierEpisode k = aged (u.tierEpisode k)) ∧
        (∀ e, (u.event e).state = .showing → (∀ k, (u.event k).state = .showing → k = e) →
          if (u.event e).shown < (u.event e).duration.getD 0 then
            t.billing.sweep = some ⟨1, some e⟩ ∧
            t.event e = { u.event e with shown := (u.event e).shown + 1 } ∧
            ∀ k, k ≠ e → t.event k = u.event k
          else t.billing.sweep = some ⟨1, none⟩ ∧ t.events = u.events) ∧
        ((∀ k, (u.event k).state ≠ .showing) →
          t.billing.sweep = some ⟨1, none⟩ ∧ t.events = u.events)) ∧
      (s.billing.sweep = none → 65535 ≤ s.billing.m →
        t.billing.m = s.billing.m ∧ t.billing.sweep = none ∧ t.billing.halted = true ∧
        t.billing.clean = min 60 (s.billing.clean + 1) ∧ t.branchEpisodes = s.branchEpisodes ∧
        t.tierEpisodes = u.tierEpisodes ∧ t.events = u.events) ∧
      (s.billing.sweep.isSome = true →
        t.billing.sweep = s.billing.sweep ∧ t.billing.tickPending = true ∧ t.billing.m = s.billing.m ∧
        t.branchEpisodes = s.branchEpisodes ∧ t.tierEpisodes = u.tierEpisodes ∧ t.events = u.events ∧
        (s.billing.tickPending = false →
          t.billing.overrun = s.billing.overrun ∧ t.billing.clean = s.billing.clean) ∧
        (s.billing.tickPending = true → t.billing.overrun = true ∧ t.billing.clean = 0))

/-- R144 to R147: a visit accrues each tier 0–6 of a record that is not FREE by R145's table, and the same way its purchase of the
sweep's shown event while that is SHOWING, and the cursor passes on. Past record 2048, accrued alike, the sweep is no longer in
flight and is counted clean; a close that waits is then taken, and a pending tick starts the next sweep. R162: the close that
waited is answered DONE to the office, with the cycle closed, its M, its number of entries and the new cycle, behind what the
port had to send and the alarms that the completion has cleared. -/
def Obligations.SweepVisitAccruesTheRecord : Prop :=
  ∀ (s : State) (w : Sweep), s.billing.sweep = some w → TablesSound s →
    let r := s.sub w.cursor
    let u := visitRecord w.shown w.cursor s
    let clean := min 60 (s.billing.clean + 1)
    (∀ k, k ≠ w.cursor → u.sub k = s.sub k) ∧
    (r.status = .free → u.sub w.cursor = r) ∧
    (r.status ≠ .free → tabWf .cold r.counters = true →
      let be := s.episodeOf r
      let creditable := fun (te : Episode) =>
        (be.isOpen = true ∧ s.billing.tc ≤ be.age) ∨ (te.isOpen = true ∧ s.billing.tc ≤ te.age)
      let provisional := fun (te : Episode) => be.isOpen = true ∨ te.isOpen = true
      { u.sub w.cursor with counters := [], purchases := [] } = { r with counters := [], purchases := [] } ∧
      (∀ k, k < 7 →
        let c := r.count k
        let now := (u.sub w.cursor).count k
        let te := s.tierEpisode k
        ((hasTier r.w k && hasTier r.c k) = false → now = { c with p := 0 }) ∧
        ((hasTier r.w k && hasTier r.c k) = true →
          (creditable te → now = ⟨c.s + 1, c.k + (c.p + 1), 0⟩) ∧
          (¬ creditable te → provisional te → now = ⟨c.s + 1, c.k, min 240 (c.p + 1)⟩) ∧
          (¬ provisional te → now = ⟨c.s + 1, c.k, 0⟩))) ∧
      (u.sub w.cursor).purchases.length = r.purchases.length ∧
      ∀ e ∈ r.purchases.zip (u.sub w.cursor).purchases,
        let p := e.1
        let te := s.tierEpisode 7
        let shown := w.shown = some p.event ∧ (s.event p.event).state = .showing
        (¬ shown → e.2 = p) ∧
        (shown → hasTier r.c 7 = false → e.2 = { p with pev := 0 }) ∧
        (shown → hasTier r.c 7 = true →
          (creditable te → e.2 = { p with v := p.v + 1, kev := p.kev + (p.pev + 1), pev := 0 }) ∧
          (¬ creditable te → provisional te →
            e.2 = { p with v := p.v + 1, pev := min 240 (p.pev + 1) }) ∧
          (¬ provisional te → e.2 = { p with v := p.v + 1, pev := 0 }))) ∧
    ({ u with subs := [] } : State) = { s with subs := [] } ∧
    (w.cursor < 2048 → exec .sweepVisit s = .next { u with
      billing := { s.billing with sweep := some { w with cursor := w.cursor + 1 } } }) ∧
    (2048 ≤ w.cursor →
      ∃ t, exec .sweepVisit s = .next t ∧
        ({ t.butEvents with billing := s.billing, snapshot := s.snapshot } : State) = s.butEvents ∧
        (s.billing.closeWaiting = false → t.subs = u.subs ∧ t.snapshot = s.snapshot) ∧
        (s.billing.closeWaiting = false → s.billing.tickPending = false →
          t.billing = { s.billing with
            sweep := none, clean := clean, overrun := s.billing.overrun && decide (clean < 60) }) ∧
        (s.billing.closeWaiting = false → s.billing.tickPending = true → s.billing.m < 65535 →
          (∃ e, t.billing.sweep = some ⟨1, e⟩) ∧ t.billing.tickPending = false ∧
          t.billing.m = s.billing.m + 1) ∧
        (s.billing.closeWaiting = true →
          t.billing.closeWaiting = false ∧ t.billing.cycle = cycleAfter s.billing.cycle ∧
          t.billing.m = (if s.billing.tickPending then 1 else 0) ∧
          (t.port .office).inProgress = none ∧ t.snapshot = some u.takeSnapshot ∧
          t.subs = (resetCycle u).subs ∧
          ∀ m, (s.port .office).inProgress = some m →
            let q := s.port .office
            ∃ (cleared : List Msg) (flag : Bool),
              (t.port .office).outQ = q.outQ ++ cleared ++ [answerMsg m flag (answerDone
                (u16 s.billing.cycle ++ u16 s.billing.m ++ u16 u.takeSnapshot.entries.length
                  ++ u16 (cycleAfter s.billing.cycle)))] ∧
              (∀ x ∈ cleared, x.kind = 161 ∧ x.tag = 0) ∧ (q.missed = true → flag = true) ∧
              (flag = true → q.missed = true ∨ 15 ≤ q.outQ.length + cleared.length) ∧
              (t.port .office).missed = false))

/-- R132, R135, R136, R173: a raised posting with its gate open makes a record where none stands, reopens a CLEARED one in its place and leaves
an ACTIVE one; with 128 records the oldest CLEARED one makes room, and without one the list becomes incomplete. An ended posting
clears an ACTIVE record, which leaves the list where its audience has acknowledged it. A record that is made, reopened or cleared
is told to each member of its audience, by its raised, reopened or cleared notice, and to no other. A decision of the branches leaves no
ACTIVE TAP_UNREACHABLE for a tap on a branch that becomes affected, and no ACTIVE BRANCH_OUT or STATION_SILENT for one that
becomes shadowed; for a branch that ceases to be, each such condition that holds is recorded ACTIVE, or the list is
incomplete. -/
def Obligations.AlarmsAreRaisedAndEnded : Prop :=
  ∀ (s : State) (k : AlarmKind) (o : Nat),
    let l := s.alarms.records
    let told := fun (t : State) (kind : Byte) (serial state recurrence : Nat) (members : MasterSet) =>
      ∀ p, t.port p = if members.has p then
          (putNotice p kind (u16 serial ++ u8 k.code ++ u16 o ++ u8 k.severity.code ++ u8 state
            ++ u32 s.billing.clock ++ u8 recurrence) s).port p
        else s.port p
    (s.gateOpen k o = false → raiseAlarm k o s = s) ∧
    (∀ r, s.alarm k o = some r → r.state = .active → raiseAlarm k o s = s) ∧
    (s.gateOpen k o = true → s.alarm k o = none → l.length < 128 →
      ∃ r, (raiseAlarm k o s).alarms.records = l ++ [r] ∧ r.kind = k ∧ r.object = o ∧
        r.state = .active ∧ r.raised = s.billing.clock ∧ r.cleared = none ∧ r.recurrence = 0 ∧
        r.acked = noMasters ∧ (∀ p, r.audience.has p = (s.alarms.filter p).has k.cls) ∧
        told (raiseAlarm k o s) 160 r.serial 0 0 r.audience) ∧
    (s.gateOpen k o = true → s.alarm k o = none → 128 ≤ l.length →
      ((∀ r ∈ l, r.state = .active) →
        raiseAlarm k o s = { s with alarms := { s.alarms with incomplete := true } }) ∧
      ∀ a x b, l = a ++ x :: b → x.state = .cleared → (∀ r ∈ a, r.state = .active) →
        ∃ r, (raiseAlarm k o s).alarms.records = a ++ b ++ [r] ∧ r.kind = k ∧ r.object = o ∧
          r.state = .active ∧ told (raiseAlarm k o s) 160 r.serial 0 0 r.audience) ∧
    (∀ a x b, l = a ++ x :: b → x.kind = k → x.object = o →
      (∀ r ∈ a, ¬ (r.kind = k ∧ r.object = o)) →
      (s.gateOpen k o = true → x.state = .cleared →
        (raiseAlarm k o s).alarms.records = a ++ { x with
          state := .active, raised := s.billing.clock, cleared := none, acked := noMasters
          recurrence := min 255 (x.recurrence + 1) } :: b ∧
        told (raiseAlarm k o s) 162 x.serial 0 (min 255 (x.recurrence + 1)) x.audience) ∧
      (x.state = .active →
        (endAlarm k o s).alarms.records =
          (if x.acked = x.audience then a ++ b
          else a ++ { x with state := .cleared, cleared := some s.billing.clock } :: b) ∧
        told (endAlarm k o s) 161 x.serial 1 x.recurrence x.audience)) ∧
    (s.alarm k o = none → endAlarm k o s = s) ∧
    (raiseAlarm k o s).butAlarms = s.butAlarms ∧ (endAlarm k o s).butAlarms = s.butAlarms ∧
    (TablesSound s → AlarmsSound s → ∀ n,
      let t := decideBranches s
      let recorded := fun k o => (∃ x, t.alarm k o = some x ∧ x.state = .active) ∨
        t.alarms.incomplete = true
      let cleared := fun k o => ∀ x, t.alarm k o = some x → x.state = .cleared
      ((s.branch n).affected = false → (t.branch n).affected = true →
        ∀ a, (s.tap a).branch = some n → cleared .tapUnreachable a) ∧
      ((s.branch n).affected = true → (t.branch n).affected = false →
        ∀ a, (s.tap a).installed = true → (s.tap a).branch = some n → (s.tap a).reach = .unreachable →
          recorded .tapUnreachable a) ∧
      ((s.branch n).shadowed = false → (t.branch n).shadowed = true →
        cleared .branchOut n ∧ cleared .stationSilent n) ∧
      ((s.branch n).shadowed = true → (t.branch n).shadowed = false →
        ((t.branch n).out = true → recorded .branchOut n) ∧
        ((s.watch n).state = .silent → recorded .stationSilent n)) ∧
      t.butBranches = s.butBranches)


/-! ### Invariants that every step keeps -/

/-- R81, R78, R111, R161, R69, R110, R112, R170, R172: the order of the arbiter stays an arrangement of the four requesters, the
settings stay in their ranges, the slot-select output stays at the slot of the conversion in progress and is not driven without
one, and no port ever holds more than 4 requests waiting or 16 messages to send. -/
def Obligations.SettingsAndPortsStaySound : Prop :=
  (∀ s t : State, ArbiterSound s → step s = .next t → ArbiterSound t) ∧
  (∀ s t : State, SettingsSound s → step s = .next t → SettingsSound t) ∧
  ∀ s t : State, PortsSound s → step s = .next t → PortsSound t

/-- R82: whenever the engine is IDLE with the carrier ON, no requester is ready: a requester that becomes ready while the engine
is free is granted at once, and a transaction that completes hands the engine on at once. -/
def Obligations.ArbiterIsWorkConserving : Prop :=
  ∀ s t : State, ArbiterSound s → ArbiterRests s → step s = .next t → ArbiterRests t

/-- Every table stays in its canonical form, so that equal tables are equal data (the form is the model's choice, log 26). -/
def Obligations.TablesStaySound : Prop :=
  ∀ s t : State, TablesSound s → step s = .next t → TablesSound t

/-- R1, R25, R15, R6, R22, R24, R126: every slot record stays in its ranges, an OFF slot has no level, no ramp and no aim, an ON and
STEADY slot stands at its aim level with an aim of FULL or FLOOR, and a step timer runs exactly while a slot is RAMPING; owed, source-lost, shed, aim and the impaired count of each tier are at every moment
what the settings, the sources, the power mode and the events give. -/
def Obligations.SlotsStaySoundAndDecided : Prop :=
  (∀ s t : State, TablesSound s → SlotsSound s → step s = .next t → SlotsSound t) ∧
  (∀ s t : State, TablesSound s → DecidedSound s → step s = .next t → DecidedSound t) ∧
  ∀ s t : State, TablesSound s → SlotsSound s → DecidedSound s → TierCountsSound s → step s = .next t →
    TierCountsSound t

/-- R130, R133, R129, R132: the alarm list never holds more than 128 records, two of one kind and object or two of one serial, none
is acknowledged outside its audience, and a record has a cleared minute exactly while it is CLEARED. Every owner posts each change
of its conditions: a condition of the table of R129 that is true, its gate open, has an ACTIVE record, or found no room and the
list is incomplete, and no other condition has an ACTIVE one. -/
def Obligations.AlarmsStaySound : Prop :=
  (∀ s t : State, AlarmsSound s → step s = .next t → AlarmsSound t) ∧
  ∀ s t : State, TablesSound s → EngineSound s → SyncSound s → WatchesSound s → AlarmsSound s →
    ConditionsSound s → step s = .next t → ConditionsSound t

/-- R47, R50, R63 to R66, R73, R77: the sync set holds exactly the QUEUED taps, once each; the engine holds a transaction exactly
while it is not IDLE and a window exactly while it is AWAITING, and its attempts stay within their limit. R48, R56: an installed
tap that is IN_STEP is never out of step by what it reports, nor a MISMATCH one by what was last sent to it: each change of a
record, of the revision and of the SHOWING event (its start, its end and its cancellation) is followed by the entry tests. -/
def Obligations.EngineAndSyncStaySound : Prop :=
  (∀ s t : State, TablesSound s → EngineSound s → SyncSound s → step s = .next t →
    EngineSound t ∧ SyncSound t) ∧
  ∀ s t : State, TablesSound s → PurchasesSound s → StepsSound s → step s = .next t → StepsSound t

/-- R122, R125, R126, R127: every branch is OUT, affected and shadowed exactly as its inputs and its ancestors give, and counts its
installed and unreachable taps; a watch record is UNWATCHED exactly while its branch has no station, and the branch counts as
silent, and its supply as failed, exactly as the watch says (R95, R97, R100, R102); a branch's episode is open exactly while the branch is affected, and a tier's exactly while the
count of its impaired slots is not 0. -/
def Obligations.BranchesStaySound : Prop :=
  (∀ s t : State, TablesSound s → EngineSound s → SyncSound s → BranchesSound s → BranchCountsSound s →
    step s = .next t → BranchesSound t ∧ BranchCountsSound t) ∧
  (∀ s t : State, TablesSound s → EpisodesSound s → step s = .next t → EpisodesSound t) ∧
  ∀ s t : State, TablesSound s → WatchesSound s → step s = .next t → WatchesSound t

/-- R145: for every record and tier K + P ≤ S ≤ M ≤ 65,535 and P ≤ 240. -/
def Obligations.CountersStaySound : Prop :=
  ∀ s t : State, TablesSound s → CountersSound s → step s = .next t → CountersSound t

/-- R37, R46: no two ACTIVE records ever name the same port of the same tap, and every tap an ACTIVE record names stays
installed. -/
def Obligations.ClaimsStaySound : Prop :=
  ∀ s t : State, TablesSound s → ClaimsSound s → step s = .next t → ClaimsSound t

/-- R146, R150, R151, R152, R155: the SCHEDULED and SHOWING events never overlap, a SCHEDULED one has not yet begun, and a SHOWING
one has begun and not yet ended; so at most one event is SHOWING. A purchase list holds at most 4 entries, none naming an event
twice, in order of start minute, an entry is OPEN exactly while its event is SCHEDULED or SHOWING, each event's buyer count is
the number of entries that name it, and for every entry Kev + Pev ≤ V ≤ D. -/
def Obligations.EventsStaySound : Prop :=
  (∀ s t : State, TablesSound s → EventsSound s → step s = .next t → EventsSound t) ∧
  ∀ s t : State, TablesSound s → EventsSound s → PurchasesSound s → step s = .next t →
    PurchasesSound t

/-- The state right after reset meets every invariant. -/
def Obligations.ResetMeetsEveryInvariant : Prop :=
  ArbiterSound State.reset ∧ ArbiterRests State.reset ∧ SettingsSound State.reset ∧ PortsSound State.reset ∧ TablesSound State.reset ∧
  SlotsSound State.reset ∧ DecidedSound State.reset ∧ TierCountsSound State.reset ∧
  AlarmsSound State.reset ∧ ConditionsSound State.reset ∧ EngineSound State.reset ∧
  SyncSound State.reset ∧ StepsSound State.reset ∧ WatchesSound State.reset ∧
  BranchesSound State.reset ∧ BranchCountsSound State.reset ∧ EpisodesSound State.reset ∧
  CountersSound State.reset ∧ ClaimsSound State.reset ∧ EventsSound State.reset ∧
  PurchasesSound State.reset

end
end

