-- ==== Sys2Proof/Laws/State.lean ====
section
/-! SUPPORT. One lemma for each field of the state and each operation that writes one field: what the field reads
after the write. Every other proof cites these and unfolds no record update. -/

namespace Sys2Proof.Machine

variable (s : State)


/-! ### `setSource` -/

@[simp] theorem setSource_pending (n : Nat) (v : Source) : (s.setSource n v).pending = s.pending := rfl
@[simp] theorem setSource_now (n : Nat) (v : Source) : (s.setSource n v).now = s.now := rfl
@[simp] theorem setSource_freeIdx (n : Nat) (v : Source) : (s.setSource n v).freeIdx = s.freeIdx := rfl
@[simp] theorem setSource_ports (n : Nat) (v : Source) : (s.setSource n v).ports = s.ports := rfl
@[simp] theorem setSource_sources (n : Nat) (v : Source) : (s.setSource n v).sources = tabPut .cold s.sources n v := rfl
@[simp] theorem setSource_slots (n : Nat) (v : Source) : (s.setSource n v).slots = s.slots := rfl
@[simp] theorem setSource_revision (n : Nat) (v : Source) : (s.setSource n v).revision = s.revision := rfl
@[simp] theorem setSource_power (n : Nat) (v : Source) : (s.setSource n v).power = s.power := rfl
@[simp] theorem setSource_subs (n : Nat) (v : Source) : (s.setSource n v).subs = s.subs := rfl
@[simp] theorem setSource_taps (n : Nat) (v : Source) : (s.setSource n v).taps = s.taps := rfl
@[simp] theorem setSource_syncSet (n : Nat) (v : Source) : (s.setSource n v).syncSet = s.syncSet := rfl
@[simp] theorem setSource_engine (n : Nat) (v : Source) : (s.setSource n v).engine = s.engine := rfl
@[simp] theorem setSource_link (n : Nat) (v : Source) : (s.setSource n v).link = s.link := rfl
@[simp] theorem setSource_broadcast (n : Nat) (v : Source) : (s.setSource n v).broadcast = s.broadcast := rfl
@[simp] theorem setSource_arbiter (n : Nat) (v : Source) : (s.setSource n v).arbiter = s.arbiter := rfl
@[simp] theorem setSource_techQ (n : Nat) (v : Source) : (s.setSource n v).techQ = s.techQ := rfl
@[simp] theorem setSource_watches (n : Nat) (v : Source) : (s.setSource n v).watches = s.watches := rfl
@[simp] theorem setSource_survey (n : Nat) (v : Source) : (s.setSource n v).survey = s.survey := rfl
@[simp] theorem setSource_monitor (n : Nat) (v : Source) : (s.setSource n v).monitor = s.monitor := rfl
@[simp] theorem setSource_branches (n : Nat) (v : Source) : (s.setSource n v).branches = s.branches := rfl
@[simp] theorem setSource_tierCount (n : Nat) (v : Source) : (s.setSource n v).tierCount = s.tierCount := rfl
@[simp] theorem setSource_branchEpisodes (n : Nat) (v : Source) : (s.setSource n v).branchEpisodes = s.branchEpisodes := rfl
@[simp] theorem setSource_tierEpisodes (n : Nat) (v : Source) : (s.setSource n v).tierEpisodes = s.tierEpisodes := rfl
@[simp] theorem setSource_alarms (n : Nat) (v : Source) : (s.setSource n v).alarms = s.alarms := rfl
@[simp] theorem setSource_billing (n : Nat) (v : Source) : (s.setSource n v).billing = s.billing := rfl
@[simp] theorem setSource_events (n : Nat) (v : Source) : (s.setSource n v).events = s.events := rfl
@[simp] theorem setSource_snapshot (n : Nat) (v : Source) : (s.setSource n v).snapshot = s.snapshot := rfl
@[simp] theorem setSource_ident (n : Nat) (v : Source) : (s.setSource n v).ident = s.ident := rfl
@[simp] theorem setSource_out (n : Nat) (v : Source) : (s.setSource n v).out = s.out := rfl
@[simp] theorem setSource_get_slot (n : Nat) (v : Source) (k : Nat) : (s.setSource n v).slot k = s.slot k := rfl
@[simp] theorem setSource_get_sub (n : Nat) (v : Source) (k : Nat) : (s.setSource n v).sub k = s.sub k := rfl
@[simp] theorem setSource_get_tap (n : Nat) (v : Source) (k : Nat) : (s.setSource n v).tap k = s.tap k := rfl
@[simp] theorem setSource_get_watch (n : Nat) (v : Source) (k : Nat) : (s.setSource n v).watch k = s.watch k := rfl
@[simp] theorem setSource_get_branch (n : Nat) (v : Source) (k : Nat) : (s.setSource n v).branch k = s.branch k := rfl
@[simp] theorem setSource_get_event (n : Nat) (v : Source) (k : Nat) : (s.setSource n v).event k = s.event k := rfl
@[simp] theorem setSource_get_branchEpisode (n : Nat) (v : Source) (k : Nat) : (s.setSource n v).branchEpisode k = s.branchEpisode k := rfl
@[simp] theorem setSource_get_tierEpisode (n : Nat) (v : Source) (k : Nat) : (s.setSource n v).tierEpisode k = s.tierEpisode k := rfl
@[simp] theorem setSource_port (n : Nat) (v : Source) (p : Master) : (s.setSource n v).port p = s.port p := by
  cases p <;> rfl

/-! ### `setSlot` -/

@[simp] theorem setSlot_pending (n : Nat) (v : Slot) : (s.setSlot n v).pending = s.pending := rfl
@[simp] theorem setSlot_now (n : Nat) (v : Slot) : (s.setSlot n v).now = s.now := rfl
@[simp] theorem setSlot_freeIdx (n : Nat) (v : Slot) : (s.setSlot n v).freeIdx = s.freeIdx := rfl
@[simp] theorem setSlot_ports (n : Nat) (v : Slot) : (s.setSlot n v).ports = s.ports := rfl
@[simp] theorem setSlot_sources (n : Nat) (v : Slot) : (s.setSlot n v).sources = s.sources := rfl
@[simp] theorem setSlot_slots (n : Nat) (v : Slot) : (s.setSlot n v).slots = tabPut .cold s.slots n v := rfl
@[simp] theorem setSlot_revision (n : Nat) (v : Slot) : (s.setSlot n v).revision = s.revision := rfl
@[simp] theorem setSlot_power (n : Nat) (v : Slot) : (s.setSlot n v).power = s.power := rfl
@[simp] theorem setSlot_subs (n : Nat) (v : Slot) : (s.setSlot n v).subs = s.subs := rfl
@[simp] theorem setSlot_taps (n : Nat) (v : Slot) : (s.setSlot n v).taps = s.taps := rfl
@[simp] theorem setSlot_syncSet (n : Nat) (v : Slot) : (s.setSlot n v).syncSet = s.syncSet := rfl
@[simp] theorem setSlot_engine (n : Nat) (v : Slot) : (s.setSlot n v).engine = s.engine := rfl
@[simp] theorem setSlot_link (n : Nat) (v : Slot) : (s.setSlot n v).link = s.link := rfl
@[simp] theorem setSlot_broadcast (n : Nat) (v : Slot) : (s.setSlot n v).broadcast = s.broadcast := rfl
@[simp] theorem setSlot_arbiter (n : Nat) (v : Slot) : (s.setSlot n v).arbiter = s.arbiter := rfl
@[simp] theorem setSlot_techQ (n : Nat) (v : Slot) : (s.setSlot n v).techQ = s.techQ := rfl
@[simp] theorem setSlot_watches (n : Nat) (v : Slot) : (s.setSlot n v).watches = s.watches := rfl
@[simp] theorem setSlot_survey (n : Nat) (v : Slot) : (s.setSlot n v).survey = s.survey := rfl
@[simp] theorem setSlot_monitor (n : Nat) (v : Slot) : (s.setSlot n v).monitor = s.monitor := rfl
@[simp] theorem setSlot_branches (n : Nat) (v : Slot) : (s.setSlot n v).branches = s.branches := rfl
@[simp] theorem setSlot_tierCount (n : Nat) (v : Slot) : (s.setSlot n v).tierCount = s.tierCount := rfl
@[simp] theorem setSlot_branchEpisodes (n : Nat) (v : Slot) : (s.setSlot n v).branchEpisodes = s.branchEpisodes := rfl
@[simp] theorem setSlot_tierEpisodes (n : Nat) (v : Slot) : (s.setSlot n v).tierEpisodes = s.tierEpisodes := rfl
@[simp] theorem setSlot_alarms (n : Nat) (v : Slot) : (s.setSlot n v).alarms = s.alarms := rfl
@[simp] theorem setSlot_billing (n : Nat) (v : Slot) : (s.setSlot n v).billing = s.billing := rfl
@[simp] theorem setSlot_events (n : Nat) (v : Slot) : (s.setSlot n v).events = s.events := rfl
@[simp] theorem setSlot_snapshot (n : Nat) (v : Slot) : (s.setSlot n v).snapshot = s.snapshot := rfl
@[simp] theorem setSlot_ident (n : Nat) (v : Slot) : (s.setSlot n v).ident = s.ident := rfl
@[simp] theorem setSlot_out (n : Nat) (v : Slot) : (s.setSlot n v).out = s.out := rfl
@[simp] theorem setSlot_get_source (n : Nat) (v : Slot) (k : Nat) : (s.setSlot n v).source k = s.source k := rfl
@[simp] theorem setSlot_get_sub (n : Nat) (v : Slot) (k : Nat) : (s.setSlot n v).sub k = s.sub k := rfl
@[simp] theorem setSlot_get_tap (n : Nat) (v : Slot) (k : Nat) : (s.setSlot n v).tap k = s.tap k := rfl
@[simp] theorem setSlot_get_watch (n : Nat) (v : Slot) (k : Nat) : (s.setSlot n v).watch k = s.watch k := rfl
@[simp] theorem setSlot_get_branch (n : Nat) (v : Slot) (k : Nat) : (s.setSlot n v).branch k = s.branch k := rfl
@[simp] theorem setSlot_get_event (n : Nat) (v : Slot) (k : Nat) : (s.setSlot n v).event k = s.event k := rfl
@[simp] theorem setSlot_get_branchEpisode (n : Nat) (v : Slot) (k : Nat) : (s.setSlot n v).branchEpisode k = s.branchEpisode k := rfl
@[simp] theorem setSlot_get_tierEpisode (n : Nat) (v : Slot) (k : Nat) : (s.setSlot n v).tierEpisode k = s.tierEpisode k := rfl
@[simp] theorem setSlot_port (n : Nat) (v : Slot) (p : Master) : (s.setSlot n v).port p = s.port p := by
  cases p <;> rfl

/-! ### `setSub` -/

@[simp] theorem setSub_pending (n : Nat) (v : Subscriber) : (s.setSub n v).pending = s.pending := rfl
@[simp] theorem setSub_now (n : Nat) (v : Subscriber) : (s.setSub n v).now = s.now := rfl
@[simp] theorem setSub_freeIdx (n : Nat) (v : Subscriber) : (s.setSub n v).freeIdx = s.freeIdx := rfl
@[simp] theorem setSub_ports (n : Nat) (v : Subscriber) : (s.setSub n v).ports = s.ports := rfl
@[simp] theorem setSub_sources (n : Nat) (v : Subscriber) : (s.setSub n v).sources = s.sources := rfl
@[simp] theorem setSub_slots (n : Nat) (v : Subscriber) : (s.setSub n v).slots = s.slots := rfl
@[simp] theorem setSub_revision (n : Nat) (v : Subscriber) : (s.setSub n v).revision = s.revision := rfl
@[simp] theorem setSub_power (n : Nat) (v : Subscriber) : (s.setSub n v).power = s.power := rfl
@[simp] theorem setSub_subs (n : Nat) (v : Subscriber) : (s.setSub n v).subs = tabPut .cold s.subs n v := rfl
@[simp] theorem setSub_taps (n : Nat) (v : Subscriber) : (s.setSub n v).taps = s.taps := rfl
@[simp] theorem setSub_syncSet (n : Nat) (v : Subscriber) : (s.setSub n v).syncSet = s.syncSet := rfl
@[simp] theorem setSub_engine (n : Nat) (v : Subscriber) : (s.setSub n v).engine = s.engine := rfl
@[simp] theorem setSub_link (n : Nat) (v : Subscriber) : (s.setSub n v).link = s.link := rfl
@[simp] theorem setSub_broadcast (n : Nat) (v : Subscriber) : (s.setSub n v).broadcast = s.broadcast := rfl
@[simp] theorem setSub_arbiter (n : Nat) (v : Subscriber) : (s.setSub n v).arbiter = s.arbiter := rfl
@[simp] theorem setSub_techQ (n : Nat) (v : Subscriber) : (s.setSub n v).techQ = s.techQ := rfl
@[simp] theorem setSub_watches (n : Nat) (v : Subscriber) : (s.setSub n v).watches = s.watches := rfl
@[simp] theorem setSub_survey (n : Nat) (v : Subscriber) : (s.setSub n v).survey = s.survey := rfl
@[simp] theorem setSub_monitor (n : Nat) (v : Subscriber) : (s.setSub n v).monitor = s.monitor := rfl
@[simp] theorem setSub_branches (n : Nat) (v : Subscriber) : (s.setSub n v).branches = s.branches := rfl
@[simp] theorem setSub_tierCount (n : Nat) (v : Subscriber) : (s.setSub n v).tierCount = s.tierCount := rfl
@[simp] theorem setSub_branchEpisodes (n : Nat) (v : Subscriber) : (s.setSub n v).branchEpisodes = s.branchEpisodes := rfl
@[simp] theorem setSub_tierEpisodes (n : Nat) (v : Subscriber) : (s.setSub n v).tierEpisodes = s.tierEpisodes := rfl
@[simp] theorem setSub_alarms (n : Nat) (v : Subscriber) : (s.setSub n v).alarms = s.alarms := rfl
@[simp] theorem setSub_billing (n : Nat) (v : Subscriber) : (s.setSub n v).billing = s.billing := rfl
@[simp] theorem setSub_events (n : Nat) (v : Subscriber) : (s.setSub n v).events = s.events := rfl
@[simp] theorem setSub_snapshot (n : Nat) (v : Subscriber) : (s.setSub n v).snapshot = s.snapshot := rfl
@[simp] theorem setSub_ident (n : Nat) (v : Subscriber) : (s.setSub n v).ident = s.ident := rfl
@[simp] theorem setSub_out (n : Nat) (v : Subscriber) : (s.setSub n v).out = s.out := rfl
@[simp] theorem setSub_get_source (n : Nat) (v : Subscriber) (k : Nat) : (s.setSub n v).source k = s.source k := rfl
@[simp] theorem setSub_get_slot (n : Nat) (v : Subscriber) (k : Nat) : (s.setSub n v).slot k = s.slot k := rfl
@[simp] theorem setSub_get_tap (n : Nat) (v : Subscriber) (k : Nat) : (s.setSub n v).tap k = s.tap k := rfl
@[simp] theorem setSub_get_watch (n : Nat) (v : Subscriber) (k : Nat) : (s.setSub n v).watch k = s.watch k := rfl
@[simp] theorem setSub_get_branch (n : Nat) (v : Subscriber) (k : Nat) : (s.setSub n v).branch k = s.branch k := rfl
@[simp] theorem setSub_get_event (n : Nat) (v : Subscriber) (k : Nat) : (s.setSub n v).event k = s.event k := rfl
@[simp] theorem setSub_get_branchEpisode (n : Nat) (v : Subscriber) (k : Nat) : (s.setSub n v).branchEpisode k = s.branchEpisode k := rfl
@[simp] theorem setSub_get_tierEpisode (n : Nat) (v : Subscriber) (k : Nat) : (s.setSub n v).tierEpisode k = s.tierEpisode k := rfl
@[simp] theorem setSub_port (n : Nat) (v : Subscriber) (p : Master) : (s.setSub n v).port p = s.port p := by
  cases p <;> rfl

/-! ### `setTap` -/

@[simp] theorem setTap_pending (n : Nat) (v : Tap) : (s.setTap n v).pending = s.pending := rfl
@[simp] theorem setTap_now (n : Nat) (v : Tap) : (s.setTap n v).now = s.now := rfl
@[simp] theorem setTap_freeIdx (n : Nat) (v : Tap) : (s.setTap n v).freeIdx = s.freeIdx := rfl
@[simp] theorem setTap_ports (n : Nat) (v : Tap) : (s.setTap n v).ports = s.ports := rfl
@[simp] theorem setTap_sources (n : Nat) (v : Tap) : (s.setTap n v).sources = s.sources := rfl
@[simp] theorem setTap_slots (n : Nat) (v : Tap) : (s.setTap n v).slots = s.slots := rfl
@[simp] theorem setTap_revision (n : Nat) (v : Tap) : (s.setTap n v).revision = s.revision := rfl
@[simp] theorem setTap_power (n : Nat) (v : Tap) : (s.setTap n v).power = s.power := rfl
@[simp] theorem setTap_subs (n : Nat) (v : Tap) : (s.setTap n v).subs = s.subs := rfl
@[simp] theorem setTap_taps (n : Nat) (v : Tap) : (s.setTap n v).taps = tabPut .cold s.taps n v := rfl
@[simp] theorem setTap_syncSet (n : Nat) (v : Tap) : (s.setTap n v).syncSet = s.syncSet := rfl
@[simp] theorem setTap_engine (n : Nat) (v : Tap) : (s.setTap n v).engine = s.engine := rfl
@[simp] theorem setTap_link (n : Nat) (v : Tap) : (s.setTap n v).link = s.link := rfl
@[simp] theorem setTap_broadcast (n : Nat) (v : Tap) : (s.setTap n v).broadcast = s.broadcast := rfl
@[simp] theorem setTap_arbiter (n : Nat) (v : Tap) : (s.setTap n v).arbiter = s.arbiter := rfl
@[simp] theorem setTap_techQ (n : Nat) (v : Tap) : (s.setTap n v).techQ = s.techQ := rfl
@[simp] theorem setTap_watches (n : Nat) (v : Tap) : (s.setTap n v).watches = s.watches := rfl
@[simp] theorem setTap_survey (n : Nat) (v : Tap) : (s.setTap n v).survey = s.survey := rfl
@[simp] theorem setTap_monitor (n : Nat) (v : Tap) : (s.setTap n v).monitor = s.monitor := rfl
@[simp] theorem setTap_branches (n : Nat) (v : Tap) : (s.setTap n v).branches = s.branches := rfl
@[simp] theorem setTap_tierCount (n : Nat) (v : Tap) : (s.setTap n v).tierCount = s.tierCount := rfl
@[simp] theorem setTap_branchEpisodes (n : Nat) (v : Tap) : (s.setTap n v).branchEpisodes = s.branchEpisodes := rfl
@[simp] theorem setTap_tierEpisodes (n : Nat) (v : Tap) : (s.setTap n v).tierEpisodes = s.tierEpisodes := rfl
@[simp] theorem setTap_alarms (n : Nat) (v : Tap) : (s.setTap n v).alarms = s.alarms := rfl
@[simp] theorem setTap_billing (n : Nat) (v : Tap) : (s.setTap n v).billing = s.billing := rfl
@[simp] theorem setTap_events (n : Nat) (v : Tap) : (s.setTap n v).events = s.events := rfl
@[simp] theorem setTap_snapshot (n : Nat) (v : Tap) : (s.setTap n v).snapshot = s.snapshot := rfl
@[simp] theorem setTap_ident (n : Nat) (v : Tap) : (s.setTap n v).ident = s.ident := rfl
@[simp] theorem setTap_out (n : Nat) (v : Tap) : (s.setTap n v).out = s.out := rfl
@[simp] theorem setTap_get_source (n : Nat) (v : Tap) (k : Nat) : (s.setTap n v).source k = s.source k := rfl
@[simp] theorem setTap_get_slot (n : Nat) (v : Tap) (k : Nat) : (s.setTap n v).slot k = s.slot k := rfl
@[simp] theorem setTap_get_sub (n : Nat) (v : Tap) (k : Nat) : (s.setTap n v).sub k = s.sub k := rfl
@[simp] theorem setTap_get_watch (n : Nat) (v : Tap) (k : Nat) : (s.setTap n v).watch k = s.watch k := rfl
@[simp] theorem setTap_get_branch (n : Nat) (v : Tap) (k : Nat) : (s.setTap n v).branch k = s.branch k := rfl
@[simp] theorem setTap_get_event (n : Nat) (v : Tap) (k : Nat) : (s.setTap n v).event k = s.event k := rfl
@[simp] theorem setTap_get_branchEpisode (n : Nat) (v : Tap) (k : Nat) : (s.setTap n v).branchEpisode k = s.branchEpisode k := rfl
@[simp] theorem setTap_get_tierEpisode (n : Nat) (v : Tap) (k : Nat) : (s.setTap n v).tierEpisode k = s.tierEpisode k := rfl
@[simp] theorem setTap_port (n : Nat) (v : Tap) (p : Master) : (s.setTap n v).port p = s.port p := by
  cases p <;> rfl

/-! ### `setWatch` -/

@[simp] theorem setWatch_pending (n : Nat) (v : Watch) : (s.setWatch n v).pending = s.pending := rfl
@[simp] theorem setWatch_now (n : Nat) (v : Watch) : (s.setWatch n v).now = s.now := rfl
@[simp] theorem setWatch_freeIdx (n : Nat) (v : Watch) : (s.setWatch n v).freeIdx = s.freeIdx := rfl
@[simp] theorem setWatch_ports (n : Nat) (v : Watch) : (s.setWatch n v).ports = s.ports := rfl
@[simp] theorem setWatch_sources (n : Nat) (v : Watch) : (s.setWatch n v).sources = s.sources := rfl
@[simp] theorem setWatch_slots (n : Nat) (v : Watch) : (s.setWatch n v).slots = s.slots := rfl
@[simp] theorem setWatch_revision (n : Nat) (v : Watch) : (s.setWatch n v).revision = s.revision := rfl
@[simp] theorem setWatch_power (n : Nat) (v : Watch) : (s.setWatch n v).power = s.power := rfl
@[simp] theorem setWatch_subs (n : Nat) (v : Watch) : (s.setWatch n v).subs = s.subs := rfl
@[simp] theorem setWatch_taps (n : Nat) (v : Watch) : (s.setWatch n v).taps = s.taps := rfl
@[simp] theorem setWatch_syncSet (n : Nat) (v : Watch) : (s.setWatch n v).syncSet = s.syncSet := rfl
@[simp] theorem setWatch_engine (n : Nat) (v : Watch) : (s.setWatch n v).engine = s.engine := rfl
@[simp] theorem setWatch_link (n : Nat) (v : Watch) : (s.setWatch n v).link = s.link := rfl
@[simp] theorem setWatch_broadcast (n : Nat) (v : Watch) : (s.setWatch n v).broadcast = s.broadcast := rfl
@[simp] theorem setWatch_arbiter (n : Nat) (v : Watch) : (s.setWatch n v).arbiter = s.arbiter := rfl
@[simp] theorem setWatch_techQ (n : Nat) (v : Watch) : (s.setWatch n v).techQ = s.techQ := rfl
@[simp] theorem setWatch_watches (n : Nat) (v : Watch) : (s.setWatch n v).watches = tabPut .cold s.watches n v := rfl
@[simp] theorem setWatch_survey (n : Nat) (v : Watch) : (s.setWatch n v).survey = s.survey := rfl
@[simp] theorem setWatch_monitor (n : Nat) (v : Watch) : (s.setWatch n v).monitor = s.monitor := rfl
@[simp] theorem setWatch_branches (n : Nat) (v : Watch) : (s.setWatch n v).branches = s.branches := rfl
@[simp] theorem setWatch_tierCount (n : Nat) (v : Watch) : (s.setWatch n v).tierCount = s.tierCount := rfl
@[simp] theorem setWatch_branchEpisodes (n : Nat) (v : Watch) : (s.setWatch n v).branchEpisodes = s.branchEpisodes := rfl
@[simp] theorem setWatch_tierEpisodes (n : Nat) (v : Watch) : (s.setWatch n v).tierEpisodes = s.tierEpisodes := rfl
@[simp] theorem setWatch_alarms (n : Nat) (v : Watch) : (s.setWatch n v).alarms = s.alarms := rfl
@[simp] theorem setWatch_billing (n : Nat) (v : Watch) : (s.setWatch n v).billing = s.billing := rfl
@[simp] theorem setWatch_events (n : Nat) (v : Watch) : (s.setWatch n v).events = s.events := rfl
@[simp] theorem setWatch_snapshot (n : Nat) (v : Watch) : (s.setWatch n v).snapshot = s.snapshot := rfl
@[simp] theorem setWatch_ident (n : Nat) (v : Watch) : (s.setWatch n v).ident = s.ident := rfl
@[simp] theorem setWatch_out (n : Nat) (v : Watch) : (s.setWatch n v).out = s.out := rfl
@[simp] theorem setWatch_get_source (n : Nat) (v : Watch) (k : Nat) : (s.setWatch n v).source k = s.source k := rfl
@[simp] theorem setWatch_get_slot (n : Nat) (v : Watch) (k : Nat) : (s.setWatch n v).slot k = s.slot k := rfl
@[simp] theorem setWatch_get_sub (n : Nat) (v : Watch) (k : Nat) : (s.setWatch n v).sub k = s.sub k := rfl
@[simp] theorem setWatch_get_tap (n : Nat) (v : Watch) (k : Nat) : (s.setWatch n v).tap k = s.tap k := rfl
@[simp] theorem setWatch_get_branch (n : Nat) (v : Watch) (k : Nat) : (s.setWatch n v).branch k = s.branch k := rfl
@[simp] theorem setWatch_get_event (n : Nat) (v : Watch) (k : Nat) : (s.setWatch n v).event k = s.event k := rfl
@[simp] theorem setWatch_get_branchEpisode (n : Nat) (v : Watch) (k : Nat) : (s.setWatch n v).branchEpisode k = s.branchEpisode k := rfl
@[simp] theorem setWatch_get_tierEpisode (n : Nat) (v : Watch) (k : Nat) : (s.setWatch n v).tierEpisode k = s.tierEpisode k := rfl
@[simp] theorem setWatch_port (n : Nat) (v : Watch) (p : Master) : (s.setWatch n v).port p = s.port p := by
  cases p <;> rfl

/-! ### `setBranch` -/

@[simp] theorem setBranch_pending (n : Nat) (v : Branch) : (s.setBranch n v).pending = s.pending := rfl
@[simp] theorem setBranch_now (n : Nat) (v : Branch) : (s.setBranch n v).now = s.now := rfl
@[simp] theorem setBranch_freeIdx (n : Nat) (v : Branch) : (s.setBranch n v).freeIdx = s.freeIdx := rfl
@[simp] theorem setBranch_ports (n : Nat) (v : Branch) : (s.setBranch n v).ports = s.ports := rfl
@[simp] theorem setBranch_sources (n : Nat) (v : Branch) : (s.setBranch n v).sources = s.sources := rfl
@[simp] theorem setBranch_slots (n : Nat) (v : Branch) : (s.setBranch n v).slots = s.slots := rfl
@[simp] theorem setBranch_revision (n : Nat) (v : Branch) : (s.setBranch n v).revision = s.revision := rfl
@[simp] theorem setBranch_power (n : Nat) (v : Branch) : (s.setBranch n v).power = s.power := rfl
@[simp] theorem setBranch_subs (n : Nat) (v : Branch) : (s.setBranch n v).subs = s.subs := rfl
@[simp] theorem setBranch_taps (n : Nat) (v : Branch) : (s.setBranch n v).taps = s.taps := rfl
@[simp] theorem setBranch_syncSet (n : Nat) (v : Branch) : (s.setBranch n v).syncSet = s.syncSet := rfl
@[simp] theorem setBranch_engine (n : Nat) (v : Branch) : (s.setBranch n v).engine = s.engine := rfl
@[simp] theorem setBranch_link (n : Nat) (v : Branch) : (s.setBranch n v).link = s.link := rfl
@[simp] theorem setBranch_broadcast (n : Nat) (v : Branch) : (s.setBranch n v).broadcast = s.broadcast := rfl
@[simp] theorem setBranch_arbiter (n : Nat) (v : Branch) : (s.setBranch n v).arbiter = s.arbiter := rfl
@[simp] theorem setBranch_techQ (n : Nat) (v : Branch) : (s.setBranch n v).techQ = s.techQ := rfl
@[simp] theorem setBranch_watches (n : Nat) (v : Branch) : (s.setBranch n v).watches = s.watches := rfl
@[simp] theorem setBranch_survey (n : Nat) (v : Branch) : (s.setBranch n v).survey = s.survey := rfl
@[simp] theorem setBranch_monitor (n : Nat) (v : Branch) : (s.setBranch n v).monitor = s.monitor := rfl
@[simp] theorem setBranch_branches (n : Nat) (v : Branch) : (s.setBranch n v).branches = tabPut .cold s.branches n v := rfl
@[simp] theorem setBranch_tierCount (n : Nat) (v : Branch) : (s.setBranch n v).tierCount = s.tierCount := rfl
@[simp] theorem setBranch_branchEpisodes (n : Nat) (v : Branch) : (s.setBranch n v).branchEpisodes = s.branchEpisodes := rfl
@[simp] theorem setBranch_tierEpisodes (n : Nat) (v : Branch) : (s.setBranch n v).tierEpisodes = s.tierEpisodes := rfl
@[simp] theorem setBranch_alarms (n : Nat) (v : Branch) : (s.setBranch n v).alarms = s.alarms := rfl
@[simp] theorem setBranch_billing (n : Nat) (v : Branch) : (s.setBranch n v).billing = s.billing := rfl
@[simp] theorem setBranch_events (n : Nat) (v : Branch) : (s.setBranch n v).events = s.events := rfl
@[simp] theorem setBranch_snapshot (n : Nat) (v : Branch) : (s.setBranch n v).snapshot = s.snapshot := rfl
@[simp] theorem setBranch_ident (n : Nat) (v : Branch) : (s.setBranch n v).ident = s.ident := rfl
@[simp] theorem setBranch_out (n : Nat) (v : Branch) : (s.setBranch n v).out = s.out := rfl
@[simp] theorem setBranch_get_source (n : Nat) (v : Branch) (k : Nat) : (s.setBranch n v).source k = s.source k := rfl
@[simp] theorem setBranch_get_slot (n : Nat) (v : Branch) (k : Nat) : (s.setBranch n v).slot k = s.slot k := rfl
@[simp] theorem setBranch_get_sub (n : Nat) (v : Branch) (k : Nat) : (s.setBranch n v).sub k = s.sub k := rfl
@[simp] theorem setBranch_get_tap (n : Nat) (v : Branch) (k : Nat) : (s.setBranch n v).tap k = s.tap k := rfl
@[simp] theorem setBranch_get_watch (n : Nat) (v : Branch) (k : Nat) : (s.setBranch n v).watch k = s.watch k := rfl
@[simp] theorem setBranch_get_event (n : Nat) (v : Branch) (k : Nat) : (s.setBranch n v).event k = s.event k := rfl
@[simp] theorem setBranch_get_branchEpisode (n : Nat) (v : Branch) (k : Nat) : (s.setBranch n v).branchEpisode k = s.branchEpisode k := rfl
@[simp] theorem setBranch_get_tierEpisode (n : Nat) (v : Branch) (k : Nat) : (s.setBranch n v).tierEpisode k = s.tierEpisode k := rfl
@[simp] theorem setBranch_port (n : Nat) (v : Branch) (p : Master) : (s.setBranch n v).port p = s.port p := by
  cases p <;> rfl

/-! ### `setEvent` -/

@[simp] theorem setEvent_pending (n : Nat) (v : Event) : (s.setEvent n v).pending = s.pending := rfl
@[simp] theorem setEvent_now (n : Nat) (v : Event) : (s.setEvent n v).now = s.now := rfl
@[simp] theorem setEvent_freeIdx (n : Nat) (v : Event) : (s.setEvent n v).freeIdx = s.freeIdx := rfl
@[simp] theorem setEvent_ports (n : Nat) (v : Event) : (s.setEvent n v).ports = s.ports := rfl
@[simp] theorem setEvent_sources (n : Nat) (v : Event) : (s.setEvent n v).sources = s.sources := rfl
@[simp] theorem setEvent_slots (n : Nat) (v : Event) : (s.setEvent n v).slots = s.slots := rfl
@[simp] theorem setEvent_revision (n : Nat) (v : Event) : (s.setEvent n v).revision = s.revision := rfl
@[simp] theorem setEvent_power (n : Nat) (v : Event) : (s.setEvent n v).power = s.power := rfl
@[simp] theorem setEvent_subs (n : Nat) (v : Event) : (s.setEvent n v).subs = s.subs := rfl
@[simp] theorem setEvent_taps (n : Nat) (v : Event) : (s.setEvent n v).taps = s.taps := rfl
@[simp] theorem setEvent_syncSet (n : Nat) (v : Event) : (s.setEvent n v).syncSet = s.syncSet := rfl
@[simp] theorem setEvent_engine (n : Nat) (v : Event) : (s.setEvent n v).engine = s.engine := rfl
@[simp] theorem setEvent_link (n : Nat) (v : Event) : (s.setEvent n v).link = s.link := rfl
@[simp] theorem setEvent_broadcast (n : Nat) (v : Event) : (s.setEvent n v).broadcast = s.broadcast := rfl
@[simp] theorem setEvent_arbiter (n : Nat) (v : Event) : (s.setEvent n v).arbiter = s.arbiter := rfl
@[simp] theorem setEvent_techQ (n : Nat) (v : Event) : (s.setEvent n v).techQ = s.techQ := rfl
@[simp] theorem setEvent_watches (n : Nat) (v : Event) : (s.setEvent n v).watches = s.watches := rfl
@[simp] theorem setEvent_survey (n : Nat) (v : Event) : (s.setEvent n v).survey = s.survey := rfl
@[simp] theorem setEvent_monitor (n : Nat) (v : Event) : (s.setEvent n v).monitor = s.monitor := rfl
@[simp] theorem setEvent_branches (n : Nat) (v : Event) : (s.setEvent n v).branches = s.branches := rfl
@[simp] theorem setEvent_tierCount (n : Nat) (v : Event) : (s.setEvent n v).tierCount = s.tierCount := rfl
@[simp] theorem setEvent_branchEpisodes (n : Nat) (v : Event) : (s.setEvent n v).branchEpisodes = s.branchEpisodes := rfl
@[simp] theorem setEvent_tierEpisodes (n : Nat) (v : Event) : (s.setEvent n v).tierEpisodes = s.tierEpisodes := rfl
@[simp] theorem setEvent_alarms (n : Nat) (v : Event) : (s.setEvent n v).alarms = s.alarms := rfl
@[simp] theorem setEvent_billing (n : Nat) (v : Event) : (s.setEvent n v).billing = s.billing := rfl
@[simp] theorem setEvent_events (n : Nat) (v : Event) : (s.setEvent n v).events = tabPut .cold s.events n v := rfl
@[simp] theorem setEvent_snapshot (n : Nat) (v : Event) : (s.setEvent n v).snapshot = s.snapshot := rfl
@[simp] theorem setEvent_ident (n : Nat) (v : Event) : (s.setEvent n v).ident = s.ident := rfl
@[simp] theorem setEvent_out (n : Nat) (v : Event) : (s.setEvent n v).out = s.out := rfl
@[simp] theorem setEvent_get_source (n : Nat) (v : Event) (k : Nat) : (s.setEvent n v).source k = s.source k := rfl
@[simp] theorem setEvent_get_slot (n : Nat) (v : Event) (k : Nat) : (s.setEvent n v).slot k = s.slot k := rfl
@[simp] theorem setEvent_get_sub (n : Nat) (v : Event) (k : Nat) : (s.setEvent n v).sub k = s.sub k := rfl
@[simp] theorem setEvent_get_tap (n : Nat) (v : Event) (k : Nat) : (s.setEvent n v).tap k = s.tap k := rfl
@[simp] theorem setEvent_get_watch (n : Nat) (v : Event) (k : Nat) : (s.setEvent n v).watch k = s.watch k := rfl
@[simp] theorem setEvent_get_branch (n : Nat) (v : Event) (k : Nat) : (s.setEvent n v).branch k = s.branch k := rfl
@[simp] theorem setEvent_get_branchEpisode (n : Nat) (v : Event) (k : Nat) : (s.setEvent n v).branchEpisode k = s.branchEpisode k := rfl
@[simp] theorem setEvent_get_tierEpisode (n : Nat) (v : Event) (k : Nat) : (s.setEvent n v).tierEpisode k = s.tierEpisode k := rfl
@[simp] theorem setEvent_port (n : Nat) (v : Event) (p : Master) : (s.setEvent n v).port p = s.port p := by
  cases p <;> rfl

/-! ### `setBranchEpisode` -/

@[simp] theorem setBranchEpisode_pending (n : Nat) (v : Episode) : (s.setBranchEpisode n v).pending = s.pending := rfl
@[simp] theorem setBranchEpisode_now (n : Nat) (v : Episode) : (s.setBranchEpisode n v).now = s.now := rfl
@[simp] theorem setBranchEpisode_freeIdx (n : Nat) (v : Episode) : (s.setBranchEpisode n v).freeIdx = s.freeIdx := rfl
@[simp] theorem setBranchEpisode_ports (n : Nat) (v : Episode) : (s.setBranchEpisode n v).ports = s.ports := rfl
@[simp] theorem setBranchEpisode_sources (n : Nat) (v : Episode) : (s.setBranchEpisode n v).sources = s.sources := rfl
@[simp] theorem setBranchEpisode_slots (n : Nat) (v : Episode) : (s.setBranchEpisode n v).slots = s.slots := rfl
@[simp] theorem setBranchEpisode_revision (n : Nat) (v : Episode) : (s.setBranchEpisode n v).revision = s.revision := rfl
@[simp] theorem setBranchEpisode_power (n : Nat) (v : Episode) : (s.setBranchEpisode n v).power = s.power := rfl
@[simp] theorem setBranchEpisode_subs (n : Nat) (v : Episode) : (s.setBranchEpisode n v).subs = s.subs := rfl
@[simp] theorem setBranchEpisode_taps (n : Nat) (v : Episode) : (s.setBranchEpisode n v).taps = s.taps := rfl
@[simp] theorem setBranchEpisode_syncSet (n : Nat) (v : Episode) : (s.setBranchEpisode n v).syncSet = s.syncSet := rfl
@[simp] theorem setBranchEpisode_engine (n : Nat) (v : Episode) : (s.setBranchEpisode n v).engine = s.engine := rfl
@[simp] theorem setBranchEpisode_link (n : Nat) (v : Episode) : (s.setBranchEpisode n v).link = s.link := rfl
@[simp] theorem setBranchEpisode_broadcast (n : Nat) (v : Episode) : (s.setBranchEpisode n v).broadcast = s.broadcast := rfl
@[simp] theorem setBranchEpisode_arbiter (n : Nat) (v : Episode) : (s.setBranchEpisode n v).arbiter = s.arbiter := rfl
@[simp] theorem setBranchEpisode_techQ (n : Nat) (v : Episode) : (s.setBranchEpisode n v).techQ = s.techQ := rfl
@[simp] theorem setBranchEpisode_watches (n : Nat) (v : Episode) : (s.setBranchEpisode n v).watches = s.watches := rfl
@[simp] theorem setBranchEpisode_survey (n : Nat) (v : Episode) : (s.setBranchEpisode n v).survey = s.survey := rfl
@[simp] theorem setBranchEpisode_monitor (n : Nat) (v : Episode) : (s.setBranchEpisode n v).monitor = s.monitor := rfl
@[simp] theorem setBranchEpisode_branches (n : Nat) (v : Episode) : (s.setBranchEpisode n v).branches = s.branches := rfl
@[simp] theorem setBranchEpisode_tierCount (n : Nat) (v : Episode) : (s.setBranchEpisode n v).tierCount = s.tierCount := rfl
@[simp] theorem setBranchEpisode_branchEpisodes (n : Nat) (v : Episode) : (s.setBranchEpisode n v).branchEpisodes = tabPut .cold s.branchEpisodes n v := rfl
@[simp] theorem setBranchEpisode_tierEpisodes (n : Nat) (v : Episode) : (s.setBranchEpisode n v).tierEpisodes = s.tierEpisodes := rfl
@[simp] theorem setBranchEpisode_alarms (n : Nat) (v : Episode) : (s.setBranchEpisode n v).alarms = s.alarms := rfl
@[simp] theorem setBranchEpisode_billing (n : Nat) (v : Episode) : (s.setBranchEpisode n v).billing = s.billing := rfl
@[simp] theorem setBranchEpisode_events (n : Nat) (v : Episode) : (s.setBranchEpisode n v).events = s.events := rfl
@[simp] theorem setBranchEpisode_snapshot (n : Nat) (v : Episode) : (s.setBranchEpisode n v).snapshot = s.snapshot := rfl
@[simp] theorem setBranchEpisode_ident (n : Nat) (v : Episode) : (s.setBranchEpisode n v).ident = s.ident := rfl
@[simp] theorem setBranchEpisode_out (n : Nat) (v : Episode) : (s.setBranchEpisode n v).out = s.out := rfl
@[simp] theorem setBranchEpisode_get_source (n : Nat) (v : Episode) (k : Nat) : (s.setBranchEpisode n v).source k = s.source k := rfl
@[simp] theorem setBranchEpisode_get_slot (n : Nat) (v : Episode) (k : Nat) : (s.setBranchEpisode n v).slot k = s.slot k := rfl
@[simp] theorem setBranchEpisode_get_sub (n : Nat) (v : Episode) (k : Nat) : (s.setBranchEpisode n v).sub k = s.sub k := rfl
@[simp] theorem setBranchEpisode_get_tap (n : Nat) (v : Episode) (k : Nat) : (s.setBranchEpisode n v).tap k = s.tap k := rfl
@[simp] theorem setBranchEpisode_get_watch (n : Nat) (v : Episode) (k : Nat) : (s.setBranchEpisode n v).watch k = s.watch k := rfl
@[simp] theorem setBranchEpisode_get_branch (n : Nat) (v : Episode) (k : Nat) : (s.setBranchEpisode n v).branch k = s.branch k := rfl
@[simp] theorem setBranchEpisode_get_event (n : Nat) (v : Episode) (k : Nat) : (s.setBranchEpisode n v).event k = s.event k := rfl
@[simp] theorem setBranchEpisode_get_tierEpisode (n : Nat) (v : Episode) (k : Nat) : (s.setBranchEpisode n v).tierEpisode k = s.tierEpisode k := rfl
@[simp] theorem setBranchEpisode_port (n : Nat) (v : Episode) (p : Master) : (s.setBranchEpisode n v).port p = s.port p := by
  cases p <;> rfl

/-! ### `setTierEpisode` -/

@[simp] theorem setTierEpisode_pending (n : Nat) (v : Episode) : (s.setTierEpisode n v).pending = s.pending := rfl
@[simp] theorem setTierEpisode_now (n : Nat) (v : Episode) : (s.setTierEpisode n v).now = s.now := rfl
@[simp] theorem setTierEpisode_freeIdx (n : Nat) (v : Episode) : (s.setTierEpisode n v).freeIdx = s.freeIdx := rfl
@[simp] theorem setTierEpisode_ports (n : Nat) (v : Episode) : (s.setTierEpisode n v).ports = s.ports := rfl
@[simp] theorem setTierEpisode_sources (n : Nat) (v : Episode) : (s.setTierEpisode n v).sources = s.sources := rfl
@[simp] theorem setTierEpisode_slots (n : Nat) (v : Episode) : (s.setTierEpisode n v).slots = s.slots := rfl
@[simp] theorem setTierEpisode_revision (n : Nat) (v : Episode) : (s.setTierEpisode n v).revision = s.revision := rfl
@[simp] theorem setTierEpisode_power (n : Nat) (v : Episode) : (s.setTierEpisode n v).power = s.power := rfl
@[simp] theorem setTierEpisode_subs (n : Nat) (v : Episode) : (s.setTierEpisode n v).subs = s.subs := rfl
@[simp] theorem setTierEpisode_taps (n : Nat) (v : Episode) : (s.setTierEpisode n v).taps = s.taps := rfl
@[simp] theorem setTierEpisode_syncSet (n : Nat) (v : Episode) : (s.setTierEpisode n v).syncSet = s.syncSet := rfl
@[simp] theorem setTierEpisode_engine (n : Nat) (v : Episode) : (s.setTierEpisode n v).engine = s.engine := rfl
@[simp] theorem setTierEpisode_link (n : Nat) (v : Episode) : (s.setTierEpisode n v).link = s.link := rfl
@[simp] theorem setTierEpisode_broadcast (n : Nat) (v : Episode) : (s.setTierEpisode n v).broadcast = s.broadcast := rfl
@[simp] theorem setTierEpisode_arbiter (n : Nat) (v : Episode) : (s.setTierEpisode n v).arbiter = s.arbiter := rfl
@[simp] theorem setTierEpisode_techQ (n : Nat) (v : Episode) : (s.setTierEpisode n v).techQ = s.techQ := rfl
@[simp] theorem setTierEpisode_watches (n : Nat) (v : Episode) : (s.setTierEpisode n v).watches = s.watches := rfl
@[simp] theorem setTierEpisode_survey (n : Nat) (v : Episode) : (s.setTierEpisode n v).survey = s.survey := rfl
@[simp] theorem setTierEpisode_monitor (n : Nat) (v : Episode) : (s.setTierEpisode n v).monitor = s.monitor := rfl
@[simp] theorem setTierEpisode_branches (n : Nat) (v : Episode) : (s.setTierEpisode n v).branches = s.branches := rfl
@[simp] theorem setTierEpisode_tierCount (n : Nat) (v : Episode) : (s.setTierEpisode n v).tierCount = s.tierCount := rfl
@[simp] theorem setTierEpisode_branchEpisodes (n : Nat) (v : Episode) : (s.setTierEpisode n v).branchEpisodes = s.branchEpisodes := rfl
@[simp] theorem setTierEpisode_tierEpisodes (n : Nat) (v : Episode) : (s.setTierEpisode n v).tierEpisodes = tabPut .cold s.tierEpisodes n v := rfl
@[simp] theorem setTierEpisode_alarms (n : Nat) (v : Episode) : (s.setTierEpisode n v).alarms = s.alarms := rfl
@[simp] theorem setTierEpisode_billing (n : Nat) (v : Episode) : (s.setTierEpisode n v).billing = s.billing := rfl
@[simp] theorem setTierEpisode_events (n : Nat) (v : Episode) : (s.setTierEpisode n v).events = s.events := rfl
@[simp] theorem setTierEpisode_snapshot (n : Nat) (v : Episode) : (s.setTierEpisode n v).snapshot = s.snapshot := rfl
@[simp] theorem setTierEpisode_ident (n : Nat) (v : Episode) : (s.setTierEpisode n v).ident = s.ident := rfl
@[simp] theorem setTierEpisode_out (n : Nat) (v : Episode) : (s.setTierEpisode n v).out = s.out := rfl
@[simp] theorem setTierEpisode_get_source (n : Nat) (v : Episode) (k : Nat) : (s.setTierEpisode n v).source k = s.source k := rfl
@[simp] theorem setTierEpisode_get_slot (n : Nat) (v : Episode) (k : Nat) : (s.setTierEpisode n v).slot k = s.slot k := rfl
@[simp] theorem setTierEpisode_get_sub (n : Nat) (v : Episode) (k : Nat) : (s.setTierEpisode n v).sub k = s.sub k := rfl
@[simp] theorem setTierEpisode_get_tap (n : Nat) (v : Episode) (k : Nat) : (s.setTierEpisode n v).tap k = s.tap k := rfl
@[simp] theorem setTierEpisode_get_watch (n : Nat) (v : Episode) (k : Nat) : (s.setTierEpisode n v).watch k = s.watch k := rfl
@[simp] theorem setTierEpisode_get_branch (n : Nat) (v : Episode) (k : Nat) : (s.setTierEpisode n v).branch k = s.branch k := rfl
@[simp] theorem setTierEpisode_get_event (n : Nat) (v : Episode) (k : Nat) : (s.setTierEpisode n v).event k = s.event k := rfl
@[simp] theorem setTierEpisode_get_branchEpisode (n : Nat) (v : Episode) (k : Nat) : (s.setTierEpisode n v).branchEpisode k = s.branchEpisode k := rfl
@[simp] theorem setTierEpisode_port (n : Nat) (v : Episode) (p : Master) : (s.setTierEpisode n v).port p = s.port p := by
  cases p <;> rfl

/-! ### `setPort` -/

@[simp] theorem setPort_pending (p : Master) (q : Port) : (s.setPort p q).pending = s.pending := by cases p <;> rfl
@[simp] theorem setPort_now (p : Master) (q : Port) : (s.setPort p q).now = s.now := by cases p <;> rfl
@[simp] theorem setPort_freeIdx (p : Master) (q : Port) : (s.setPort p q).freeIdx = s.freeIdx := by cases p <;> rfl
@[simp] theorem setPort_sources (p : Master) (q : Port) : (s.setPort p q).sources = s.sources := by cases p <;> rfl
@[simp] theorem setPort_slots (p : Master) (q : Port) : (s.setPort p q).slots = s.slots := by cases p <;> rfl
@[simp] theorem setPort_revision (p : Master) (q : Port) : (s.setPort p q).revision = s.revision := by cases p <;> rfl
@[simp] theorem setPort_power (p : Master) (q : Port) : (s.setPort p q).power = s.power := by cases p <;> rfl
@[simp] theorem setPort_subs (p : Master) (q : Port) : (s.setPort p q).subs = s.subs := by cases p <;> rfl
@[simp] theorem setPort_taps (p : Master) (q : Port) : (s.setPort p q).taps = s.taps := by cases p <;> rfl
@[simp] theorem setPort_syncSet (p : Master) (q : Port) : (s.setPort p q).syncSet = s.syncSet := by cases p <;> rfl
@[simp] theorem setPort_engine (p : Master) (q : Port) : (s.setPort p q).engine = s.engine := by cases p <;> rfl
@[simp] theorem setPort_link (p : Master) (q : Port) : (s.setPort p q).link = s.link := by cases p <;> rfl
@[simp] theorem setPort_broadcast (p : Master) (q : Port) : (s.setPort p q).broadcast = s.broadcast := by cases p <;> rfl
@[simp] theorem setPort_arbiter (p : Master) (q : Port) : (s.setPort p q).arbiter = s.arbiter := by cases p <;> rfl
@[simp] theorem setPort_techQ (p : Master) (q : Port) : (s.setPort p q).techQ = s.techQ := by cases p <;> rfl
@[simp] theorem setPort_watches (p : Master) (q : Port) : (s.setPort p q).watches = s.watches := by cases p <;> rfl
@[simp] theorem setPort_survey (p : Master) (q : Port) : (s.setPort p q).survey = s.survey := by cases p <;> rfl
@[simp] theorem setPort_monitor (p : Master) (q : Port) : (s.setPort p q).monitor = s.monitor := by cases p <;> rfl
@[simp] theorem setPort_branches (p : Master) (q : Port) : (s.setPort p q).branches = s.branches := by cases p <;> rfl
@[simp] theorem setPort_tierCount (p : Master) (q : Port) : (s.setPort p q).tierCount = s.tierCount := by cases p <;> rfl
@[simp] theorem setPort_branchEpisodes (p : Master) (q : Port) : (s.setPort p q).branchEpisodes = s.branchEpisodes := by cases p <;> rfl
@[simp] theorem setPort_tierEpisodes (p : Master) (q : Port) : (s.setPort p q).tierEpisodes = s.tierEpisodes := by cases p <;> rfl
@[simp] theorem setPort_alarms (p : Master) (q : Port) : (s.setPort p q).alarms = s.alarms := by cases p <;> rfl
@[simp] theorem setPort_billing (p : Master) (q : Port) : (s.setPort p q).billing = s.billing := by cases p <;> rfl
@[simp] theorem setPort_events (p : Master) (q : Port) : (s.setPort p q).events = s.events := by cases p <;> rfl
@[simp] theorem setPort_snapshot (p : Master) (q : Port) : (s.setPort p q).snapshot = s.snapshot := by cases p <;> rfl
@[simp] theorem setPort_ident (p : Master) (q : Port) : (s.setPort p q).ident = s.ident := by cases p <;> rfl
@[simp] theorem setPort_out (p : Master) (q : Port) : (s.setPort p q).out = s.out := by cases p <;> rfl
@[simp] theorem setPort_get_source (p : Master) (q : Port) (k : Nat) :
    (s.setPort p q).source k = s.source k := by cases p <;> rfl
@[simp] theorem setPort_get_slot (p : Master) (q : Port) (k : Nat) :
    (s.setPort p q).slot k = s.slot k := by cases p <;> rfl
@[simp] theorem setPort_get_sub (p : Master) (q : Port) (k : Nat) :
    (s.setPort p q).sub k = s.sub k := by cases p <;> rfl
@[simp] theorem setPort_get_tap (p : Master) (q : Port) (k : Nat) :
    (s.setPort p q).tap k = s.tap k := by cases p <;> rfl
@[simp] theorem setPort_get_watch (p : Master) (q : Port) (k : Nat) :
    (s.setPort p q).watch k = s.watch k := by cases p <;> rfl
@[simp] theorem setPort_get_branch (p : Master) (q : Port) (k : Nat) :
    (s.setPort p q).branch k = s.branch k := by cases p <;> rfl
@[simp] theorem setPort_get_event (p : Master) (q : Port) (k : Nat) :
    (s.setPort p q).event k = s.event k := by cases p <;> rfl
@[simp] theorem setPort_get_branchEpisode (p : Master) (q : Port) (k : Nat) :
    (s.setPort p q).branchEpisode k = s.branchEpisode k := by cases p <;> rfl
@[simp] theorem setPort_get_tierEpisode (p : Master) (q : Port) (k : Nat) :
    (s.setPort p q).tierEpisode k = s.tierEpisode k := by cases p <;> rfl
/-- The port written reads as written. -/
@[simp] theorem setPort_port_self (p : Master) (q : Port) : (s.setPort p q).port p = q := by cases p <;> rfl
/-- Another port is as before. -/
theorem setPort_port_ne {p p' : Master} (h : p' ≠ p) (q : Port) :
    (s.setPort p q).port p' = s.port p' := by
  cases p <;> cases p' <;> first | rfl | exact absurd rfl h
/-- A port written with what it holds leaves the state. -/
@[simp] theorem setPort_port_same (p : Master) : s.setPort p (s.port p) = s := by cases p <;> rfl
/-- The later of two writes of one port stands. -/
@[simp] theorem setPort_setPort (p : Master) (q q' : Port) :
    (s.setPort p q).setPort p q' = s.setPort p q' := by cases p <;> rfl


/-! ### `sendModulator` -/

@[simp] theorem sendModulator_pending (n : Nat) (l : Option Nat) : (sendModulator n l s).pending = s.pending := rfl
@[simp] theorem sendModulator_now (n : Nat) (l : Option Nat) : (sendModulator n l s).now = s.now := rfl
@[simp] theorem sendModulator_freeIdx (n : Nat) (l : Option Nat) : (sendModulator n l s).freeIdx = s.freeIdx := rfl
@[simp] theorem sendModulator_ports (n : Nat) (l : Option Nat) : (sendModulator n l s).ports = s.ports := rfl
@[simp] theorem sendModulator_sources (n : Nat) (l : Option Nat) : (sendModulator n l s).sources = s.sources := rfl
@[simp] theorem sendModulator_slots (n : Nat) (l : Option Nat) : (sendModulator n l s).slots = s.slots := rfl
@[simp] theorem sendModulator_revision (n : Nat) (l : Option Nat) : (sendModulator n l s).revision = s.revision := rfl
@[simp] theorem sendModulator_power (n : Nat) (l : Option Nat) : (sendModulator n l s).power = s.power := rfl
@[simp] theorem sendModulator_subs (n : Nat) (l : Option Nat) : (sendModulator n l s).subs = s.subs := rfl
@[simp] theorem sendModulator_taps (n : Nat) (l : Option Nat) : (sendModulator n l s).taps = s.taps := rfl
@[simp] theorem sendModulator_syncSet (n : Nat) (l : Option Nat) : (sendModulator n l s).syncSet = s.syncSet := rfl
@[simp] theorem sendModulator_engine (n : Nat) (l : Option Nat) : (sendModulator n l s).engine = s.engine := rfl
@[simp] theorem sendModulator_link (n : Nat) (l : Option Nat) : (sendModulator n l s).link = s.link := rfl
@[simp] theorem sendModulator_broadcast (n : Nat) (l : Option Nat) : (sendModulator n l s).broadcast = s.broadcast := rfl
@[simp] theorem sendModulator_arbiter (n : Nat) (l : Option Nat) : (sendModulator n l s).arbiter = s.arbiter := rfl
@[simp] theorem sendModulator_techQ (n : Nat) (l : Option Nat) : (sendModulator n l s).techQ = s.techQ := rfl
@[simp] theorem sendModulator_watches (n : Nat) (l : Option Nat) : (sendModulator n l s).watches = s.watches := rfl
@[simp] theorem sendModulator_survey (n : Nat) (l : Option Nat) : (sendModulator n l s).survey = s.survey := rfl
@[simp] theorem sendModulator_monitor (n : Nat) (l : Option Nat) : (sendModulator n l s).monitor = s.monitor := rfl
@[simp] theorem sendModulator_branches (n : Nat) (l : Option Nat) : (sendModulator n l s).branches = s.branches := rfl
@[simp] theorem sendModulator_tierCount (n : Nat) (l : Option Nat) : (sendModulator n l s).tierCount = s.tierCount := rfl
@[simp] theorem sendModulator_branchEpisodes (n : Nat) (l : Option Nat) : (sendModulator n l s).branchEpisodes = s.branchEpisodes := rfl
@[simp] theorem sendModulator_tierEpisodes (n : Nat) (l : Option Nat) : (sendModulator n l s).tierEpisodes = s.tierEpisodes := rfl
@[simp] theorem sendModulator_alarms (n : Nat) (l : Option Nat) : (sendModulator n l s).alarms = s.alarms := rfl
@[simp] theorem sendModulator_billing (n : Nat) (l : Option Nat) : (sendModulator n l s).billing = s.billing := rfl
@[simp] theorem sendModulator_events (n : Nat) (l : Option Nat) : (sendModulator n l s).events = s.events := rfl
@[simp] theorem sendModulator_snapshot (n : Nat) (l : Option Nat) : (sendModulator n l s).snapshot = s.snapshot := rfl
@[simp] theorem sendModulator_ident (n : Nat) (l : Option Nat) : (sendModulator n l s).ident = s.ident := rfl

/-! ### `sendSelector` -/

@[simp] theorem sendSelector_pending (n : Nat) (l : Option Nat) : (sendSelector n l s).pending = s.pending := rfl
@[simp] theorem sendSelector_now (n : Nat) (l : Option Nat) : (sendSelector n l s).now = s.now := rfl
@[simp] theorem sendSelector_freeIdx (n : Nat) (l : Option Nat) : (sendSelector n l s).freeIdx = s.freeIdx := rfl
@[simp] theorem sendSelector_ports (n : Nat) (l : Option Nat) : (sendSelector n l s).ports = s.ports := rfl
@[simp] theorem sendSelector_sources (n : Nat) (l : Option Nat) : (sendSelector n l s).sources = s.sources := rfl
@[simp] theorem sendSelector_slots (n : Nat) (l : Option Nat) : (sendSelector n l s).slots = s.slots := rfl
@[simp] theorem sendSelector_revision (n : Nat) (l : Option Nat) : (sendSelector n l s).revision = s.revision := rfl
@[simp] theorem sendSelector_power (n : Nat) (l : Option Nat) : (sendSelector n l s).power = s.power := rfl
@[simp] theorem sendSelector_subs (n : Nat) (l : Option Nat) : (sendSelector n l s).subs = s.subs := rfl
@[simp] theorem sendSelector_taps (n : Nat) (l : Option Nat) : (sendSelector n l s).taps = s.taps := rfl
@[simp] theorem sendSelector_syncSet (n : Nat) (l : Option Nat) : (sendSelector n l s).syncSet = s.syncSet := rfl
@[simp] theorem sendSelector_engine (n : Nat) (l : Option Nat) : (sendSelector n l s).engine = s.engine := rfl
@[simp] theorem sendSelector_link (n : Nat) (l : Option Nat) : (sendSelector n l s).link = s.link := rfl
@[simp] theorem sendSelector_broadcast (n : Nat) (l : Option Nat) : (sendSelector n l s).broadcast = s.broadcast := rfl
@[simp] theorem sendSelector_arbiter (n : Nat) (l : Option Nat) : (sendSelector n l s).arbiter = s.arbiter := rfl
@[simp] theorem sendSelector_techQ (n : Nat) (l : Option Nat) : (sendSelector n l s).techQ = s.techQ := rfl
@[simp] theorem sendSelector_watches (n : Nat) (l : Option Nat) : (sendSelector n l s).watches = s.watches := rfl
@[simp] theorem sendSelector_survey (n : Nat) (l : Option Nat) : (sendSelector n l s).survey = s.survey := rfl
@[simp] theorem sendSelector_monitor (n : Nat) (l : Option Nat) : (sendSelector n l s).monitor = s.monitor := rfl
@[simp] theorem sendSelector_branches (n : Nat) (l : Option Nat) : (sendSelector n l s).branches = s.branches := rfl
@[simp] theorem sendSelector_tierCount (n : Nat) (l : Option Nat) : (sendSelector n l s).tierCount = s.tierCount := rfl
@[simp] theorem sendSelector_branchEpisodes (n : Nat) (l : Option Nat) : (sendSelector n l s).branchEpisodes = s.branchEpisodes := rfl
@[simp] theorem sendSelector_tierEpisodes (n : Nat) (l : Option Nat) : (sendSelector n l s).tierEpisodes = s.tierEpisodes := rfl
@[simp] theorem sendSelector_alarms (n : Nat) (l : Option Nat) : (sendSelector n l s).alarms = s.alarms := rfl
@[simp] theorem sendSelector_billing (n : Nat) (l : Option Nat) : (sendSelector n l s).billing = s.billing := rfl
@[simp] theorem sendSelector_events (n : Nat) (l : Option Nat) : (sendSelector n l s).events = s.events := rfl
@[simp] theorem sendSelector_snapshot (n : Nat) (l : Option Nat) : (sendSelector n l s).snapshot = s.snapshot := rfl
@[simp] theorem sendSelector_ident (n : Nat) (l : Option Nat) : (sendSelector n l s).ident = s.ident := rfl

/-! ### `sendCarrier` -/

@[simp] theorem sendCarrier_pending (l : List (List Byte)) : (sendCarrier l s).pending = s.pending := rfl
@[simp] theorem sendCarrier_now (l : List (List Byte)) : (sendCarrier l s).now = s.now := rfl
@[simp] theorem sendCarrier_freeIdx (l : List (List Byte)) : (sendCarrier l s).freeIdx = s.freeIdx := rfl
@[simp] theorem sendCarrier_ports (l : List (List Byte)) : (sendCarrier l s).ports = s.ports := rfl
@[simp] theorem sendCarrier_sources (l : List (List Byte)) : (sendCarrier l s).sources = s.sources := rfl
@[simp] theorem sendCarrier_slots (l : List (List Byte)) : (sendCarrier l s).slots = s.slots := rfl
@[simp] theorem sendCarrier_revision (l : List (List Byte)) : (sendCarrier l s).revision = s.revision := rfl
@[simp] theorem sendCarrier_power (l : List (List Byte)) : (sendCarrier l s).power = s.power := rfl
@[simp] theorem sendCarrier_subs (l : List (List Byte)) : (sendCarrier l s).subs = s.subs := rfl
@[simp] theorem sendCarrier_taps (l : List (List Byte)) : (sendCarrier l s).taps = s.taps := rfl
@[simp] theorem sendCarrier_syncSet (l : List (List Byte)) : (sendCarrier l s).syncSet = s.syncSet := rfl
@[simp] theorem sendCarrier_engine (l : List (List Byte)) : (sendCarrier l s).engine = s.engine := rfl
@[simp] theorem sendCarrier_link (l : List (List Byte)) : (sendCarrier l s).link = s.link := rfl
@[simp] theorem sendCarrier_broadcast (l : List (List Byte)) : (sendCarrier l s).broadcast = s.broadcast := rfl
@[simp] theorem sendCarrier_arbiter (l : List (List Byte)) : (sendCarrier l s).arbiter = s.arbiter := rfl
@[simp] theorem sendCarrier_techQ (l : List (List Byte)) : (sendCarrier l s).techQ = s.techQ := rfl
@[simp] theorem sendCarrier_watches (l : List (List Byte)) : (sendCarrier l s).watches = s.watches := rfl
@[simp] theorem sendCarrier_survey (l : List (List Byte)) : (sendCarrier l s).survey = s.survey := rfl
@[simp] theorem sendCarrier_monitor (l : List (List Byte)) : (sendCarrier l s).monitor = s.monitor := rfl
@[simp] theorem sendCarrier_branches (l : List (List Byte)) : (sendCarrier l s).branches = s.branches := rfl
@[simp] theorem sendCarrier_tierCount (l : List (List Byte)) : (sendCarrier l s).tierCount = s.tierCount := rfl
@[simp] theorem sendCarrier_branchEpisodes (l : List (List Byte)) : (sendCarrier l s).branchEpisodes = s.branchEpisodes := rfl
@[simp] theorem sendCarrier_tierEpisodes (l : List (List Byte)) : (sendCarrier l s).tierEpisodes = s.tierEpisodes := rfl
@[simp] theorem sendCarrier_alarms (l : List (List Byte)) : (sendCarrier l s).alarms = s.alarms := rfl
@[simp] theorem sendCarrier_billing (l : List (List Byte)) : (sendCarrier l s).billing = s.billing := rfl
@[simp] theorem sendCarrier_events (l : List (List Byte)) : (sendCarrier l s).events = s.events := rfl
@[simp] theorem sendCarrier_snapshot (l : List (List Byte)) : (sendCarrier l s).snapshot = s.snapshot := rfl
@[simp] theorem sendCarrier_ident (l : List (List Byte)) : (sendCarrier l s).ident = s.ident := rfl

/-! ### `passTime` -/

@[simp] theorem passTime_pending (d : Nat) : (passTime d s).pending = s.pending := by
  unfold passTime; split <;> [split <;> rfl; rfl]
@[simp] theorem passTime_ports (d : Nat) : (passTime d s).ports = s.ports := by
  unfold passTime; split <;> [split <;> rfl; rfl]
@[simp] theorem passTime_sources (d : Nat) : (passTime d s).sources = s.sources := by
  unfold passTime; split <;> [split <;> rfl; rfl]
@[simp] theorem passTime_slots (d : Nat) : (passTime d s).slots = s.slots := by
  unfold passTime; split <;> [split <;> rfl; rfl]
@[simp] theorem passTime_revision (d : Nat) : (passTime d s).revision = s.revision := by
  unfold passTime; split <;> [split <;> rfl; rfl]
@[simp] theorem passTime_power (d : Nat) : (passTime d s).power = s.power := by
  unfold passTime; split <;> [split <;> rfl; rfl]
@[simp] theorem passTime_subs (d : Nat) : (passTime d s).subs = s.subs := by
  unfold passTime; split <;> [split <;> rfl; rfl]
@[simp] theorem passTime_taps (d : Nat) : (passTime d s).taps = s.taps := by
  unfold passTime; split <;> [split <;> rfl; rfl]
@[simp] theorem passTime_syncSet (d : Nat) : (passTime d s).syncSet = s.syncSet := by
  unfold passTime; split <;> [split <;> rfl; rfl]
@[simp] theorem passTime_engine (d : Nat) : (passTime d s).engine = s.engine := by
  unfold passTime; split <;> [split <;> rfl; rfl]
@[simp] theorem passTime_link (d : Nat) : (passTime d s).link = s.link := by
  unfold passTime; split <;> [split <;> rfl; rfl]
@[simp] theorem passTime_broadcast (d : Nat) : (passTime d s).broadcast = s.broadcast := by
  unfold passTime; split <;> [split <;> rfl; rfl]
@[simp] theorem passTime_arbiter (d : Nat) : (passTime d s).arbiter = s.arbiter := by
  unfold passTime; split <;> [split <;> rfl; rfl]
@[simp] theorem passTime_techQ (d : Nat) : (passTime d s).techQ = s.techQ := by
  unfold passTime; split <;> [split <;> rfl; rfl]
@[simp] theorem passTime_watches (d : Nat) : (passTime d s).watches = s.watches := by
  unfold passTime; split <;> [split <;> rfl; rfl]
@[simp] theorem passTime_monitor (d : Nat) : (passTime d s).monitor = s.monitor := by
  unfold passTime; split <;> [split <;> rfl; rfl]
@[simp] theorem passTime_branches (d : Nat) : (passTime d s).branches = s.branches := by
  unfold passTime; split <;> [split <;> rfl; rfl]
@[simp] theorem passTime_tierCount (d : Nat) : (passTime d s).tierCount = s.tierCount := by
  unfold passTime; split <;> [split <;> rfl; rfl]
@[simp] theorem passTime_branchEpisodes (d : Nat) : (passTime d s).branchEpisodes = s.branchEpisodes := by
  unfold passTime; split <;> [split <;> rfl; rfl]
@[simp] theorem passTime_tierEpisodes (d : Nat) : (passTime d s).tierEpisodes = s.tierEpisodes := by
  unfold passTime; split <;> [split <;> rfl; rfl]
@[simp] theorem passTime_alarms (d : Nat) : (passTime d s).alarms = s.alarms := by
  unfold passTime; split <;> [split <;> rfl; rfl]
@[simp] theorem passTime_billing (d : Nat) : (passTime d s).billing = s.billing := by
  unfold passTime; split <;> [split <;> rfl; rfl]
@[simp] theorem passTime_events (d : Nat) : (passTime d s).events = s.events := by
  unfold passTime; split <;> [split <;> rfl; rfl]
@[simp] theorem passTime_snapshot (d : Nat) : (passTime d s).snapshot = s.snapshot := by
  unfold passTime; split <;> [split <;> rfl; rfl]
@[simp] theorem passTime_ident (d : Nat) : (passTime d s).ident = s.ident := by
  unfold passTime; split <;> [split <;> rfl; rfl]
@[simp] theorem passTime_out (d : Nat) : (passTime d s).out = s.out := by
  unfold passTime; split <;> [split <;> rfl; rfl]
/-- Time passes by `d` ms. -/
@[simp] theorem passTime_now (d : Nat) : (passTime d s).now = s.now + d := by
  unfold passTime; split <;> [split <;> rfl; rfl]
/-- The survey clock holds while the return enable is OFF (R94). -/
theorem passTime_survey_of_returnOff (d : Nat) (h : s.engine.returnOn = false) :
    (passTime d s).survey = s.survey := by simp [passTime, h]

end Sys2Proof.Machine
end

