-- ==== Sys2Proof/Laws/Tables.lean ====
section
/-! SUPPORT. The tables of records: what a read gives after a write, the canonical form and every operation that
keeps it, and the folding of an operation over a list of numbers. -/

namespace Sys2Proof.Machine

section Tables
variable {α : Type} [DecidableEq α] {d : α}

/-- Every listed number lies above `k`. -/
def above (k : Nat) (t : Table α) : Prop := ∀ e ∈ t, k < e.1

/-- The tail of a canonical table is canonical. -/
theorem tabWf_tail {e : Nat × α} {t : Table α} (h : tabWf d (e :: t) = true) : tabWf d t = true := by
  cases t with
  | nil => rfl
  | cons f t => simp [tabWf] at h; exact h.2

/-- The first record of a canonical table is not the cold record. -/
theorem tabWf_head {e : Nat × α} {t : Table α} (h : tabWf d (e :: t) = true) : e.2 ≠ d := by
  cases t with
  | nil => simpa [tabWf] using h
  | cons f t => simp [tabWf] at h; exact h.1.1

/-- The first number of a canonical table is the least. -/
theorem tabWf_above {e : Nat × α} {t : Table α} (h : tabWf d (e :: t) = true) : above e.1 t := by
  induction t generalizing e with
  | nil => intro x hx; cases hx
  | cons f t ih =>
    have h1 : e.1 < f.1 := by simp [tabWf] at h; exact h.1.2
    have h2 := ih (tabWf_tail h)
    intro x hx
    rcases List.mem_cons.1 hx with rfl | hx
    · exact h1
    · exact Nat.lt_trans h1 (h2 x hx)

/-- A table is canonical when its tail is, its first record is not cold and its first number is the least. -/
theorem tabWf_cons {e : Nat × α} {t : Table α} (hv : e.2 ≠ d) (ha : above e.1 t)
    (ht : tabWf d t = true) : tabWf d (e :: t) = true := by
  cases t with
  | nil => simpa [tabWf] using hv
  | cons f t => simp [tabWf, hv, ht, ha f (by simp)]

omit [DecidableEq α] in
/-- A number below every listed one reads as cold. -/
theorem tabGet_of_above {k : Nat} {t : Table α} (h : above k t) : tabGet d t k = d := by
  induction t with
  | nil => rfl
  | cons e t ih =>
    have h1 : k < e.1 := h e (by simp)
    have h2 : above k t := fun x hx => h x (by simp [hx])
    simp [tabGet, Nat.ne_of_gt h1, ih h2]

/-- A write keeps every listed number above `j`. -/
theorem above_tabPut {j k : Nat} {v : α} {t : Table α} (h : above j t) (hk : j < k) :
    above j (tabPut d t k v) := by
  induction t with
  | nil => unfold tabPut; split <;> simp [above, hk]
  | cons e t ih =>
    have h2 : above j t := fun x hx => h x (by simp [hx])
    intro x hx
    unfold tabPut at hx
    split at hx
    · split at hx
      · exact h x hx
      · rcases List.mem_cons.1 hx with rfl | hx
        · exact hk
        · exact h x hx
    · split at hx
      · split at hx
        · exact h2 x hx
        · rcases List.mem_cons.1 hx with rfl | hx
          · exact hk
          · exact h2 x hx
      · rcases List.mem_cons.1 hx with rfl | hx
        · exact h _ (by simp)
        · exact ih h2 x hx

/-- A write keeps the canonical form. -/
theorem tabWf_tabPut {t : Table α} (k : Nat) (v : α) (h : tabWf d t = true) :
    tabWf d (tabPut d t k v) = true := by
  induction t with
  | nil =>
    unfold tabPut; split
    · rfl
    · simpa [tabWf] using ‹_›
  | cons e t ih =>
    have ht := tabWf_tail h
    have ha := tabWf_above h
    have hv := tabWf_head h
    unfold tabPut
    split
    · split
      · exact h
      · refine tabWf_cons ‹_› (fun x hx => ?_) h
        rcases List.mem_cons.1 hx with rfl | hx
        · assumption
        · exact Nat.lt_trans ‹_› (ha x hx)
    · split
      · split
        · exact ht
        · refine tabWf_cons ‹_› ?_ ht
          simp [*]
      · exact tabWf_cons hv (above_tabPut ha (by omega)) (ih ht)

/-- What a read gives after a write to a canonical table. -/
theorem tabGet_tabPut {t : Table α} (k j : Nat) (v : α) (h : tabWf d t = true) :
    tabGet d (tabPut d t k v) j = if j = k then v else tabGet d t j := by
  induction t with
  | nil =>
    unfold tabPut
    by_cases hv : v = d
    · simp [hv, tabGet]
    · simp [hv, tabGet, eq_comm]
  | cons e t ih =>
    obtain ⟨i, u⟩ := e
    have ht := tabWf_tail h
    have ha := tabWf_above h
    unfold tabPut
    by_cases h1 : k < i
    · have hcold : tabGet d ((i, u) :: t) k = d :=
        tabGet_of_above (fun x hx => by
          rcases List.mem_cons.1 hx with rfl | hx
          · exact h1
          · exact Nat.lt_trans h1 (ha x hx))
      by_cases hv : v = d
      · simp only [h1, hv, if_true]
        split
        · subst_vars; exact hcold
        · rfl
      · simp only [h1, hv, if_true, if_false]
        rw [tabGet]; simp [eq_comm]
    · by_cases h2 : k = i
      · subst h2
        have hcold : tabGet d t k = d := tabGet_of_above ha
        by_cases hv : v = d
        · simp only [Nat.lt_irrefl, hv, if_true, if_false]
          by_cases hj : j = k
          · simp [hj, hcold]
          · simp [hj, tabGet, Ne.symm hj]
        · simp only [Nat.lt_irrefl, hv, if_true, if_false]
          by_cases hj : j = k
          · simp [hj, tabGet]
          · simp [hj, tabGet, Ne.symm hj]
      · simp only [h1, h2, if_false]
        rw [tabGet, tabGet, ih ht]
        by_cases hi : i = j
        · subst hi; simp [Ne.symm h2]
        · simp [hi]

/-- A read of the record written. -/
theorem tabGet_tabPut_self {t : Table α} (k : Nat) (v : α) (h : tabWf d t = true) :
    tabGet d (tabPut d t k v) k = v := by simp [tabGet_tabPut k k v h]

/-- A read of another record. -/
theorem tabGet_tabPut_ne {t : Table α} {k j : Nat} (v : α) (h : tabWf d t = true) (hj : j ≠ k) :
    tabGet d (tabPut d t k v) j = tabGet d t j := by simp [tabGet_tabPut k j v h, hj]

/-- A fold of writes keeps the canonical form. -/
theorem tabWf_foldl_tabPut {β : Type} (g : β → Nat) (f : β → α) (l : List β) :
    ∀ {t : Table α}, tabWf d t = true → tabWf d (l.foldl (fun acc e => tabPut d acc (g e) (f e)) t) = true := by
  induction l with
  | nil => intro t h; exact h
  | cons e l ih => intro t h; exact ih (tabWf_tabPut _ _ h)

/-- Applying a function to every listed record gives the canonical form. -/
theorem tabWf_tabMap (f : α → α) (t : Table α) : tabWf d (tabMap d f t) = true :=
  tabWf_foldl_tabPut Prod.fst (fun e => f e.2) t rfl

/-- What a read gives after a function that keeps the cold record has been applied to every record. -/
theorem tabGet_tabMap {f : α → α} (hf : f d = d) {t : Table α} (h : tabWf d t = true) (k : Nat) :
    tabGet d (tabMap d f t) k = f (tabGet d t k) := by
  suffices H : ∀ (t : Table α) (acc : Table α), tabWf d t = true → tabWf d acc = true →
      tabGet d (t.foldl (fun acc e => tabPut d acc e.1 (f e.2)) acc) k
        = if (∃ e ∈ t, e.1 = k) then f (tabGet d t k) else tabGet d acc k by
    have := H t [] h rfl
    unfold tabMap
    rw [this]
    split
    · rfl
    · rename_i hno
      have : tabGet d t k = d := by
        clear H this h
        induction t with
        | nil => rfl
        | cons e t ih =>
          have h1 : e.1 ≠ k := fun hk => hno ⟨e, by simp, hk⟩
          have h2 : ¬ ∃ x ∈ t, x.1 = k := fun ⟨x, hx, hk⟩ => hno ⟨x, by simp [hx], hk⟩
          simp [tabGet, h1, ih h2]
      rw [this, hf]; rfl
  intro t
  induction t with
  | nil => intro acc _ _; simp
  | cons e t ih =>
    intro acc h hacc
    have ht := tabWf_tail h
    have ha := tabWf_above h
    simp only [List.foldl_cons]
    rw [ih _ ht (tabWf_tabPut _ _ hacc), tabGet_tabPut _ _ _ hacc]
    by_cases hk : e.1 = k
    · have hno : ¬ ∃ x ∈ t, x.1 = k := fun ⟨x, hx, he⟩ => by have := ha x hx; omega
      have hyes : ∃ x ∈ e :: t, x.1 = k := ⟨e, by simp, hk⟩
      rw [if_neg hno, if_pos hyes]
      subst hk
      simp [tabGet]
    · have hk' : k ≠ e.1 := Ne.symm hk
      by_cases hex : ∃ x ∈ t, x.1 = k
      · have hyes : ∃ x ∈ e :: t, x.1 = k := by
          obtain ⟨x, hx, he⟩ := hex; exact ⟨x, by simp [hx], he⟩
        rw [if_pos hex, if_pos hyes]; simp [tabGet, hk]
      · have hno : ¬ ∃ x ∈ e :: t, x.1 = k := by
          rintro ⟨x, hx, he⟩
          rcases List.mem_cons.1 hx with rfl | hx
          · exact hk he
          · exact hex ⟨x, hx, he⟩
        rw [if_neg hex, if_neg hno, if_neg hk']

omit [DecidableEq α] in
/-- A record that is not cold is listed. -/
theorem mem_of_tabGet_ne {t : Table α} {k : Nat} (h : tabGet d t k ≠ d) : (k, tabGet d t k) ∈ t := by
  induction t with
  | nil => exact absurd rfl h
  | cons e t ih =>
    obtain ⟨i, u⟩ := e
    by_cases hk : i = k
    · subst hk; simp [tabGet]
    · have h' : tabGet d t k ≠ d := by simpa [tabGet, hk] using h
      have := ih h'
      simp [tabGet, hk, this]

/-- A listed record of a canonical table is what its number reads as. -/
theorem tabGet_of_mem {t : Table α} (h : tabWf d t = true) {e : Nat × α} (he : e ∈ t) :
    tabGet d t e.1 = e.2 := by
  induction t with
  | nil => cases he
  | cons x t ih =>
    rcases List.mem_cons.1 he with rfl | he
    · simp [tabGet]
    · have hlt := tabWf_above h e he
      have : x.1 ≠ e.1 := Nat.ne_of_lt hlt
      simp [tabGet, this, ih (tabWf_tail h) he]

/-- The numbers a test picks from a canonical table: those of the listed records that pass it. -/
theorem mem_tabWhere {f : Nat → α → Bool} {t : Table α} (h : tabWf d t = true) {k : Nat} :
    k ∈ tabWhere f t ↔ tabGet d t k ≠ d ∧ f k (tabGet d t k) = true := by
  constructor
  · intro hk
    simp only [tabWhere, List.mem_map, List.mem_filter] at hk
    obtain ⟨e, ⟨he, hf⟩, rfl⟩ := hk
    rw [tabGet_of_mem h he]
    refine ⟨?_, hf⟩
    clear hf
    induction t with
    | nil => cases he
    | cons x t ih =>
      rcases List.mem_cons.1 he with rfl | he
      · exact tabWf_head h
      · exact ih (tabWf_tail h) he
  · rintro ⟨hne, hf⟩
    simp only [tabWhere, List.mem_map, List.mem_filter]
    exact ⟨_, ⟨mem_of_tabGet_ne hne, hf⟩, rfl⟩

/-- The numbers of a canonical table are different. -/
theorem nodup_keys {t : Table α} (h : tabWf d t = true) : (t.map Prod.fst).Nodup := by
  induction t with
  | nil => simp
  | cons e t ih =>
    simp only [List.map_cons, List.nodup_cons, List.mem_map]
    refine ⟨?_, ih (tabWf_tail h)⟩
    rintro ⟨x, hx, he⟩
    have := tabWf_above h x hx
    omega

end Tables

/-! ### Folding over a list of numbers -/

/-- What every turn of a fold keeps, the fold keeps. -/
theorem forEach_keeps {P : State → Prop} (l : List Nat) (f : Nat → State → State)
    (h : ∀ n ∈ l, ∀ s, P s → P (f n s)) (s : State) (hs : P s) : P (forEach l f s) := by
  induction l generalizing s with
  | nil => exact hs
  | cons n l ih =>
    exact ih (fun m hm => h m (by simp [hm])) _ (h n (by simp) s hs)

/-- A view of the state that every turn of a fold leaves, the fold leaves. -/
theorem forEach_frame {β : Type} (g : State → β) (l : List Nat) (f : Nat → State → State)
    (h : ∀ n s, g (f n s) = g s) (s : State) : g (forEach l f s) = g s :=
  forEach_keeps (P := fun t => g t = g s) l f (fun n _ t ht => (h n t).trans ht) s rfl

@[simp] theorem forEach_nil (f : Nat → State → State) (s : State) : forEach [] f s = s := rfl
@[simp] theorem forEach_cons (n : Nat) (l : List Nat) (f : Nat → State → State) (s : State) :
    forEach (n :: l) f s = forEach l f (f n s) := rfl

/-! ### Reads after writes of the state's tables -/

theorem slot_setSlot {s : State} (h : tabWf .cold s.slots = true) (n k : Nat) (v : Slot) :
    (s.setSlot n v).slot k = if k = n then v else s.slot k := tabGet_tabPut n k v h
theorem source_setSource {s : State} (h : tabWf .cold s.sources = true) (n k : Nat) (v : Source) :
    (s.setSource n v).source k = if k = n then v else s.source k := tabGet_tabPut n k v h
theorem sub_setSub {s : State} (h : tabWf .cold s.subs = true) (n k : Nat) (v : Subscriber) :
    (s.setSub n v).sub k = if k = n then v else s.sub k := tabGet_tabPut n k v h
theorem tap_setTap {s : State} (h : tabWf .cold s.taps = true) (n k : Nat) (v : Tap) :
    (s.setTap n v).tap k = if k = n then v else s.tap k := tabGet_tabPut n k v h
theorem watch_setWatch {s : State} (h : tabWf .cold s.watches = true) (n k : Nat) (v : Watch) :
    (s.setWatch n v).watch k = if k = n then v else s.watch k := tabGet_tabPut n k v h
theorem branch_setBranch {s : State} (h : tabWf .cold s.branches = true) (n k : Nat) (v : Branch) :
    (s.setBranch n v).branch k = if k = n then v else s.branch k := tabGet_tabPut n k v h
theorem event_setEvent {s : State} (h : tabWf .cold s.events = true) (n k : Nat) (v : Event) :
    (s.setEvent n v).event k = if k = n then v else s.event k := tabGet_tabPut n k v h
theorem branchEpisode_setBranchEpisode {s : State} (h : tabWf .cold s.branchEpisodes = true)
    (n k : Nat) (v : Episode) :
    (s.setBranchEpisode n v).branchEpisode k = if k = n then v else s.branchEpisode k :=
  tabGet_tabPut n k v h
theorem tierEpisode_setTierEpisode {s : State} (h : tabWf .cold s.tierEpisodes = true)
    (n k : Nat) (v : Episode) :
    (s.setTierEpisode n v).tierEpisode k = if k = n then v else s.tierEpisode k :=
  tabGet_tabPut n k v h

end Sys2Proof.Machine
end

