-- ==== Sys2Proof/Laws/Frames.lean ====
section
/-! SUPPORT. What each shared operation leaves unchanged, said once: `(op s).butX = s.butX` says that `op` changes no
field outside those `butX` names. A field's own fact follows by `congrArg`. -/

namespace Sys2Proof.Machine

variable {s t : State}

/-! ### The views, each a function of the one before it -/

theorem butAlarms_of_butPorts (h : t.butPorts = s.butPorts) : t.butAlarms = s.butAlarms :=
  congrArg (fun u : State => { u with alarms := State.reset.alarms }) h
theorem butBranches_of_butAlarms (h : t.butAlarms = s.butAlarms) : t.butBranches = s.butBranches :=
  congrArg (fun u : State => { u with branches := [], branchEpisodes := [] }) h
theorem butSlots_of_butAlarms (h : t.butAlarms = s.butAlarms) : t.butSlots = s.butSlots :=
  congrArg (fun u : State =>
    { u with slots := [], tierCount := [], tierEpisodes := [], monitor := State.reset.monitor,
             out := State.reset.out }) h
theorem butTaps_of_butBranches (h : t.butBranches = s.butBranches) : t.butTaps = s.butTaps :=
  congrArg (fun u : State => { u with taps := [], syncSet := [], subs := [] }) h
theorem butTaps_of_butAlarms (h : t.butAlarms = s.butAlarms) : t.butTaps = s.butTaps :=
  butTaps_of_butBranches (butBranches_of_butAlarms h)
theorem butGrant_of_butTaps (h : t.butTaps = s.butTaps) : t.butGrant = s.butGrant :=
  congrArg (fun u : State =>
    { u with engine := State.reset.engine, arbiter := State.reset.arbiter,
             broadcast := State.reset.broadcast, techQ := State.reset.techQ, watches := [],
             survey := State.reset.survey, out := State.reset.out }) h
theorem butGrant_of_butAlarms (h : t.butAlarms = s.butAlarms) : t.butGrant = s.butGrant :=
  butGrant_of_butTaps (butTaps_of_butAlarms h)
theorem butEvents_of_butGrant (h : t.butGrant = s.butGrant) : t.butEvents = s.butEvents :=
  congrArg (fun u : State => { u with events := [], tierCount := [], tierEpisodes := [] }) h
theorem butEvents_of_butAlarms (h : t.butAlarms = s.butAlarms) : t.butEvents = s.butEvents :=
  butEvents_of_butGrant (butGrant_of_butAlarms h)

/-! ### `driveSelect` changes the slot-select output alone -/

@[simp] theorem driveSelect_pending (n : Option Nat) : (driveSelect n s).pending = s.pending := rfl
@[simp] theorem driveSelect_now (n : Option Nat) : (driveSelect n s).now = s.now := rfl
@[simp] theorem driveSelect_freeIdx (n : Option Nat) : (driveSelect n s).freeIdx = s.freeIdx := rfl
@[simp] theorem driveSelect_ports (n : Option Nat) : (driveSelect n s).ports = s.ports := rfl
@[simp] theorem driveSelect_sources (n : Option Nat) : (driveSelect n s).sources = s.sources := rfl
@[simp] theorem driveSelect_slots (n : Option Nat) : (driveSelect n s).slots = s.slots := rfl
@[simp] theorem driveSelect_revision (n : Option Nat) : (driveSelect n s).revision = s.revision := rfl
@[simp] theorem driveSelect_power (n : Option Nat) : (driveSelect n s).power = s.power := rfl
@[simp] theorem driveSelect_subs (n : Option Nat) : (driveSelect n s).subs = s.subs := rfl
@[simp] theorem driveSelect_taps (n : Option Nat) : (driveSelect n s).taps = s.taps := rfl
@[simp] theorem driveSelect_syncSet (n : Option Nat) : (driveSelect n s).syncSet = s.syncSet := rfl
@[simp] theorem driveSelect_engine (n : Option Nat) : (driveSelect n s).engine = s.engine := rfl
@[simp] theorem driveSelect_link (n : Option Nat) : (driveSelect n s).link = s.link := rfl
@[simp] theorem driveSelect_broadcast (n : Option Nat) : (driveSelect n s).broadcast = s.broadcast := rfl
@[simp] theorem driveSelect_arbiter (n : Option Nat) : (driveSelect n s).arbiter = s.arbiter := rfl
@[simp] theorem driveSelect_techQ (n : Option Nat) : (driveSelect n s).techQ = s.techQ := rfl
@[simp] theorem driveSelect_watches (n : Option Nat) : (driveSelect n s).watches = s.watches := rfl
@[simp] theorem driveSelect_survey (n : Option Nat) : (driveSelect n s).survey = s.survey := rfl
@[simp] theorem driveSelect_monitor (n : Option Nat) : (driveSelect n s).monitor = s.monitor := rfl
@[simp] theorem driveSelect_branches (n : Option Nat) : (driveSelect n s).branches = s.branches := rfl
@[simp] theorem driveSelect_tierCount (n : Option Nat) : (driveSelect n s).tierCount = s.tierCount := rfl
@[simp] theorem driveSelect_branchEpisodes (n : Option Nat) : (driveSelect n s).branchEpisodes = s.branchEpisodes := rfl
@[simp] theorem driveSelect_tierEpisodes (n : Option Nat) : (driveSelect n s).tierEpisodes = s.tierEpisodes := rfl
@[simp] theorem driveSelect_alarms (n : Option Nat) : (driveSelect n s).alarms = s.alarms := rfl
@[simp] theorem driveSelect_billing (n : Option Nat) : (driveSelect n s).billing = s.billing := rfl
@[simp] theorem driveSelect_events (n : Option Nat) : (driveSelect n s).events = s.events := rfl
@[simp] theorem driveSelect_snapshot (n : Option Nat) : (driveSelect n s).snapshot = s.snapshot := rfl
@[simp] theorem driveSelect_ident (n : Option Nat) : (driveSelect n s).ident = s.ident := rfl
@[simp] theorem driveSelect_slotSelect (n : Option Nat) : (driveSelect n s).out.slotSelect = n := rfl
@[simp] theorem driveSelect_butSlots (n : Option Nat) : (driveSelect n s).butSlots = s.butSlots := rfl

/-! ### Messages and alarms -/

@[simp] theorem setPort_butPorts (p : Master) (q : Port) (s : State) :
    (s.setPort p q).butPorts = s.butPorts := by cases p <;> rfl
@[simp] theorem putAnswer_butPorts (p : Master) (m : Msg) (a : Ans) (s : State) :
    (putAnswer p m a s).butPorts = s.butPorts := setPort_butPorts _ _ _
@[simp] theorem putNotice_butPorts (p : Master) (k : Byte) (b : List Byte) (s : State) :
    (putNotice p k b s).butPorts = s.butPorts := by
  simp only [putNotice]; split <;> exact setPort_butPorts _ _ _

/-! ### What the placing of a notice does at its port -/

/-- The port of another master is left. -/
theorem putNotice_port_ne {p p' : Master} (h : p' ≠ p) (k : Byte) (b : List Byte) :
    (putNotice p k b s).port p' = s.port p' := by
  simp only [putNotice]; split <;> exact setPort_port_ne _ h _

/-- R172: the notice stands last, or it found no room and the flag says so. -/
theorem putNotice_port (p : Master) (k : Byte) (b : List Byte) (s : State) :
    (putNotice p k b s).port p =
      if (s.port p).outQ.length < 15 then { s.port p with outQ := (s.port p).outQ ++ [⟨k, 0, b⟩] }
      else { s.port p with missed := true } := by
  simp only [putNotice]; split <;> simp

/-- Each master of the audience gets the notice, and no other does (R173). -/
theorem noticeTo_port (aud : MasterSet) (k : Byte) (b : List Byte) (p : Master) (s : State) :
    (noticeTo aud k b s).port p = if aud.has p then (putNotice p k b s).port p else s.port p := by
  cases p <;> simp only [noticeTo, noticeIf] <;>
    (repeat' split) <;> simp_all [putNotice_port, putNotice_port_ne]

/-- A notice that is placed has been told. -/
theorem putNotice_noticed (p : Master) (k : Byte) (b : List Byte) (s : State) :
    Noticed s (putNotice p k b s) p k [b] := by
  rw [Noticed, putNotice_port]
  by_cases h : (s.port p).outQ.length < 15
  · exact .inl (by simp [h])
  · exact .inr ⟨by simp [h], by simp [h]; omega⟩

/-- What has been told stays told while the queue only grows and the flag is only set. -/
theorem Noticed.grows {u : State} {p : Master} {k : Byte} {l : List (List Byte)} (h : Noticed s t p k l)
    (hq : (t.port p).outQ.Sublist (u.port p).outQ)
    (hm : (t.port p).missed = true → (u.port p).missed = true) : Noticed s u p k l :=
  h.imp (fun h => h.trans hq) fun h => ⟨hm h.1, h.2.trans hq.length_le⟩
@[simp] theorem noticeIf_butPorts (a : MasterSet) (p : Master) (k : Byte) (b : List Byte) (s : State) :
    (noticeIf a p k b s).butPorts = s.butPorts := by
  unfold noticeIf; split <;> simp
@[simp] theorem noticeTo_butPorts (a : MasterSet) (k : Byte) (b : List Byte) (s : State) :
    (noticeTo a k b s).butPorts = s.butPorts := by simp [noticeTo]
@[simp] theorem alarmNotice_butPorts (n : AlarmNotice) (r : AlarmRecord) (s : State) :
    (alarmNotice n r s).butPorts = s.butPorts := noticeTo_butPorts _ _ _ _
@[simp] theorem setRecords_butAlarms (l : List AlarmRecord) (s : State) :
    (setRecords l s).butAlarms = s.butAlarms := rfl
@[simp] theorem appendRecord_butAlarms (k : AlarmKind) (o : Nat) (l : List AlarmRecord) (s : State) :
    (appendRecord k o l s).butAlarms = s.butAlarms :=
  (butAlarms_of_butPorts (alarmNotice_butPorts _ _ _)).trans rfl
@[simp] theorem newRecord_butAlarms (k : AlarmKind) (o : Nat) (s : State) :
    (newRecord k o s).butAlarms = s.butAlarms := by
  simp only [newRecord]
  split
  · exact appendRecord_butAlarms _ _ _ _
  · split
    · exact appendRecord_butAlarms _ _ _ _
    · rfl
@[simp] theorem reopenRecord_butAlarms (r : AlarmRecord) (s : State) :
    (reopenRecord r s).butAlarms = s.butAlarms :=
  (butAlarms_of_butPorts (alarmNotice_butPorts _ _ _)).trans rfl
@[simp] theorem raiseAlarm_butAlarms (k : AlarmKind) (o : Nat) (s : State) :
    (raiseAlarm k o s).butAlarms = s.butAlarms := by
  unfold raiseAlarm
  split
  · split
    · exact newRecord_butAlarms _ _ _
    · split
      · exact reopenRecord_butAlarms _ _
      · rfl
  · rfl
@[simp] theorem retire_butAlarms (r : AlarmRecord) (s : State) : (retire r s).butAlarms = s.butAlarms := by
  unfold retire; split <;> rfl
@[simp] theorem clearRecord_butAlarms (r : AlarmRecord) (s : State) :
    (clearRecord r s).butAlarms = s.butAlarms :=
  (retire_butAlarms _ _).trans ((butAlarms_of_butPorts (alarmNotice_butPorts _ _ _)).trans rfl)
@[simp] theorem endAlarm_butAlarms (k : AlarmKind) (o : Nat) (s : State) :
    (endAlarm k o s).butAlarms = s.butAlarms := by
  unfold endAlarm
  split
  · split
    · exact clearRecord_butAlarms _ _
    · rfl
  · rfl
@[simp] theorem postChange_butAlarms (k : AlarmKind) (o : Nat) (b a : Bool) (s : State) :
    (postChange k o b a s).butAlarms = s.butAlarms := by
  unfold postChange
  split
  · exact raiseAlarm_butAlarms _ _ _
  · split
    · exact endAlarm_butAlarms _ _ _
    · rfl
@[simp] theorem correlateAffected_butAlarms (b : Nat) (s : State) :
    (correlateAffected b s).butAlarms = s.butAlarms :=
  forEach_frame State.butAlarms _ _ (fun _ _ => endAlarm_butAlarms _ _ _) _
@[simp] theorem correlateUnaffected_butAlarms (b : Nat) (s : State) :
    (correlateUnaffected b s).butAlarms = s.butAlarms :=
  forEach_frame State.butAlarms _ _ (fun _ _ => raiseAlarm_butAlarms _ _ _) _
@[simp] theorem correlateShadowed_butAlarms (b : Nat) (s : State) :
    (correlateShadowed b s).butAlarms = s.butAlarms := by simp [correlateShadowed]
@[simp] theorem correlateUnshadowed_butAlarms (b : Nat) (s : State) :
    (correlateUnshadowed b s).butAlarms = s.butAlarms := by
  simp only [correlateUnshadowed]
  split <;> split <;> simp
@[simp] theorem resurveyList_butAlarms (l : List (AlarmKind × Nat)) (n : Nat) (s : State) :
    (resurveyList l n s).1.butAlarms = s.butAlarms := by
  induction l generalizing n s with
  | nil => rfl
  | cons e l ih =>
    obtain ⟨k, o⟩ := e
    simp only [resurveyList]
    split
    · exact ih _ _
    · split
      · exact (ih _ _).trans (newRecord_butAlarms _ _ _)
      · rfl
@[simp] theorem resurvey_butAlarms (s : State) : (resurvey s).1.butAlarms = s.butAlarms :=
  resurveyList_butAlarms _ _ _

/-! ### The outage correlator -/

@[simp] theorem setBranch_butBranches (n : Nat) (v : Branch) (s : State) :
    (s.setBranch n v).butBranches = s.butBranches := rfl
@[simp] theorem decideFlags_butBranches (n : Nat) (s : State) :
    (decideFlags n s).butBranches = s.butBranches := rfl
@[simp] theorem handOnBranch_butBranches (old : Branch) (n : Nat) (s : State) :
    (handOnBranch old n s).butBranches = s.butBranches := by
  have h1 : (s.setBranchEpisode n ((s.branchEpisode n).after old.affected (s.branch n).affected
      s.billing.clock)).butBranches = s.butBranches := rfl
  have hp := fun k b a (u : State) => butBranches_of_butAlarms (postChange_butAlarms k n b a u)
  have ha := fun (u : State) => butBranches_of_butAlarms (correlateAffected_butAlarms n u)
  have hu := fun (u : State) => butBranches_of_butAlarms (correlateUnaffected_butAlarms n u)
  have hs := fun (u : State) => butBranches_of_butAlarms (correlateShadowed_butAlarms n u)
  have hn := fun (u : State) => butBranches_of_butAlarms (correlateUnshadowed_butAlarms n u)
  simp only [handOnBranch]
  split <;> [skip; split] <;> (split <;> [skip; split]) <;> simp only [hs, hn, ha, hu, hp] <;> exact h1
@[simp] theorem decideBranches_butBranches (s : State) : (decideBranches s).butBranches = s.butBranches := by
  have h1 := fun l (u : State) => forEach_frame State.butBranches l
    (fun n t => handOnBranch (s.branch n) n t) (fun _ _ => handOnBranch_butBranches _ _ _) u
  have h2 := fun l (u : State) => forEach_frame State.butBranches l decideFlags
    (fun _ _ => decideFlags_butBranches _ _) u
  simp only [decideBranches, h1, h2]
  rfl
@[simp] theorem changeBranch_butBranches (n : Nat) (f : Branch → Branch) (s : State) :
    (changeBranch n f s).butBranches = s.butBranches := by simp [changeBranch]
@[simp] theorem postInstalled_butBranches (n : Nat) (s : State) :
    (postInstalled n s).butBranches = s.butBranches := changeBranch_butBranches _ _ _
@[simp] theorem postRemoved_butBranches (n : Nat) (u : Bool) (s : State) :
    (postRemoved n u s).butBranches = s.butBranches := changeBranch_butBranches _ _ _
@[simp] theorem postReach_butBranches (b : Option Nat) (x y : Bool) (s : State) :
    (postReach b x y s).butBranches = s.butBranches := by
  unfold postReach
  split
  · rfl
  · split
    · exact changeBranch_butBranches _ _ _
    · split
      · exact changeBranch_butBranches _ _ _
      · rfl
@[simp] theorem postSilence_butBranches (n : Nat) (v : Bool) (s : State) :
    (postSilence n v s).butBranches = s.butBranches := changeBranch_butBranches _ _ _
@[simp] theorem postSupply_butBranches (n : Nat) (v : Bool) (s : State) :
    (postSupply n v s).butBranches = s.butBranches := changeBranch_butBranches _ _ _

/-! ### The head end's slots -/

@[simp] theorem setSlot_butSlots (n : Nat) (v : Slot) (s : State) : (s.setSlot n v).butSlots = s.butSlots := rfl
@[simp] theorem sendModulator_butSlots (n : Nat) (l : Option Nat) (s : State) :
    (sendModulator n l s).butSlots = s.butSlots := rfl
@[simp] theorem sendSelector_butSlots (n : Nat) (l : Option Nat) (s : State) :
    (sendSelector n l s).butSlots = s.butSlots := rfl
@[simp] theorem raiseAlarm_butSlots (k : AlarmKind) (o : Nat) (s : State) :
    (raiseAlarm k o s).butSlots = s.butSlots := butSlots_of_butAlarms (raiseAlarm_butAlarms _ _ _)
@[simp] theorem endAlarm_butSlots (k : AlarmKind) (o : Nat) (s : State) :
    (endAlarm k o s).butSlots = s.butSlots := butSlots_of_butAlarms (endAlarm_butAlarms _ _ _)
@[simp] theorem decideTier_butSlots (n : Nat) (s : State) : (decideTier n s).butSlots = s.butSlots := rfl
@[simp] theorem decideTiers_butSlots (s : State) : (decideTiers s).butSlots = s.butSlots :=
  forEach_frame State.butSlots _ _ (fun _ _ => decideTier_butSlots _ _) _
@[simp] theorem beginConversion_butSlots (n : Nat) (s : State) :
    (beginConversion n s).butSlots = s.butSlots := rfl
@[simp] theorem disturb_butSlots (n : Nat) (s : State) : (disturb n s).butSlots = s.butSlots := by
  unfold disturb
  split
  · split <;> rfl
  · rfl
@[simp] theorem postJudgement_butSlots (f : AlarmKind → Nat → State → State)
    (hf : ∀ k o s, (f k o s).butSlots = s.butSlots) (j : Judgement) (n : Nat) (s : State) :
    (postJudgement f j n s).butSlots = s.butSlots := by
  unfold postJudgement; split
  · exact hf _ _ _
  · rfl
@[simp] theorem setJudgement_butSlots (n : Nat) (j : Judgement) (l h c : Nat) (s : State) :
    (setJudgement n j l h c s).butSlots = s.butSlots := by
  simp only [setJudgement]
  split
  · rfl
  · rw [postJudgement_butSlots _ raiseAlarm_butSlots, postJudgement_butSlots _ endAlarm_butSlots,
      setSlot_butSlots]
@[simp] theorem rampPosted_butSlots (n : Nat) (b : Bool) (s : State) :
    (rampPosted n b s).butSlots = s.butSlots := by
  simp only [rampPosted]; split <;> simp
@[simp] theorem scanSlot_butSlots (n l : Nat) (d : Bool) (s : State) :
    (scanSlot n l d s).butSlots = s.butSlots := by
  simp only [scanSlot]; split <;> simp
@[simp] theorem completeConversion_butSlots (c : Conversion) (r : Nat) (s : State) :
    (completeConversion c r s).butSlots = s.butSlots := by
  simp only [completeConversion]
  split
  · rfl
  · exact (show _ = (scanSlot c.slot _ _ s).butSlots from rfl).trans (scanSlot_butSlots _ _ _ _)
@[simp] theorem clearJudgements_butSlots (s : State) : (clearJudgements s).butSlots = s.butSlots :=
  forEach_frame State.butSlots _ _ (fun _ _ => by simp) _
@[simp] theorem monitorEnabled_butSlots (s : State) : (monitorEnabled s).butSlots = s.butSlots := by
  simp only [monitorEnabled, beginConversion_butSlots, endAlarm_butSlots]; rfl
@[simp] theorem monitorDisabled_butSlots (s : State) : (monitorDisabled s).butSlots = s.butSlots := by
  simp only [monitorDisabled, raiseAlarm_butSlots, decideTiers_butSlots, clearJudgements_butSlots]; rfl
@[simp] theorem restartConversion_butSlots (s : State) : (restartConversion s).butSlots = s.butSlots := by
  unfold restartConversion; split <;> rfl
@[simp] theorem applyMonitor_butSlots (m : Monitor) (s : State) : (applyMonitor m s).butSlots = s.butSlots := by
  simp only [applyMonitor]
  split <;> (split <;> [simp; (split <;> simp)])
@[simp] theorem turnOn_butSlots (n : Nat) (s : State) : (turnOn n s).butSlots = s.butSlots := by simp [turnOn]
@[simp] theorem reAim_butSlots (n : Nat) (s : State) : (reAim n s).butSlots = s.butSlots := by
  simp only [reAim]; split <;> simp
@[simp] theorem recomputeAim_butSlots (n : Nat) (s : State) : (recomputeAim n s).butSlots = s.butSlots := by
  simp only [recomputeAim]
  split
  · simp
  · split
    · simp
    · split <;> simp
@[simp] theorem turnOff_butSlots (n : Nat) (s : State) : (turnOff n s).butSlots = s.butSlots := by simp [turnOff]
@[simp] theorem sendIfMoved_butSlots (n a b : Nat) (s : State) : (sendIfMoved n a b s).butSlots = s.butSlots := by
  unfold sendIfMoved; split <;> simp
@[simp] theorem takeStep_butSlots (n : Nat) (s : State) : (takeStep n s).butSlots = s.butSlots := by
  simp only [takeStep]
  split
  · split <;> simp
  · simp
@[simp] theorem decideOwed_butSlots (n : Nat) (s : State) : (decideOwed n s).butSlots = s.butSlots := rfl
@[simp] theorem refreshSlot_butSlots (n : Nat) (s : State) : (refreshSlot n s).butSlots = s.butSlots := by
  simp [refreshSlot]
@[simp] theorem presenceTaken_butSlots (n : Nat) (s : State) : (presenceTaken n s).butSlots = s.butSlots := by
  have h := fun (u : State) => forEach_frame State.butSlots slotNumbers
    (fun k s => if (s.slot k).source = some n then decideOwed k s else s)
    (fun k u => by split <;> simp) u
  simp only [presenceTaken, h]
  split <;> simp
@[simp] theorem presenceChanged_butSlots (n : Nat) (s : State) :
    (presenceChanged n s).butSlots = s.butSlots := by simp [presenceChanged]

/-! ### The taps -/

@[simp] theorem setTap_butTaps (n : Nat) (v : Tap) (s : State) : (s.setTap n v).butTaps = s.butTaps := rfl
@[simp] theorem setSub_butTaps (n : Nat) (v : Subscriber) (s : State) : (s.setSub n v).butTaps = s.butTaps := rfl
@[simp] theorem postChange_butTaps (k : AlarmKind) (o : Nat) (b a : Bool) (s : State) :
    (postChange k o b a s).butTaps = s.butTaps := butTaps_of_butAlarms (postChange_butAlarms _ _ _ _ _)
@[simp] theorem setSync_butTaps (n : Nat) (v : SyncStatus) (s : State) :
    (setSync n v s).butTaps = s.butTaps := by simp [setSync]
@[simp] theorem enterSync_butTaps (n : Nat) (s : State) : (enterSync n s).butTaps = s.butTaps := by
  unfold enterSync; rw [setSync_butTaps]; rfl
@[simp] theorem leaveSync_butTaps (n : Nat) (s : State) : (leaveSync n s).butTaps = s.butTaps := by
  unfold leaveSync; rw [setSync_butTaps]; rfl
@[simp] theorem entryTest_butTaps (n : Nat) (s : State) : (entryTest n s).butTaps = s.butTaps := by
  simp only [entryTest]
  split
  · split <;> first | rfl | (split <;> simp)
  · rfl
@[simp] theorem entryTestOf_butTaps (n : Option Nat) (s : State) : (entryTestOf n s).butTaps = s.butTaps := by
  unfold entryTestOf; split <;> simp
@[simp] theorem entryTestAll_butTaps (s : State) : (entryTestAll s).butTaps = s.butTaps :=
  forEach_frame State.butTaps _ _ (fun _ _ => entryTest_butTaps _ _) _
@[simp] theorem postReach_butTaps (b : Option Nat) (x y : Bool) (s : State) :
    (postReach b x y s).butTaps = s.butTaps := butTaps_of_butBranches (postReach_butBranches _ _ _ _)
@[simp] theorem postReachability_butTaps (n : Nat) (o : Reach) (s : State) :
    (postReachability n o s).butTaps = s.butTaps := by simp [postReachability]
@[simp] theorem setReach_butTaps (n : Nat) (v : Reach) (s : State) :
    (setReach n v s).butTaps = s.butTaps := by simp [setReach]
@[simp] theorem confirmTiers_butTaps (n : Nat) (m : Quad TierSet) (s : State) :
    (confirmTiers n m s).butTaps = s.butTaps := by
  simp only [confirmTiers]
  exact forEach_frame State.butTaps _ _ (fun _ _ => setSub_butTaps _ _ _) _
@[simp] theorem takeStatus_butTaps (n : Nat) (m : Quad TierSet) (r : Nat) (h : Bool) (s : State) :
    (takeStatus n m r h s).butTaps = s.butTaps := by simp [takeStatus]
@[simp] theorem intakeReply_butTaps (n : Nat) (m : Quad TierSet) (r : Nat) (h : Bool) (s : State) :
    (intakeReply n m r h s).butTaps = s.butTaps := by
  simp only [intakeReply]
  split
  · split <;> first | (split <;> simp) | simp
  · rfl
@[simp] theorem portSetAnswered_butTaps (n : Nat) (q : Quad TierSet) (x : Option TierMap) (m : Quad TierSet)
    (r : Nat) (h : Bool) (s : State) : (portSetAnswered n q x m r h s).butTaps = s.butTaps := by
  simp only [portSetAnswered]; split <;> simp
@[simp] theorem portSetFailed_butTaps (n : Nat) (o : TxnOutcome) (s : State) :
    (portSetFailed n o s).butTaps = s.butTaps := by
  simp only [portSetFailed]; split <;> simp

/-! ### The grant and the events -/

@[simp] theorem beginAttempt_butGrant (x : Txn) (s : State) : (beginAttempt x s).butGrant = s.butGrant := rfl
@[simp] theorem takeTransaction_butGrant (r : Requester) (c : UnitClass) (a : Nat) (m : Command) (s : State) :
    (takeTransaction r c a m s).butGrant = s.butGrant := rfl
@[simp] theorem setSync_butGrant (n : Nat) (v : SyncStatus) (s : State) :
    (setSync n v s).butGrant = s.butGrant := butGrant_of_butTaps (setSync_butTaps _ _ _)
@[simp] theorem grantSync_butGrant (s : State) : (grantSync s).butGrant = s.butGrant := by
  simp only [grantSync]
  split
  · rw [takeTransaction_butGrant, setSync_butGrant]; rfl
  · rfl
@[simp] theorem markPolled_butGrant (b : Nat) (s : State) : (markPolled b s).butGrant = s.butGrant := by
  simp only [markPolled]; split <;> rfl
@[simp] theorem grantTechnician_butGrant (s : State) : (grantTechnician s).butGrant = s.butGrant := by
  unfold grantTechnician; split <;> rfl
@[simp] theorem grantSurvey_butGrant (s : State) : (grantSurvey s).butGrant = s.butGrant := by
  unfold grantSurvey
  split
  · simp
  · split <;> rfl
@[simp] theorem grantTo_butGrant (r : Requester) (s : State) : (grantTo r s).butGrant = s.butGrant := by
  cases r
  · rfl
  · exact grantTechnician_butGrant s
  · exact grantSync_butGrant s
  · exact grantSurvey_butGrant s
@[simp] theorem arbitrate_butGrant (s : State) : (arbitrate s).butGrant = s.butGrant := by
  unfold arbitrate
  split
  · split
    · rw [grantTo_butGrant]; rfl
    · rfl
  · rfl
@[simp] theorem entryTestOf_butGrant (n : Option Nat) (s : State) : (entryTestOf n s).butGrant = s.butGrant :=
  butGrant_of_butTaps (entryTestOf_butTaps _ _)
@[simp] theorem testBuyers_butGrant (e : Nat) (s : State) : (testBuyers e s).butGrant = s.butGrant :=
  forEach_frame State.butGrant _ _ (fun _ _ => entryTestOf_butGrant _ _) _
@[simp] theorem decideTier_butEvents (n : Nat) (s : State) : (decideTier n s).butEvents = s.butEvents := rfl
@[simp] theorem decideTiers_butEvents (s : State) : (decideTiers s).butEvents = s.butEvents :=
  forEach_frame State.butEvents _ _ (fun _ _ => decideTier_butEvents _ _) _
@[simp] theorem setSub_butEvents (n : Nat) (v : Subscriber) (s : State) :
    (s.setSub n v).butEvents = s.butEvents := rfl
@[simp] theorem eventNotice_butEvents (e : Nat) (o : EventState) (s : State) :
    (eventNotice e o s).butEvents = s.butEvents :=
  butEvents_of_butAlarms (butAlarms_of_butPorts (noticeTo_butPorts _ _ _ _))

section Events
variable (f : State → State) (hf : ∀ s, (f s).butGrant = s.butGrant)
include hf

theorem announceEvent_butEvents (e : Nat) (o : EventState) (s : State) :
    (announceEvent f e o s).butEvents = s.butEvents := by
  have h := butEvents_of_butGrant (hf (testBuyers e s))
  have h' := butEvents_of_butGrant (testBuyers_butGrant e s)
  simp only [announceEvent, eventNotice_butEvents, decideTiers_butEvents, h, h']
theorem startEvent_butEvents (e : Nat) (s : State) : (startEvent f e s).butEvents = s.butEvents := by
  unfold startEvent; rw [announceEvent_butEvents f hf]; rfl
omit hf in
theorem mapPurchases_butEvents (e : Nat) (g : Purchase → Purchase) (s : State) :
    (mapPurchases e g s).butEvents = s.butEvents := by
  simp only [mapPurchases]
  exact forEach_frame State.butEvents _ _ (fun _ _ => setSub_butEvents _ _ _) _
theorem endEvent_butEvents (e : Nat) (s : State) : (endEvent f e s).butEvents = s.butEvents := by
  unfold endEvent
  simp only [announceEvent_butEvents f hf, mapPurchases_butEvents]; rfl
theorem endShowing_butEvents (m : Nat) (s : State) : (endShowing f m s).butEvents = s.butEvents := by
  simp only [endShowing]
  split
  · split
    · exact endEvent_butEvents f hf _ _
    · rfl
  · rfl
theorem takeStart_butEvents (m e : Nat) (s : State) : (takeStart f m e s).butEvents = s.butEvents := by
  simp only [takeStart]
  split
  · rw [endEvent_butEvents f hf, startEvent_butEvents f hf]
  · exact startEvent_butEvents f hf _ _
/-- An evaluation of the events leaves every field but those `butEvents` names (R152). -/
theorem evaluateEvents_butEvents (m : Nat) (s : State) : (evaluateEvents f m s).butEvents = s.butEvents := by
  simp only [evaluateEvents]
  rw [forEach_frame State.butEvents _ _ (fun n s => takeStart_butEvents f hf m n s),
    endShowing_butEvents f hf]

end Events

end Sys2Proof.Machine
end

