-- ==== Sys2Proof/Laws/Requests.lean ====
section
/-! SUPPORT. What the taking of a request does, said once: the request that the port takes now is handed on, another
request row is no event, and a request's departure from its queue leaves every other field. -/

namespace Sys2Proof.Machine

variable {s : State} {p : Master} {m : Msg} {k : Nat}

/-- The port takes the request that it is asked (R170). -/
theorem Asks.takable (h : Asks s p k m) {f : Nat → Bool} (hf : f k = true) : s.takable p f = some m := by
  obtain ⟨⟨h1, h2, h3⟩, h4⟩ := h
  cases hq : (s.port p).inQ with
  | nil => simp [hq] at h3
  | cons x l =>
    obtain rfl : x = m := by simpa [hq] using h3
    simp [State.takable, hq, State.canTake, h1, h2, h4, hf]

/-- A request that the port does not take now is not taken. -/
theorem takable_none (h : ∀ m, ¬ Asks s p k m) : s.takable p (· == k) = none := by
  unfold State.takable
  split
  · rename_i x l hq
    split
    · rename_i hc
      simp only [State.canTake, Bool.and_eq_true, decide_eq_true_eq, beq_iff_eq,
        Option.isNone_iff_eq_none] at hc
      exact absurd ⟨⟨hc.1.1, hc.1.2, by simp [hq]⟩, hc.2⟩ (h x)
    · rfl
  · rfl

/-- R170, R171: the request asked is served, after it has left the input queue. -/
theorem Asks.takeRequest {α : Type} (h : Asks s p k m) (ok : Bool) (parse : List Byte → Option α)
    (block : Block α) :
    takeRequest p k ok parse block s = serve p m ok parse block (dropHead p s) := by
  unfold Machine.takeRequest
  rw [h.takable (by simp)]

/-- A request row without its request is no event. -/
theorem takeRequest_none {α : Type} (h : ∀ m, ¬ Asks s p k m) (ok : Bool) (parse : List Byte → Option α)
    (block : Block α) : takeRequest p k ok parse block s = s := by
  unfold Machine.takeRequest
  rw [takable_none h]

/-- R171: a permitted request whose body reads as `a` is answered by its block. -/
theorem serve_ok {α : Type} {parse : List Byte → Option α} {a : α} (h : parse m.body = some a)
    (block : Block α) (s : State) :
    serve p m true parse block s = putAnswer p m (block a s).2 (block a s).1 := by
  simp [serve, runBlock, h]

/-- R171: a permitted request whose body has no reading is MALFORMED. -/
theorem serve_malformed {α : Type} {parse : List Byte → Option α} (h : parse m.body = none)
    (block : Block α) (s : State) :
    serve p m true parse block s = putAnswer p m (refuse .malformed) s := by
  simp [serve, h]

/-- R171: a request that the catalogue does not permit to the master. -/
theorem serve_notPermitted {α : Type} {parse : List Byte → Option α} (block : Block α) (s : State) :
    serve p m false parse block s = putAnswer p m (refuse .notPermitted) s := rfl

/-- The request asked, permitted and read. -/
theorem Asks.served {α : Type} (h : Asks s p k m) {parse : List Byte → Option α} {a : α}
    (hp : parse m.body = some a) (block : Block α) :
    Machine.takeRequest p k true parse block s
      = putAnswer p m (block a (dropHead p s)).2 (block a (dropHead p s)).1 := by
  rw [h.takeRequest, serve_ok hp]

/-! ### A request leaves its queue -/

@[simp] theorem dropHead_pending (p : Master) (s : State) : (dropHead p s).pending = s.pending := setPort_pending _ _ _
@[simp] theorem dropHead_now (p : Master) (s : State) : (dropHead p s).now = s.now := setPort_now _ _ _
@[simp] theorem dropHead_freeIdx (p : Master) (s : State) : (dropHead p s).freeIdx = s.freeIdx := setPort_freeIdx _ _ _
@[simp] theorem dropHead_sources (p : Master) (s : State) : (dropHead p s).sources = s.sources := setPort_sources _ _ _
@[simp] theorem dropHead_slots (p : Master) (s : State) : (dropHead p s).slots = s.slots := setPort_slots _ _ _
@[simp] theorem dropHead_revision (p : Master) (s : State) : (dropHead p s).revision = s.revision := setPort_revision _ _ _
@[simp] theorem dropHead_power (p : Master) (s : State) : (dropHead p s).power = s.power := setPort_power _ _ _
@[simp] theorem dropHead_subs (p : Master) (s : State) : (dropHead p s).subs = s.subs := setPort_subs _ _ _
@[simp] theorem dropHead_taps (p : Master) (s : State) : (dropHead p s).taps = s.taps := setPort_taps _ _ _
@[simp] theorem dropHead_syncSet (p : Master) (s : State) : (dropHead p s).syncSet = s.syncSet := setPort_syncSet _ _ _
@[simp] theorem dropHead_engine (p : Master) (s : State) : (dropHead p s).engine = s.engine := setPort_engine _ _ _
@[simp] theorem dropHead_link (p : Master) (s : State) : (dropHead p s).link = s.link := setPort_link _ _ _
@[simp] theorem dropHead_broadcast (p : Master) (s : State) : (dropHead p s).broadcast = s.broadcast := setPort_broadcast _ _ _
@[simp] theorem dropHead_arbiter (p : Master) (s : State) : (dropHead p s).arbiter = s.arbiter := setPort_arbiter _ _ _
@[simp] theorem dropHead_techQ (p : Master) (s : State) : (dropHead p s).techQ = s.techQ := setPort_techQ _ _ _
@[simp] theorem dropHead_watches (p : Master) (s : State) : (dropHead p s).watches = s.watches := setPort_watches _ _ _
@[simp] theorem dropHead_survey (p : Master) (s : State) : (dropHead p s).survey = s.survey := setPort_survey _ _ _
@[simp] theorem dropHead_monitor (p : Master) (s : State) : (dropHead p s).monitor = s.monitor := setPort_monitor _ _ _
@[simp] theorem dropHead_branches (p : Master) (s : State) : (dropHead p s).branches = s.branches := setPort_branches _ _ _
@[simp] theorem dropHead_tierCount (p : Master) (s : State) : (dropHead p s).tierCount = s.tierCount := setPort_tierCount _ _ _
@[simp] theorem dropHead_branchEpisodes (p : Master) (s : State) : (dropHead p s).branchEpisodes = s.branchEpisodes := setPort_branchEpisodes _ _ _
@[simp] theorem dropHead_tierEpisodes (p : Master) (s : State) : (dropHead p s).tierEpisodes = s.tierEpisodes := setPort_tierEpisodes _ _ _
@[simp] theorem dropHead_alarms (p : Master) (s : State) : (dropHead p s).alarms = s.alarms := setPort_alarms _ _ _
@[simp] theorem dropHead_billing (p : Master) (s : State) : (dropHead p s).billing = s.billing := setPort_billing _ _ _
@[simp] theorem dropHead_events (p : Master) (s : State) : (dropHead p s).events = s.events := setPort_events _ _ _
@[simp] theorem dropHead_snapshot (p : Master) (s : State) : (dropHead p s).snapshot = s.snapshot := setPort_snapshot _ _ _
@[simp] theorem dropHead_ident (p : Master) (s : State) : (dropHead p s).ident = s.ident := setPort_ident _ _ _
@[simp] theorem dropHead_out (p : Master) (s : State) : (dropHead p s).out = s.out := setPort_out _ _ _
@[simp] theorem dropHead_get_source (p : Master) (s : State) (k : Nat) : (dropHead p s).source k = s.source k :=
  setPort_get_source _ _ _ _
@[simp] theorem dropHead_get_slot (p : Master) (s : State) (k : Nat) : (dropHead p s).slot k = s.slot k :=
  setPort_get_slot _ _ _ _
@[simp] theorem dropHead_get_sub (p : Master) (s : State) (k : Nat) : (dropHead p s).sub k = s.sub k :=
  setPort_get_sub _ _ _ _
@[simp] theorem dropHead_get_tap (p : Master) (s : State) (k : Nat) : (dropHead p s).tap k = s.tap k :=
  setPort_get_tap _ _ _ _
@[simp] theorem dropHead_get_watch (p : Master) (s : State) (k : Nat) : (dropHead p s).watch k = s.watch k :=
  setPort_get_watch _ _ _ _
@[simp] theorem dropHead_get_branch (p : Master) (s : State) (k : Nat) : (dropHead p s).branch k = s.branch k :=
  setPort_get_branch _ _ _ _
@[simp] theorem dropHead_get_event (p : Master) (s : State) (k : Nat) : (dropHead p s).event k = s.event k :=
  setPort_get_event _ _ _ _
@[simp] theorem dropHead_get_branchEpisode (p : Master) (s : State) (k : Nat) : (dropHead p s).branchEpisode k = s.branchEpisode k :=
  setPort_get_branchEpisode _ _ _ _
@[simp] theorem dropHead_get_tierEpisode (p : Master) (s : State) (k : Nat) : (dropHead p s).tierEpisode k = s.tierEpisode k :=
  setPort_get_tierEpisode _ _ _ _
@[simp] theorem dropHead_butPorts (p : Master) (s : State) : (dropHead p s).butPorts = s.butPorts := by cases p <;> rfl
@[simp] theorem dropHead_butAlarms (p : Master) (s : State) : (dropHead p s).butAlarms = s.butAlarms := by cases p <;> rfl
@[simp] theorem dropHead_butBranches (p : Master) (s : State) : (dropHead p s).butBranches = s.butBranches := by cases p <;> rfl
@[simp] theorem dropHead_butSlots (p : Master) (s : State) : (dropHead p s).butSlots = s.butSlots := by cases p <;> rfl
@[simp] theorem dropHead_butTaps (p : Master) (s : State) : (dropHead p s).butTaps = s.butTaps := by cases p <;> rfl
@[simp] theorem dropHead_butGrant (p : Master) (s : State) : (dropHead p s).butGrant = s.butGrant := by cases p <;> rfl
@[simp] theorem dropHead_butEvents (p : Master) (s : State) : (dropHead p s).butEvents = s.butEvents := by cases p <;> rfl

/-! ### An answer is placed -/

@[simp] theorem putAnswer_pending (p : Master) (m : Msg) (a : Ans) (s : State) : (putAnswer p m a s).pending = s.pending :=
  setPort_pending _ _ _
@[simp] theorem putAnswer_now (p : Master) (m : Msg) (a : Ans) (s : State) : (putAnswer p m a s).now = s.now :=
  setPort_now _ _ _
@[simp] theorem putAnswer_freeIdx (p : Master) (m : Msg) (a : Ans) (s : State) : (putAnswer p m a s).freeIdx = s.freeIdx :=
  setPort_freeIdx _ _ _
@[simp] theorem putAnswer_sources (p : Master) (m : Msg) (a : Ans) (s : State) : (putAnswer p m a s).sources = s.sources :=
  setPort_sources _ _ _
@[simp] theorem putAnswer_slots (p : Master) (m : Msg) (a : Ans) (s : State) : (putAnswer p m a s).slots = s.slots :=
  setPort_slots _ _ _
@[simp] theorem putAnswer_revision (p : Master) (m : Msg) (a : Ans) (s : State) : (putAnswer p m a s).revision = s.revision :=
  setPort_revision _ _ _
@[simp] theorem putAnswer_power (p : Master) (m : Msg) (a : Ans) (s : State) : (putAnswer p m a s).power = s.power :=
  setPort_power _ _ _
@[simp] theorem putAnswer_subs (p : Master) (m : Msg) (a : Ans) (s : State) : (putAnswer p m a s).subs = s.subs :=
  setPort_subs _ _ _
@[simp] theorem putAnswer_taps (p : Master) (m : Msg) (a : Ans) (s : State) : (putAnswer p m a s).taps = s.taps :=
  setPort_taps _ _ _
@[simp] theorem putAnswer_syncSet (p : Master) (m : Msg) (a : Ans) (s : State) : (putAnswer p m a s).syncSet = s.syncSet :=
  setPort_syncSet _ _ _
@[simp] theorem putAnswer_engine (p : Master) (m : Msg) (a : Ans) (s : State) : (putAnswer p m a s).engine = s.engine :=
  setPort_engine _ _ _
@[simp] theorem putAnswer_link (p : Master) (m : Msg) (a : Ans) (s : State) : (putAnswer p m a s).link = s.link :=
  setPort_link _ _ _
@[simp] theorem putAnswer_broadcast (p : Master) (m : Msg) (a : Ans) (s : State) : (putAnswer p m a s).broadcast = s.broadcast :=
  setPort_broadcast _ _ _
@[simp] theorem putAnswer_arbiter (p : Master) (m : Msg) (a : Ans) (s : State) : (putAnswer p m a s).arbiter = s.arbiter :=
  setPort_arbiter _ _ _
@[simp] theorem putAnswer_techQ (p : Master) (m : Msg) (a : Ans) (s : State) : (putAnswer p m a s).techQ = s.techQ :=
  setPort_techQ _ _ _
@[simp] theorem putAnswer_watches (p : Master) (m : Msg) (a : Ans) (s : State) : (putAnswer p m a s).watches = s.watches :=
  setPort_watches _ _ _
@[simp] theorem putAnswer_survey (p : Master) (m : Msg) (a : Ans) (s : State) : (putAnswer p m a s).survey = s.survey :=
  setPort_survey _ _ _
@[simp] theorem putAnswer_monitor (p : Master) (m : Msg) (a : Ans) (s : State) : (putAnswer p m a s).monitor = s.monitor :=
  setPort_monitor _ _ _
@[simp] theorem putAnswer_branches (p : Master) (m : Msg) (a : Ans) (s : State) : (putAnswer p m a s).branches = s.branches :=
  setPort_branches _ _ _
@[simp] theorem putAnswer_tierCount (p : Master) (m : Msg) (a : Ans) (s : State) : (putAnswer p m a s).tierCount = s.tierCount :=
  setPort_tierCount _ _ _
@[simp] theorem putAnswer_branchEpisodes (p : Master) (m : Msg) (a : Ans) (s : State) : (putAnswer p m a s).branchEpisodes = s.branchEpisodes :=
  setPort_branchEpisodes _ _ _
@[simp] theorem putAnswer_tierEpisodes (p : Master) (m : Msg) (a : Ans) (s : State) : (putAnswer p m a s).tierEpisodes = s.tierEpisodes :=
  setPort_tierEpisodes _ _ _
@[simp] theorem putAnswer_alarms (p : Master) (m : Msg) (a : Ans) (s : State) : (putAnswer p m a s).alarms = s.alarms :=
  setPort_alarms _ _ _
@[simp] theorem putAnswer_billing (p : Master) (m : Msg) (a : Ans) (s : State) : (putAnswer p m a s).billing = s.billing :=
  setPort_billing _ _ _
@[simp] theorem putAnswer_events (p : Master) (m : Msg) (a : Ans) (s : State) : (putAnswer p m a s).events = s.events :=
  setPort_events _ _ _
@[simp] theorem putAnswer_snapshot (p : Master) (m : Msg) (a : Ans) (s : State) : (putAnswer p m a s).snapshot = s.snapshot :=
  setPort_snapshot _ _ _
@[simp] theorem putAnswer_ident (p : Master) (m : Msg) (a : Ans) (s : State) : (putAnswer p m a s).ident = s.ident :=
  setPort_ident _ _ _
@[simp] theorem putAnswer_out (p : Master) (m : Msg) (a : Ans) (s : State) : (putAnswer p m a s).out = s.out :=
  setPort_out _ _ _

end Sys2Proof.Machine
end

