-- ==== Sys2Proof/Laws/Symbols.lean ====
section
/-! SUPPORT. What the receiver's decision of a symbol gives (R71). -/

namespace Sys2Proof

/-- R71: three samples of one value are decided as that value. -/
@[simp] theorem majority_same (a : Bool) : majority a a a = a := by cases a <;> rfl

/-- R71: one sample that differs from two others, wherever it stands, does not change the decision. -/
theorem majority_one_wrong (a b : Bool) :
    majority a a b = a ∧ majority a b a = a ∧ majority b a a = a := by
  cases a <;> cases b <;> decide

/-- R71: each data symbol of a byte is decided from its own three samples. -/
theorem SampledByte.decided_bit (b : SampledByte) (i : Nat) :
    b.decided.getLsbD i = majority (b.first.getLsbD i) (b.second.getLsbD i) (b.third.getLsbD i) := by
  simp [SampledByte.decided, majority]

/-- R71: a frame gives as many bytes as were sampled. -/
@[simp] theorem decidedBytes_length (l : List SampledByte) : (decidedBytes l).length = l.length := by
  simp [decidedBytes]

/-- R72: every stop symbol is good exactly where each is decided as the stop value. -/
theorem stopsGood_iff (l : List SampledStop) :
    stopsGood l = true ↔ ∀ x ∈ l, majority x.first x.second x.third = true := by
  simp [stopsGood, SampledStop.found]

end Sys2Proof
end

