-- ==== Sys2Proof/Tests/Slice0.lean ====
section
/-! SUPPORT. Tests of the model: the refusal of ill-formed commands, worked values of the spec, and for each
statement with hypotheses a state and operands that meet them. -/

namespace Sys2Proof.Tests

open Sys2Proof Sys2Proof.Machine

-- The tests are checked one after another: many kernel evaluations at once take a thread each.
set_option Elab.async false

/-! ### Helpers -/

/-- The result is a next state that satisfies `f`. -/
def answers (o : Result) (f : State → Bool) : Bool :=
  match o with
  | .next t => f t
  | .fault _ => false
  | .refused _ => false

/-- The result is this fault. -/
def stops (o : Result) (e : Fault) : Bool :=
  match o with
  | .next _ => false
  | .fault f => decide (f = e)
  | .refused _ => false

/-- The request of kind `k` with tag 7. -/
def request (k : Nat) (body : List Byte) : Msg := ⟨BitVec.ofNat 8 k, 7, body⟩

/-- A state whose port `p` has this one request waiting and nothing to send. -/
def asking (p : Master) (k : Nat) (body : List Byte) (s : State) : State :=
  s.setPort p { s.port p with inQ := [request k body], outQ := [], inProgress := none }

/-- The code of the last answer on port `p`, and its content. -/
def lastAnswer (p : Master) (s : State) : List Byte :=
  match (s.port p).outQ.getLast? with
  | some m => (m.body.take 1) ++ m.body.drop 3
  | none => []

/-- Samples of these bytes on a noisy line: the middle sample of every symbol is wrong. -/
def sampled (l : List Byte) : List SampledByte := l.map fun b => ⟨b, ~~~b, b⟩

/-- `n` stop symbols, each with one wrong sample. -/
def stopsOf (n : Nat) : List SampledStop := List.replicate n ⟨true, true, false⟩

/-- Such a request is the one the port takes now. -/
theorem asks_asking (p : Master) (k : Nat) (body : List Byte) (s : State) (h : k < 256) :
    Asks (asking p k body s) p k (request k body) := by
  refine ⟨⟨?_, ?_, ?_⟩, ?_⟩
  · cases p <;> rfl
  · cases p <;> exact (by decide : 0 < 16)
  · cases p <;> rfl
  · simp [request, Nat.mod_eq_of_lt h]

/-- What the cold record and every listed record satisfy, every record satisfies. -/
theorem every_record {α : Type} {P : α → Prop} (d : α) (t : Table α) (hd : P d) (ht : ∀ e ∈ t, P e.2)
    (k : Nat) : P (tabGet d t k) := by
  induction t with
  | nil => exact hd
  | cons e t ih =>
    unfold tabGet
    split
    · exact ht _ (by simp)
    · exact ih fun x hx => ht x (by simp [hx])

/-- A small plant: branch 1 with a station and tap 1, whose port 1 is subscriber 1's; event 1 is scheduled on slot
7 and bought by subscriber 1, event 2 is showing; subscriber 2 is REMOVED; slot 3 runs at full
level. -/
def plant : State :=
  { State.reset with
    branches := [(1, { Branch.cold with defined := true, station := true, installedTaps := 1 })]
    taps := [(1, { Tap.cold with
      installed := true, branch := some 1, reach := .reachable, heldRev := some 1,
      reported := ⟨some 3, some 0, some 0, some 0⟩ })]
    subs :=
      [(1, { Subscriber.cold with
          status := .active, tap := some 1, port := some 1, w := 3, c := 3,
          purchases := [⟨1, 0, 0, 0, .unsettled, none⟩], counters := [(0, ⟨2, 0, 1⟩)] }),
       (2, { Subscriber.cold with status := .removed, tap := some 1, port := some 2 })]
    events :=
      [(1, { Event.cold with
          state := .scheduled, slot := some 7, start := some 100, duration := some 30,
          ends := some 130, price := some 500, buyers := 1 }),
       (2, { Event.cold with
          state := .showing, slot := some 7, start := some 10, duration := some 20,
          ends := some 30, price := some 700, shown := 1 })]
    slots :=
      [(3, { Slot.cold with
          source := some 5, sponsors := ⟨true, false, false⟩, owed := true, aim := .full,
          aimLevel := 400, carrierOn := true, level := some 395, ramp := .ramping,
          stepTimer := some 50 }),
       (7, { Slot.cold with tier := 7 })]
    watches := [(1, { Watch.cold with
      state := .watching, lastGood := some 0, due := some 225000, deadline := some 300000 })]
    billing := { State.reset.billing with clock := 11, m := 2 } }

/-- `plant` with both enables ON. -/
def live : State :=
  { plant with engine := { plant.engine with carrierOn := true, returnOn := true } }

theorem plant_tables : TablesSound plant := by unfold TablesSound; decide

/-- A port write leaves the tables. -/
theorem asking_tables (p : Master) (k : Nat) (b : List Byte) {s : State} (h : TablesSound s) :
    TablesSound (asking p k b s) := by cases p <;> exact h

/-! ### Ill-formed commands (log 8) -/

theorem test_wf_source_refused : WellFormed (.sourcePresenceLineChange 0 true) = false
    ∧ WellFormed (.sourceQualificationExpiry 25) = false
    ∧ stops (exec (.sourcePresenceLineChange 0 true) plant) .noSuchSource = true
    ∧ stops (exec (.sourceQualificationExpiry 25) plant) .noSuchSource = true := by decide
theorem test_wf_slot_refused : WellFormed (.stepTimerExpiry 0) = false
    ∧ WellFormed (.stepTimerExpiry 41) = false
    ∧ stops (exec (.stepTimerExpiry 41) plant) .noSuchSlot = true := by decide
theorem test_wf_branch_refused : WellFormed (.pollDueTime 0) = false
    ∧ WellFormed (.stationDeadline 65) = false ∧ WellFormed (.recoveryDueTime 65) = false
    ∧ stops (exec (.pollDueTime 0) plant) .noSuchBranch = true
    ∧ stops (exec (.stationDeadline 65) plant) .noSuchBranch = true
    ∧ stops (exec (.recoveryDueTime 65) plant) .noSuchBranch = true := by decide
theorem test_wf_frame_refused :
    let short := sampled [3, 1, 0, 1, 3, 2, 9]
    let whole := sampled [3, 1, 0, 1, 3, 0, 9]
    WellFormed (.frameReceived short (stopsOf 7)) = false
    ∧ stops (exec (.frameReceived short (stopsOf 7)) plant) .incompleteFrame = true
    ∧ WellFormed (.frameReceived whole (stopsOf 7)) = true
    ∧ WellFormed (.frameReceived whole (stopsOf 6)) = false := by decide +kernel
theorem test_wf_body_refused : WellFormed (.messageReceived .office 1 0 (List.replicate 197 0)) = false
    ∧ stops (exec (.messageReceived .office 1 0 (List.replicate 197 0)) plant) .messageTooLong
      = true := by decide +kernel

/-! ### Worked values of the spec -/

/-- The check value of the CRC-16 of R168 over the nine digits "123456789", 29B1 in base 16. -/
theorem test_crc16_check_value :
    crc16 [0x31, 0x32, 0x33, 0x34, 0x35, 0x36, 0x37, 0x38, 0x39] = 0x29B1#16 := by decide +kernel
/-- The check value of the 8-bit check of R72 over the same digits, F4 in base 16 (its bit order: log 44). -/
theorem test_crc8_check_value :
    crc8 [0x31, 0x32, 0x33, 0x34, 0x35, 0x36, 0x37, 0x38, 0x39] = 0xF4#8 := by decide +kernel
/-- R11's table: targets and floors on a record of target 400 and floor 300. -/
theorem test_slot_clamps :
    let r := fun (a : SlotArgs) => ((Slot.cold.withArgs a).target, (Slot.cold.withArgs a).floorLevel,
      (Slot.cold.withArgs a).period)
    let a : SlotArgs := ⟨1, none, none, none, none, none, none, none, none⟩
    r { a with target := some 650, floorLevel := some 200 } = (600, 200, 5)
      ∧ r { a with target := some 250 } = (250, 250, 5)
      ∧ r { a with floorLevel := some 90 } = (400, 100, 5)
      ∧ r { a with floorLevel := some 450 } = (400, 400, 5)
      ∧ r { a with target := some 80, floorLevel := some 120 } = (100, 100, 5)
      ∧ r { a with period := some 0 } = (400, 300, 1)
      ∧ r { a with period := some 40 } = (400, 300, 31) := by decide
/-- R111's table, on tolerance 30 and hysteresis 10. -/
theorem test_monitor_clamps :
    let r := fun (a : MonitorArgs) =>
      let m := State.reset.monitor.withArgs a
      (m.tolerance, m.hysteresis, m.persistence)
    let a : MonitorArgs := ⟨none, none, none, none, none⟩
    r { a with tolerance := some 5 } = (10, 10, 3)
      ∧ r { a with tolerance := some 8, hysteresis := some 12 } = (10, 10, 3)
      ∧ r { a with tolerance := some 150, hysteresis := some 40 } = (100, 40, 3)
      ∧ r { a with hysteresis := some 45 } = (30, 30, 3)
      ∧ r { a with persistence := some 0 } = (30, 10, 1)
      ∧ r { a with persistence := some 12 } = (30, 10, 8) := by decide
/-- R114's table. -/
theorem test_measured_levels :
    [640, 1023, 584, 160, 159, 0].map (Resolution.measure .fine) = [400, 639, 365, 100, 99, 0]
      ∧ [160, 255, 40, 39].map (Resolution.measure .coarse) = [400, 637, 100, 97] := by decide
/-- R165's example: rate 3, M 4, S 4 and K 2 give a charge of 2 and a credit of 2. -/
theorem test_statement_example : cents 3 (4 - 2) 4 = 2 ∧ cents 3 2 4 = 2 ∧ cents 3 4 4 = 3 := by decide
/-- R125's examples of tap loss. -/
theorem test_branch_out_by_tap_loss :
    let out := fun i u => ({ Branch.cold with
      defined := true, installedTaps := i, unreachableTaps := u } : Branch).isOut
    out 6 3 = true ∧ out 6 2 = false ∧ out 3 2 = true ∧ out 1 1 = false := by decide
/-- R84's example: SYNC is granted with SYNC and SURVEY ready, and moves to the end. -/
theorem test_rotating_example :
    (({ mode := .rotating, order := fixedOrder } : Arbiter).granted .sync).order
      = [.broadcast, .technician, .survey, .sync] := by decide
/-- R105's example: taps 3, 8, 12 and 20 installed, tap 12 QUEUED, the cursor at 8. -/
theorem test_audit_order :
    let t := fun v => ({ Tap.cold with installed := true, sync := v } : Tap)
    let s : State := { State.reset with taps := [(3, t .inStep), (8, t .inStep), (12, t .queued), (20, t .inStep)] }
    ({ s with survey := { s.survey with cursor := 8 } } : State).chooseAudit = some 20
      ∧ ({ s with survey := { s.survey with cursor := 20 } } : State).chooseAudit = some 3 := by decide
/-- R176, R34: a cold start from the state right after reset with the same lines sends its notices and outputs
again, and leaves the state right after reset. -/
theorem test_cold_start_is_reset :
    let low : Straps := ⟨⟨false, false⟩, ⟨false, false⟩, ⟨false, false⟩⟩
    ({ coldStart low State.reset with out := State.reset.out } : State) = State.reset := by decide +kernel
/-- R8, R76, R64: after a cold start the first CARRIER ON is followed by a MAP LOAD of revision 1 to ALL TAPS. -/
theorem test_first_grant_is_map_load :
    answers (exec (.carrierOn .technician) (asking .technician 18 [] State.reset)) (fun t =>
      decide (t.ident.coldStarted = false) && decide (t.engine.state = .sending)
        && decide (t.broadcast.revisionSent = 1)
        && decide (t.out.carrier.map List.length = [5, 45])) = true := by decide +kernel
/-- R174, R177: IDENTIFY after a cold start. -/
theorem test_identify :
    answers (exec (.identify .office) (asking .office 36 [] plant)) (fun t =>
      decide (lastAnswer .office t = [0, 4, 23, 1, 60, 3, 0, 0, 0])) = true := by decide +kernel
/-- R41: the lowest FREE record is 3; the port's mask is known and empty; the tap is in step until W asks for
tier 0. -/
theorem test_subscriber_add :
    answers (exec (.subscriberAdd .office) (asking .office 1 [0, 0, 1, 3, 1] plant)) (fun t =>
      decide (lastAnswer .office t = [0, 0, 3, 1, 0, 1]) && decide (t.syncSet = [1])) = true := by
  decide +kernel
/-- R156, R150: event 2 may be bought while fewer than half of its 20 minutes have passed. -/
theorem test_purchase_while_showing :
    answers (exec (.purchase .office) (asking .office 4 [0, 1, 2] plant)) (fun t =>
      decide (((t.sub 1).purchases.map Purchase.event) = [2, 1]) && decide ((t.event 2).buyers = 1)
        && decide ((t.tap 1).sync = .queued)) = true := by decide +kernel
/-- R27: a slot at 395 with aim level 400 reaches it in one step and is STEADY. -/
theorem test_ramp_reaches_target :
    answers (exec (.stepTimerExpiry 3) plant) (fun t =>
      decide ((t.slot 3).level = some 400) && decide ((t.slot 3).ramp = .steady)
        && decide (t.now = 50)) = true := by decide +kernel
/-- R15, R28: the withdrawal of the last sponsor gives aim NONE at level 100; the carrier ramps down. -/
theorem test_withdraw_last_sponsor :
    answers (exec (.withdraw .office) (asking .office 33 [3] plant)) (fun t =>
      decide ((t.slot 3).aim = .off) && decide ((t.slot 3).aimLevel = 100)
        && decide ((t.slot 3).carrierOn = true)
        && decide (lastAnswer .office t = [0, 0, 0])) = true := by decide +kernel
/-- R145: subscriber 1 has tiers 0 and 1 in B and no episode open: one more service minute each, and the
provisional minute is dropped. -/
theorem test_sweep_visit :
    answers (exec .sweepVisit
        { plant with billing := { plant.billing with sweep := some ⟨1, none⟩ } }) (fun t =>
      decide ((t.sub 1).counters = [(0, ⟨3, 0, 0⟩), (1, ⟨1, 0, 0⟩)])) = true := by decide +kernel
/-- R162: with no sweep in flight the close answers cycle 1, M 2, two entries and the new cycle 2. -/
theorem test_cycle_close :
    answers (exec (.cycleClose .office) (asking .office 9 [] plant)) (fun t =>
      decide (lastAnswer .office t = [0, 0, 1, 0, 2, 0, 2, 0, 2])
        && decide ((t.sub 2).status = .free) && decide (t.billing.m = 0)) = true := by decide +kernel
/-- R158: the cancellation of the SCHEDULED event takes its entry from subscriber 1's list. -/
theorem test_event_cancel :
    answers (exec (.eventCancel .schedule) (asking .schedule 31 [1] plant)) (fun t =>
      decide ((t.sub 1).purchases = []) && decide ((t.event 1).state = .cancelled)
        && decide ((t.event 1).buyers = 0)) = true := by decide +kernel
/-- R124, R125: a forced branch is OUT and affected, and its episode opens. -/
theorem test_branch_force :
    answers (exec (.branchForce .technician) (asking .technician 16 [1] plant)) (fun t =>
      decide (lastAnswer .technician t = [0, 1, 1, 1])
        && decide ((t.branchEpisode 1) = ⟨true, some 11, 0⟩)) = true := by decide +kernel
/-- R89: two queries get numbers 1 and 2. -/
theorem test_query_numbers :
    answers (exec (.tapQuery .technician) (asking .technician 23 [0, 5]
        { plant with techQ := { plant.techQ with waiting := [⟨1, .stationQuery, 3, []⟩], nextNumber := 2 } }))
      (fun t => decide (lastAnswer .technician t = [1, 2, 2])
        && decide (t.techQ.nextNumber = 3)) = true := by decide +kernel
/-- The model's choice (log 1): on an empty queue 1 ms passes, and the survey clock counts it while the return is ON. -/
theorem test_idle_step_passes_time :
    answers (step live) (fun t => decide (t.now = 1) && decide (t.survey.clock = 1)) = true
      ∧ answers (step plant) (fun t => decide (t.now = 1) && decide (t.survey.clock = 0)) = true := by
  decide +kernel

/-- R71, R72, R177: a frame in reception whose symbols have one wrong sample each is INTACT, and waits in the buffer. -/
theorem test_majority_of_samples :
    let f := withCrc8 [3, 1, 0, 1, 3, 1, 9]
    let s : State := { live with engine := { live.engine with state := .awaiting, inFrame := true } }
    answers (exec (.frameReceived (sampled f) (stopsOf 8)) s) (fun t =>
      decide (t.engine.buffer = [⟨f, .intact, false⟩]) && decide (t.engine.inFrame = false)) = true := by
  decide +kernel
/-- R75: the eighth frame of a minute posts RETURN_NOISE as raised though the condition is active already. -/
theorem test_eighth_frame_raises :
    let s := countNoise { live with engine := { live.engine with noiseCount := 7, noiseActive := true } }
    s.engine.noiseCount = 8 ∧ (s.alarm .returnNoise 0).isSome = true ∧
      (countNoise { live with engine := { live.engine with noiseCount := 8 } }).alarm .returnNoise 0 = none := by
  decide +kernel
/-- R56: a mask taken away while its port set was in flight puts a tap that answers otherwise back in the sync set. -/
theorem test_change_in_flight_then_mismatch :
    let s : State := { plant with taps := [(1, { plant.tap 1 with
      sync := .inFlight, lastSent := some ⟨⟨7, 0, 0, 0⟩, 1⟩ })] }
    let t := portSetAnswered 1 ⟨7, 0, 0, 0⟩ none ⟨1, 0, 0, 0⟩ 1 false s
    (t.tap 1).sync = .queued ∧ t.syncSet = [1] ∧ (t.sub 1).c = 1 := by decide +kernel

/-- R62, R177: an answer or a notice gives the supply STANDBY as 1, an open door as 0 and the level 345 in two bytes, where
the reply frame gives an open door as 1. -/
theorem test_station_status_codes :
    StationReport.wire ⟨.standby, true, 345⟩ = [1, 0, 1, 89] ∧
    StationReport.wire ⟨.failed, false, 0⟩ = [2, 1, 0, 0] := by decide

/-! ### Witnesses: hypotheses that the statements' premises can meet -/

/-- Where only the records with key `k₀` satisfy `P`, whatever record satisfies it is that one. -/
theorem only_record {α : Type} {P : α → Prop} (d : α) (t : Table α) (k₀ : Nat) (hd : ¬ P d)
    (ht : ∀ e ∈ t, P e.2 → e.1 = k₀) (k : Nat) (h : P (tabGet d t k)) : k = k₀ := by
  induction t with
  | nil => exact absurd h hd
  | cons e t ih =>
    unfold tabGet at h
    split at h
    · next he => exact he ▸ ht e (by simp) h
    · exact ih (fun x hx => ht x (by simp [hx])) h

/-- A record that differs from the cold one is listed. -/
theorem listed_record {α : Type} {P : α → Prop} (d : α) (t : Table α) (hd : ¬ P d) (k : Nat)
    (h : P (tabGet d t k)) : k ∈ t.map Prod.fst := by
  induction t with
  | nil => exact absurd h hd
  | cons e t ih =>
    unfold tabGet at h
    split at h
    · next he => simp [he]
    · exact List.mem_cons_of_mem _ (ih h)

theorem witness_step_runs_the_front_command :
    (∃ t, exec (.messageSent .office) plant = .next t) ∧
    WellFormed (.sourceQualificationExpiry 24) = true ∧ WellFormed (.sourceQualificationExpiry 25) = false :=
  ⟨⟨_, rfl⟩, by decide, by decide⟩

theorem witness_survey_clock_holds :
    plant.engine.returnOn = false ∧ (∃ t, exec (.messageSent .office) plant = .next t) ∧
    (∀ b, (.messageSent .office : Instr) ≠ .restartLine false b) ∧
    ∃ t, exec (.restartLine false ⟨⟨true, true⟩, ⟨true, true⟩, ⟨true, true⟩⟩) plant = .next t :=
  ⟨rfl, ⟨_, rfl⟩, by simp, ⟨_, rfl⟩⟩

theorem witness_whole_frame :
    (plant.port .office).rx = .hunting ∧ (⟨36, 9, List.replicate 196 0⟩ : Msg).body.length ≤ 196 ∧
    ([0, 0] : List Byte) ≠ u16 (crc16 (⟨36, 9, []⟩ : Msg).checkedPart).toNat := by decide +kernel

theorem witness_receiver_takes_bytes :
    let p := fun (r : Receiver) (t : Option Nat) => plant.setPort .technician { plant.port .technician with rx := r, byteTimer := t }
    ((p .hunting none).port .technician).rx = .hunting ∧
    ((p .awaitLength none).port .technician).rx = .awaitLength ∧
    (4 ≤ (4 : Byte).toNat ∧ (200 : Byte).toNat ≤ 200 ∧ ¬ (201 : Byte).toNat ≤ 200) ∧
    ((p (.collecting 4 [1, 2]) none).port .technician).rx = .collecting 4 [1, 2] ∧ [1, 2].length + 1 < 4 ∧
    ((p .awaitLength (some 0)).port .technician).byteTimer = some 0 ∧
    (p .awaitLength (some 0)).now = 0 ∧
    (({ p .awaitLength (some 5) with now := 6 } : State).port .technician).byteTimer = some 5 ∧
    (plant.port .technician).byteTimer = none := by decide

theorem witness_port_queue_rules :
    (⟨3, 9, List.replicate 196 0⟩ : Msg).body.length ≤ 196 ∧
    ((plant.setPort .schedule { plant.port .schedule with
      outQ := [⟨128, 1, [0, 1, 0]⟩] }).port .schedule).outQ = ⟨128, 1, [0, 1, 0]⟩ :: [] := by decide +kernel

theorem witness_requests_are_checked :
    (Asks (asking .office 46 [] plant) .office 46 (request 46 []) ∧ 46 ≤ 46) ∧
    (Asks (asking .office 0 [] plant) .office 0 (request 0 []) ∧ 0 = 0) ∧
    (requestRow (.subscriberAdd .technician) = some (.technician, 1) ∧
      Asks (asking .technician 1 [] plant) .technician 1 (request 1 []) ∧ permits 1 .technician = false) ∧
    (requestRow (.subscriberRemove .office) = some (.office, 3) ∧
      Asks (asking .office 3 [1] plant) .office 3 (request 3 [1]) ∧ permits 3 .office = true ∧
      fixedLength 3 = some 2 ∧ (request 3 [1]).body.length ≠ 2) ∧
    (requestRow (.identify .office) = some (.office, 36) ∧ ∀ m, ¬ Asks plant .office 36 m) := by
  refine ⟨⟨asks_asking _ _ _ _ (by decide), by decide⟩, ⟨asks_asking _ _ _ _ (by decide), rfl⟩,
    ⟨rfl, asks_asking _ _ _ _ (by decide), rfl⟩, ⟨rfl, asks_asking _ _ _ _ (by decide), rfl, rfl, by decide⟩, rfl, ?_⟩
  rintro m ⟨⟨-, -, h⟩, -⟩
  cases h

/-- Requests whose bodies have not the form of their kind: a presence bit beyond the list, remove with a parent, a choice of
2, a token too long, a class bit beyond the list, and a rate that ends early. -/
theorem witness_bodies_without_form :
    (Asks (asking .office 1 [2, 0, 1, 1, 0] plant) .office 1 (request 1 [2, 0, 1, 1, 0]) ∧
      permits 1 .office = true ∧ ¬ FitsForm 1 [2, 0, 1, 1, 0]) ∧
    (permits 7 .office = true ∧ ¬ FitsForm 7 [1, 0, 0, 0]) ∧
    (permits 15 .technician = true ∧ ¬ FitsForm 15 [5, 3, 4] ∧ ¬ FitsForm 15 [5, 4, 2]) ∧
    (permits 22 .technician = true ∧ ¬ FitsForm 22 [16, 2]) ∧
    (permits 24 .technician = true ∧ ¬ FitsForm 24 [0, 1] ∧ FitsForm 24 [0, 1, 0]) ∧
    (permits 26 .technician = true ∧ ¬ FitsForm 26 [1, 2]) ∧
    (permits 29 .schedule = true ∧ ¬ FitsForm 29 [1, 128, 2]) ∧
    (permits 34 .schedule = true ∧ ¬ FitsForm 34 [8]) := by
  refine ⟨⟨asks_asking _ _ _ _ (by decide), rfl, ?_⟩, ⟨rfl, ?_⟩, ⟨rfl, ?_, ?_⟩, ⟨rfl, ?_⟩, ⟨rfl, by simp [FitsForm], by simp [FitsForm]⟩,
    ⟨rfl, ?_⟩, ⟨rfl, ?_⟩, ⟨rfl, ?_⟩⟩
  · rintro ⟨⟨_ | n, tap, port, w⟩, h⟩ <;> simp [addBody, presenceBits, u8] at h
  · rintro ⟨l, hl, h⟩
    have size : ∀ l : List (Option Nat), l.flatMap (given u32) = [0, 0, 0] → False := fun l h => by
      have := congrArg List.length h
      have four : ∀ x, (given u32 x).length = 4 * (if x.isSome then 1 else 0) := by intro x; cases x <;> rfl
      simp only [List.length_flatMap, four] at this
      have even : ∀ l : List (Option Nat), (l.map fun x => 4 * (if x.isSome then 1 else 0)).sum % 4 = 0 := by
        intro l; induction l with
        | nil => rfl
        | cons x l ih => simp only [List.map_cons, List.sum_cons]; omega
      have := even l
      simp_all
    exact size l (by simpa [ratesBody, u8] using (List.cons.inj h).2.symm)
  · rintro ⟨⟨n, _ | _, _ | _, _ | _, _ | _⟩, h, k⟩ <;> simp [branchBody, presenceBits, given, u8] at h k
  · rintro ⟨⟨n, _ | _, _ | _, _ | (_ | _), _ | _⟩, h, k⟩ <;>
      simp [branchBody, presenceBits, given, u8, yesNo] at h
  · rintro ⟨⟨_ | _, _ | _, _ | _, _ | _, _ | (_ | _)⟩, h⟩ <;>
      simp [linkBody, presenceBits, given, u8, ArbMode.code] at h
  · rintro ⟨⟨_ | (_ | _), _ | _, _ | _, _ | _, _ | _⟩, h⟩ <;> simp [monitorBody, presenceBits, given, u8, yesNo] at h
  · rintro ⟨⟨n, _ | _, _ | _, _ | _, _ | _, _ | _, _ | _, _ | _, _ | (_ | _)⟩, h⟩ <;>
      simp [slotBody, presenceBits, given, u8, WarmBehaviour.code] at h
  · rintro ⟨⟨_ | _, _ | _, _ | _⟩, h⟩ <;> exact absurd h (by decide)

theorem witness_refused_request :
    let s := asking .office 35 [0, 0] plant
    let m := request 35 [0, 0]
    let t := afterAnswer .office m (refuse .outOfRange) s
    requestRow (.alarmAck .office) = some (.office, 35) ∧ Asks s .office 35 m ∧
    exec (.alarmAck .office) s = .next t ∧ (t.port .office).inProgress = none ∧
    (t.port .office).outQ.getLast? = some (answerMsg m false (refuse .outOfRange)) ∧
    (refuse .outOfRange).code ≠ .done ∧ (refuse .outOfRange).code ≠ .accepted :=
  ⟨rfl, asks_asking _ _ _ _ (by decide), rfl, rfl, rfl, by decide, by decide⟩

theorem witness_request_bodies :
    (255 < 256 ∧ 65535 < 65536 ∧ 4294967295 < 4294967296) ∧
    (1 ≤ ([5] : List Byte).length ∧ (List.replicate 8 (5 : Byte)).length ≤ 8) ∧
    (fits 65536 (some 65535) ∧ fits 65536 none ∧ fits 256 (some 255) ∧ fits 256 none) ∧
    ([some 4294967295, none, none, none, none, none, none, some 0] : List (Option Nat)).length = 8 ∧
    ∀ r ∈ ([some 4294967295, none, none, none, none, none, none, some 0] : List (Option Nat)),
      fits 4294967296 r := by
  simp [fits]

theorem witness_reads :
    let asks := fun (k : Nat) (b : List Byte) => Asks (asking .schedule k b plant) .schedule k (request k b)
    (asks 36 [] ∧ asks 44 [] ∧ asks 45 []) ∧
    (asks 37 [40] ∧ parse8 [40] = some 40) ∧ (asks 37 [0] ∧ parse8 [0] = some 0) ∧
    (asks 38 [8, 1] ∧ parse16 [8, 1] = some 2049 ∧ ¬ (1 ≤ 2049 ∧ 2049 ≤ 2048)) ∧
    (asks 38 [0, 1] ∧ parse16 [0, 1] = some 1 ∧ ((asking .schedule 38 [0, 1] plant).sub 1).tap = some 1) ∧
    (asks 38 [8, 0] ∧ parse16 [8, 0] = some 2048 ∧
      ((asking .schedule 38 [8, 0] plant).sub 2048).tap = none) ∧
    (asks 39 [2, 0] ∧ parse16 [2, 0] = some 512) ∧ (asks 40 [64] ∧ parse8 [64] = some 64) ∧
    (asks 41 [65] ∧ parse8 [65] = some 65) ∧ (asks 42 [16] ∧ parse8 [16] = some 16) ∧
    (asks 43 [1] ∧ parse8 [1] = some 1) ∧
    (Asks (asking .office 10 [8, 0] plant) .office 10 (request 10 [8, 0]) ∧
      parse16 [8, 0] = some 2048) := by
  unfold Asks Waits; dsimp only; constructorm* _ ∧ _ <;> decide +kernel

theorem witness_statement_arithmetic :
    let x : Snapshot := ⟨1, 4, [(0, 3), (6, 99999)], []⟩
    let e : SnapshotEntry := ⟨1, .active, some 1, some 1, [(0, ⟨4, 2, 0⟩), (6, ⟨4, 0, 0⟩)],
      List.replicate 4 ⟨1, 9999, .charged, 9999⟩⟩
    x.m ≠ 0 ∧ ({ x with m := 0 } : Snapshot).m = 0 ∧ x.m ≤ 65535 ∧
    (∀ t, (tabGet .cold e.counters t).k ≤ (tabGet .cold e.counters t).s ∧
      (tabGet .cold e.counters t).s ≤ x.m ∧ tabGet 0 x.rates t ≤ 99999) ∧
    e.lines.length ≤ 4 ∧ ∀ l ∈ e.lines, l.charge ≤ 9999 := by
  refine ⟨by decide, by decide, by decide, fun t => ⟨?_, ?_, ?_⟩, by decide, by decide⟩
  · exact every_record (P := fun c : TierCount => c.k ≤ c.s) _ _ (by decide) (by decide) t
  · exact every_record (P := fun c : TierCount => c.s ≤ 4) _ _ (by decide) (by decide) t
  · exact every_record (P := fun r : Nat => r ≤ 99999) _ _ (by decide) (by decide) t

theorem witness_subscriber_add :
    let s := fun b => asking .office 1 b plant
    let lowest : List Byte := [0, 2, 0, 4, 127]
    let given : List Byte := [1, 8, 0, 0, 1, 2, 0]
    (Asks (s lowest) .office 1 (request 1 lowest) ∧ parseAdd lowest = some ⟨none, 512, 4, 127⟩ ∧
      ∀ k, 1 ≤ k → k < 3 → ((s lowest).sub k).status ≠ .free) ∧
    (Asks (s given) .office 1 (request 1 given) ∧ parseAdd given = some ⟨some 2048, 1, 2, 0⟩ ∧
      TablesSound (s given) ∧ (1 ≤ 2048 ∧ 2048 ≤ 2048) ∧ (1 ≤ 1 ∧ 1 ≤ 512) ∧ (1 ≤ 2 ∧ 2 ≤ 4) ∧
      hasTier 0 7 = false ∧ ((s given).tap 1).installed = true ∧
      (∀ k, ((s given).sub k).status = .active →
        ¬ (((s given).sub k).tap = some 1 ∧ ((s given).sub k).port = some 2)) ∧
      ((s given).sub 2048).status = .free) := by
  refine ⟨⟨asks_asking _ _ _ _ (by decide), by decide, fun k h1 h2 => ?_⟩, asks_asking _ _ _ _ (by decide), by decide,
    asking_tables _ _ _ plant_tables, by decide, by decide, by decide, by decide, by decide, fun k => ?_,
    by decide⟩
  · obtain rfl | rfl : k = 1 ∨ k = 2 := by omega
    · decide
    · decide
  · exact every_record (P := fun r : Subscriber => r.status = .active → ¬ (r.tap = some 1 ∧ r.port = some 2))
      _ plant.subs (by decide) (by decide) k

theorem witness_subscriber_change_and_remove :
    let change := asking .office 2 [0, 1, 127] plant
    let remove := asking .office 3 [0, 1] plant
    (TablesSound change ∧ (1 ≤ 1 ∧ 1 ≤ 2048) ∧ (change.sub 1).status = .active ∧
      Asks change .office 2 (request 2 [0, 1, 127]) ∧ parseChange [0, 1, 127] = some (1, 127) ∧
      hasTier 127 7 = false ∧ (change.sub 1).tap = some 1) ∧
    (TablesSound remove ∧ (remove.sub 1).status = .active ∧ Asks remove .office 3 (request 3 [0, 1]) ∧
      parse16 [0, 1] = some 1 ∧ ((remove.sub 1).purchases.map Purchase.event).Nodup) := by
  unfold Asks Waits TablesSound; decide +kernel

theorem witness_purchase_and_cancel :
    let showing := asking .office 4 [0, 1, 2] plant
    let cancel := asking .office 5 [0, 1, 1] plant
    let scheduled := asking .office 4 [0, 1, 1] { plant with
      subs := [(1, { plant.sub 1 with purchases := [] })] }
    (Asks scheduled .office 4 (request 4 [0, 1, 1]) ∧ TablesSound scheduled ∧ (scheduled.sub 1).status = .active ∧
      (scheduled.sub 1).purchases = [] ∧ (scheduled.event 1).state = .scheduled) ∧
    (parse16x8 [0, 1, 2] = some (1, 2) ∧ TablesSound showing ∧ (1 ≤ 1 ∧ 1 ≤ 2048) ∧ (1 ≤ 2 ∧ 2 ≤ 16) ∧
      Asks showing .office 4 (request 4 [0, 1, 2]) ∧ (showing.sub 1).status = .active ∧
      (showing.sub 1).purchases.length < 4 ∧ (∀ p ∈ (showing.sub 1).purchases, p.event ≠ 2) ∧
      (showing.event 2).state = .showing ∧
      (showing.billing.clock - showing.startOf 2) * 2 < (showing.event 2).duration.getD 0) ∧
    (parse16x8 [0, 1, 1] = some (1, 1) ∧ TablesSound cancel ∧ Asks cancel .office 5 (request 5 [0, 1, 1]) ∧
      (cancel.event 1).state = .scheduled ∧ ∃ p ∈ (cancel.sub 1).purchases, p.event = 1) := by
  unfold Asks Waits TablesSound; dsimp only; constructorm* _ ∧ _ <;> decide +kernel

theorem witness_clock_set :
    let s := asking .office 6 [0, 0, 0, 30] plant
    Asks s .office 6 (request 6 [0, 0, 0, 30]) ∧ parse32 [0, 0, 0, 30] = some 30 ∧ TablesSound s ∧
    ∀ e k, (s.event e).state = .showing → (s.event k).state = .showing → e = k := by
  have one : ∀ e, (plant.event e).state = .showing → e = 2 := fun e =>
    only_record (P := fun r : Event => r.state = .showing) _ plant.events 2 (by decide) (by decide) e
  refine ⟨asks_asking _ _ _ _ (by decide), by decide, asking_tables _ _ _ plant_tables, fun e k he hk => ?_⟩
  rw [one e he, one k hk]

theorem witness_rates_and_threshold :
    (Asks (asking .office 7 [128, 0, 0, 0, 1] plant) .office 7 (request 7 [128, 0, 0, 0, 1]) ∧
      parseRates [128, 0, 0, 0, 1] = some [(7, 1)] ∧ ∃ e ∈ [(7, 1)], e.1 = 7) ∧
    (Asks (asking .office 7 [65, 0, 0, 0, 1, 0, 1, 134, 160] plant) .office 7
        (request 7 [65, 0, 0, 0, 1, 0, 1, 134, 160]) ∧
      parseRates [65, 0, 0, 0, 1, 0, 1, 134, 160] = some [(0, 1), (6, 100000)] ∧
      (∀ e ∈ [(0, 1), (6, 100000)], e.1 ≠ 7) ∧ tabWf 0 plant.billing.rates = true) ∧
    (Asks (asking .office 8 [241] plant) .office 8 (request 8 [241]) ∧ parse8 [241] = some 241) := by
  unfold Asks Waits; constructorm* _ ∧ _ <;> decide +kernel

theorem witness_cycle_close :
    let s := asking .office 9 [] plant
    let u := asking .office 9 [] { plant with billing := { plant.billing with sweep := some ⟨1, none⟩ } }
    (Asks s .office 9 (request 9 []) ∧ s.billing.sweep = none) ∧
    (Asks u .office 9 (request 9 []) ∧ u.billing.sweep = some ⟨1, none⟩) := by
  unfold Asks Waits; dsimp only; constructorm* _ ∧ _ <;> decide +kernel

theorem witness_close_snapshots :
    TablesSound plant ∧ (plant.sub 2).status ≠ .free ∧ tabWf .cold (plant.sub 2).counters = true :=
  ⟨plant_tables, by decide, by decide⟩

/-- A settled purchase of event 2 and an unsettled one: the snapshot has the line of the first alone. -/
theorem test_snapshot_lines :
    let s : State := { plant with subs := [(9, { Subscriber.cold with
      status := .active, tap := some 1, port := some 1
      purchases := [⟨2, 9, 4, 0, .charged, some 311⟩, ⟨1, 0, 0, 0, .unsettled, none⟩] })] }
    s.takeSnapshot.entries.map SnapshotEntry.lines = [[⟨2, 700, .charged, 311⟩]] := by decide +kernel

/-- Every record REMOVED: none is FREE. -/
def fullHouse : State :=
  { plant with subs := (List.range' 1 2048).map fun n => (n, { Subscriber.cold with status := .removed }) }

theorem fullHouse_not_free (n : Nat) (h1 : 1 ≤ n) (h2 : n ≤ 2048) : (fullHouse.sub n).status ≠ .free := by
  have find : ∀ l : List Nat, n ∈ l →
      tabGet .cold (l.map fun k => (k, { Subscriber.cold with status := .removed })) n
        = { Subscriber.cold with status := .removed } := by
    intro l h
    induction l with
    | nil => cases h
    | cons k l ih =>
      simp only [List.map_cons, tabGet]
      split
      · rfl
      · next he => exact ih ((List.mem_cons.1 h).resolve_left fun e => he e.symm)
  have : fullHouse.sub n = { Subscriber.cold with status := .removed } :=
    find _ (List.mem_range'_1.2 ⟨h1, by omega⟩)
  rw [this]
  decide

theorem witness_office_refusals_add :
    let asks := fun (b : List Byte) => Asks (asking .office 1 b plant) .office 1 (request 1 b)
    (asks [1, 8, 1, 0, 1, 1, 0] ∧ parseAdd [1, 8, 1, 0, 1, 1, 0] = some ⟨some 2049, 1, 1, 0⟩ ∧
      ∃ n, some 2049 = some n ∧ ¬ (1 ≤ n ∧ n ≤ 2048)) ∧
    (asks [0, 2, 1, 5, 128] ∧ parseAdd [0, 2, 1, 5, 128] = some ⟨none, 513, 5, 128⟩ ∧
      ¬ (1 ≤ 513 ∧ 513 ≤ 512) ∧ ¬ (1 ≤ 5 ∧ 5 ≤ 4) ∧ hasTier 128 7 = true) ∧
    (asks [0, 2, 0, 4, 0] ∧ parseAdd [0, 2, 0, 4, 0] = some ⟨none, 512, 4, 0⟩ ∧
      ¬ ((∃ n, (none : Option Nat) = some n ∧ ¬ (1 ≤ n ∧ n ≤ 2048)) ∨ ¬ (1 ≤ 512 ∧ 512 ≤ 512)
        ∨ ¬ (1 ≤ 4 ∧ 4 ≤ 4) ∨ hasTier 0 7 = true) ∧
      ((asking .office 1 [0, 2, 0, 4, 0] plant).tap 512).installed = false) ∧
    (asks [0, 0, 1, 1, 0] ∧ parseAdd [0, 0, 1, 1, 0] = some ⟨none, 1, 1, 0⟩ ∧
      ((asking .office 1 [0, 0, 1, 1, 0] plant).tap 1).installed = true ∧
      ((asking .office 1 [0, 0, 1, 1, 0] plant).claimant 1 1).isSome = true) ∧
    (asks [1, 0, 2, 0, 1, 3, 0] ∧ parseAdd [1, 0, 2, 0, 1, 3, 0] = some ⟨some 2, 1, 3, 0⟩ ∧
      ((asking .office 1 [1, 0, 2, 0, 1, 3, 0] plant).claimant 1 3) = none ∧
      ((asking .office 1 [1, 0, 2, 0, 1, 3, 0] plant).sub 2).status ≠ .free) := by
  refine ⟨⟨asks_asking _ _ _ _ (by decide), by decide, 2049, rfl, by decide⟩,
    ⟨asks_asking _ _ _ _ (by decide), by decide, by decide, by decide, by decide⟩,
    ⟨asks_asking _ _ _ _ (by decide), by decide, ?_, by decide⟩,
    ⟨asks_asking _ _ _ _ (by decide), by decide, by decide, by decide⟩,
    ⟨asks_asking _ _ _ _ (by decide), by decide, by decide, by decide⟩⟩
  simp [hasTier]

theorem witness_office_refusals_full :
    let s := asking .office 1 [0, 0, 1, 3, 0] fullHouse
    Asks s .office 1 (request 1 [0, 0, 1, 3, 0]) ∧ parseAdd [0, 0, 1, 3, 0] = some ⟨none, 1, 3, 0⟩ ∧
    (s.tap 1).installed = true ∧ s.claimant 1 3 = none ∧
    ∀ n, 1 ≤ n → n ≤ 2048 → (s.sub n).status ≠ .free :=
  ⟨asks_asking _ _ _ _ (by decide), by decide, by decide, by decide +kernel, fullHouse_not_free⟩

/-- `plant` with event 3 ENDED, the clock past the middle of event 2, and four purchases of subscriber 1. -/
def busy : State :=
  { plant with
    subs := [(1, { plant.sub 1 with
      purchases := [⟨3, 0, 0, 0, .charged, some 5⟩, ⟨4, 0, 0, 0, .charged, some 5⟩, ⟨5, 0, 0, 0, .charged, some 5⟩, ⟨1, 0, 0, 0, .unsettled, none⟩] })]
    events := plant.events ++ [(3, { Event.cold with state := .ended }), (4, { Event.cold with state := .ended }),
      (5, { Event.cold with state := .cancelled }),
      (6, { Event.cold with state := .scheduled, start := some 200, duration := some 15, ends := some 215 })]
    billing := { plant.billing with clock := 20 } }

theorem witness_office_refusals :
    let asks := fun (k : Nat) (b : List Byte) => Asks (asking .office k b busy) .office k (request k b)
    (asks 2 [8, 1, 128] ∧ parseChange [8, 1, 128] = some (2049, 128) ∧ ¬ (1 ≤ 2049 ∧ 2049 ≤ 2048) ∧
      hasTier 128 7 = true) ∧
    (asks 2 [8, 0, 127] ∧ parseChange [8, 0, 127] = some (2048, 127) ∧
      ¬ (¬ (1 ≤ 2048 ∧ 2048 ≤ 2048) ∨ hasTier 127 7 = true) ∧ (busy.sub 2048).status ≠ .active) ∧
    (asks 3 [0, 0] ∧ parse16 [0, 0] = some 0 ∧ ¬ (1 ≤ 0 ∧ 0 ≤ 2048)) ∧
    (asks 3 [8, 0] ∧ parse16 [8, 0] = some 2048) ∧
    (asks 4 [0, 1, 17] ∧ parse16x8 [0, 1, 17] = some (1, 17) ∧ ¬ (1 ≤ 17 ∧ 17 ≤ 16)) ∧
    (asks 4 [0, 1, 16] ∧ parse16x8 [0, 1, 16] = some (1, 16) ∧ (busy.event 16).state = .free) ∧
    (asks 4 [8, 0, 1] ∧ parse16x8 [8, 0, 1] = some (2048, 1) ∧ (busy.event 1).state ≠ .free) ∧
    (asks 4 [0, 1, 3] ∧ parse16x8 [0, 1, 3] = some (1, 3) ∧ (busy.event 3).state = .ended ∧
      (busy.event 5).state = .cancelled) ∧
    (asks 4 [0, 1, 2] ∧ parse16x8 [0, 1, 2] = some (1, 2) ∧ (busy.event 2).state = .showing ∧
      (busy.event 2).duration.getD 0 ≤ (busy.billing.clock - busy.startOf 2) * 2) ∧
    (asks 4 [0, 1, 1] ∧ parse16x8 [0, 1, 1] = some (1, 1) ∧ busy.onSale 1 = true ∧
      (busy.sub 1).status = .active ∧ ∃ p ∈ (busy.sub 1).purchases, p.event = 1) ∧
    (asks 4 [0, 1, 6] ∧ parse16x8 [0, 1, 6] = some (1, 6) ∧ busy.onSale 6 = true ∧
      (∀ p ∈ (busy.sub 1).purchases, p.event ≠ 6) ∧ 4 ≤ (busy.sub 1).purchases.length) ∧
    (asks 5 [0, 1, 0] ∧ parse16x8 [0, 1, 0] = some (1, 0) ∧ ¬ (1 ≤ 0 ∧ 0 ≤ 16)) ∧
    (asks 5 [0, 1, 6] ∧ ∀ p ∈ (busy.sub 1).purchases, p.event ≠ 6) ∧
    (asks 5 [0, 1, 3] ∧ (∃ p ∈ (busy.sub 1).purchases, p.event = 3) ∧
      (busy.event 3).state ≠ .scheduled) := by
  unfold Asks Waits; dsimp only; constructorm* _ ∧ _ <;> decide +kernel

theorem witness_port_lock_and_unlock :
    let lock := fun (b : List Byte) => Asks (asking .technician 11 b plant) .technician 11 (request 11 b)
    let unlock := fun (b : List Byte) => Asks (asking .technician 12 b plant) .technician 12 (request 12 b)
    (lock [2, 1, 1] ∧ parse16x8 [2, 1, 1] = some (513, 1) ∧ ¬ ((1 ≤ 513 ∧ 513 ≤ 512) ∧ 1 ≤ 1 ∧ 1 ≤ 4)) ∧
    (unlock [2, 0, 4] ∧ parse16x8 [2, 0, 4] = some (512, 4) ∧
      (asking .technician 12 [2, 0, 4] plant).claimant 512 4 = none) ∧
    (lock [0, 1, 1] ∧ unlock [0, 1, 1] ∧ parse16x8 [0, 1, 1] = some (1, 1) ∧
      TablesSound (asking .technician 11 [0, 1, 1] plant) ∧
      (asking .technician 11 [0, 1, 1] plant).claimant 1 1 = some 1) := by
  unfold Asks Waits TablesSound; dsimp only; constructorm* _ ∧ _ <;> decide +kernel

/-- `plant` with no subscriber and a second tap, IN_FLIGHT, on branch 64. -/
def wired : State :=
  { plant with
    subs := []
    taps := plant.taps ++ [(2, { Tap.cold with installed := true, branch := some 64, sync := .inFlight })]
    branches := plant.branches ++
      [(2, { Branch.cold with defined := true, parent := some 1 }),
       (64, { Branch.cold with defined := true, installedTaps := 1, forced := true, out := true, affected := true })] }

theorem wired_tables : TablesSound wired := by unfold TablesSound; decide

theorem wired_names_no_tap (t n : Nat) : (wired.sub n).status = .active → (wired.sub n).tap ≠ some t :=
  every_record (P := fun r : Subscriber => r.status = .active → r.tap ≠ some t) _ wired.subs
    (fun h => by cases h) (fun e he => by cases he) n

theorem witness_tap_install :
    let asks := fun (b : List Byte) => Asks (asking .technician 13 b wired) .technician 13 (request 13 b)
    (asks [0, 0, 1] ∧ parse16x8 [0, 0, 1] = some (0, 1) ∧ ¬ ((1 ≤ 0 ∧ 0 ≤ 512) ∧ 1 ≤ 1 ∧ 1 ≤ 64)) ∧
    (asks [0, 1, 1] ∧ parse16x8 [0, 1, 1] = some (1, 1) ∧ (wired.tap 1).installed = true) ∧
    (asks [2, 0, 63] ∧ parse16x8 [2, 0, 63] = some (512, 63) ∧ (wired.tap 512).installed = false ∧
      (wired.branch 63).defined = false) ∧
    (asks [2, 0, 64] ∧ parse16x8 [2, 0, 64] = some (512, 64) ∧
      ((asking .technician 13 [2, 0, 64] wired).tap 512).installed = false ∧
      ((asking .technician 13 [2, 0, 64] wired).branch 64).defined = true ∧
      TablesSound (asking .technician 13 [2, 0, 64] wired)) := by
  unfold Asks Waits TablesSound; dsimp only; constructorm* _ ∧ _ <;> decide +kernel

theorem witness_tap_remove :
    let asks := fun (b : List Byte) s => Asks (asking .technician 14 b s) .technician 14 (request 14 b)
    (asks [2, 1] wired ∧ parse16 [2, 1] = some 513 ∧ ¬ (1 ≤ 513 ∧ 513 ≤ 512)) ∧
    (asks [2, 0] wired ∧ parse16 [2, 0] = some 512 ∧ (wired.tap 512).installed = false) ∧
    (asks [0, 2] wired ∧ parse16 [0, 2] = some 2 ∧ TablesSound (asking .technician 14 [0, 2] wired) ∧
      (wired.tap 2).installed = true ∧ (wired.tap 2).sync = .inFlight) ∧
    (asks [0, 1] plant ∧ parse16 [0, 1] = some 1 ∧ (plant.sub 1).status = .active ∧
      (plant.sub 1).tap = some 1 ∧ (plant.tap 1).installed = true) ∧
    (asks [0, 1] wired ∧ (wired.tap 1).installed = true ∧ (wired.tap 1).sync ≠ .inFlight ∧
      (asking .technician 14 [0, 1] wired).survey.auditInFlight ≠ some 1 ∧
      ∀ n, ((asking .technician 14 [0, 1] wired).sub n).status = .active →
        ((asking .technician 14 [0, 1] wired).sub n).tap ≠ some 1) := by
  unfold Asks Waits TablesSound; dsimp only
  constructorm* _ ∧ _
  case right.right.right.right.right.right.right.right => exact wired_names_no_tap 1
  all_goals decide +kernel

theorem witness_branch_set :
    let asks := fun (b : List Byte) => Asks (asking .technician 15 b wired) .technician 15 (request 15 b)
    (asks [63, 14, 2, 1, 14, 17] ∧
      parseBranch [63, 14, 2, 1, 14, 17] = some ⟨63, false, some 2, some true, some 3601⟩ ∧
      TablesSound (asking .technician 15 [63, 14, 2, 1, 14, 17] wired) ∧ (1 ≤ 63 ∧ 63 ≤ 64) ∧
      (asking .technician 15 [63, 14, 2, 1, 14, 17] wired).parentRefusal 63 2 = none) ∧
    (∀ q, some 2 = some q → q ≤ 64) ∧
    (asks [2, 1] ∧ parseBranch [2, 1] = some ⟨2, true, none, none, none⟩ ∧ (wired.branch 2).defined = true ∧
      ((asking .technician 15 [2, 1] wired).branch 2).installedTaps = 0) ∧
    (∀ k, ((asking .technician 15 [2, 1] wired).branch k).defined = true →
      ((asking .technician 15 [2, 1] wired).branch k).parent ≠ some 2) ∧
    (asks [63, 1] ∧ parseBranch [63, 1] = some ⟨63, true, none, none, none⟩ ∧ (wired.branch 63).defined = false) ∧
    (asks [64, 1] ∧ parseBranch [64, 1] = some ⟨64, true, none, none, none⟩ ∧
      (wired.branch 64).defined = true ∧ (wired.branch 64).installedTaps ≠ 0) ∧
    (asks [1, 1] ∧ (wired.branch 2).defined = true ∧ (wired.branch 2).parent = some 1) := by
  refine ⟨?_, fun q h => ?_, ?_, ?_, ?_⟩
  · unfold Asks Waits TablesSound; dsimp only; constructorm* _ ∧ _ <;> decide +kernel
  · cases h; decide
  · unfold Asks Waits; dsimp only; constructorm* _ ∧ _ <;> decide +kernel
  · exact every_record (P := fun r : Branch => r.defined = true → r.parent ≠ some 2) _ wired.branches
      (by decide) (by decide)
  · unfold Asks Waits; dsimp only; constructorm* _ ∧ _ <;> decide +kernel

/-- `live` with the watch record `w` of branch 1 and the survey clock at `clock`. -/
def stationed (w : Watch) (clock : Nat) : State :=
  { live with watches := [(1, w)], survey := { live.survey with clock := clock } }

theorem witness_branch_set_watch :
    let asks := fun (b : List Byte) (s : State) => Asks (asking .technician 15 b s) .technician 15 (request 15 b)
    let has := fun (b : List Byte) (s : State) (v : Bool) =>
      answers (exec (.branchSet .technician) (asking .technician 15 b s)) fun t => (t.branch 1).station == v
    let w := plant.watch 1
    let to120 : List Byte := [1, 8, 0, 120]
    (asks [63, 14, 2, 1, 14, 17] wired ∧ (wired.branch 63).station = false ∧ (wired.watch 63).state = .unwatched ∧
      answers (exec (.branchSet .technician) (asking .technician 15 [63, 14, 2, 1, 14, 17] wired))
        (fun t => (t.branch 63).station) = true) ∧
    (asks [1, 4, 0] plant ∧ parseBranch [1, 4, 0] = some ⟨1, false, none, some false, none⟩ ∧
      (plant.branch 1).station = true ∧ has [1, 4, 0] plant false = true) ∧
    (asks [1, 8, 1, 44] plant ∧ parseBranch [1, 8, 1, 44] = some ⟨1, false, none, none, some 300⟩ ∧
      w.interval = 300 ∧ has [1, 8, 1, 44] plant true = true) ∧
    (asks to120 plant ∧ parseBranch to120 = some ⟨1, false, none, none, some 120⟩ ∧ w.lastGood = some 0 ∧
      w.interval ≠ 120) ∧
    (has to120 (stationed w 89999) true = true ∧ w.state = .watching ∧
      (stationed w 89999).survey.clock < 0 + 3 * 120 / 4 * 1000) ∧
    (has to120 (stationed w 90000) true = true ∧ 0 + 3 * 120 / 4 * 1000 ≤ (stationed w 90000).survey.clock) ∧
    (has to120 (stationed { w with state := .pollDue } 120000) true = true ∧
      has to120 (stationed { w with state := .polled } 119999) true = true) ∧
    has to120 (stationed { w with state := .silent, recovery := .due } 7) true = true := by
  unfold Asks Waits; dsimp only; constructorm* _ ∧ _ <;> decide +kernel

theorem witness_branch_force_and_release :
    let force := fun (b : List Byte) => Asks (asking .technician 16 b wired) .technician 16 (request 16 b)
    let release := fun (b : List Byte) => Asks (asking .technician 17 b wired) .technician 17 (request 17 b)
    (force [65] ∧ parse8 [65] = some 65 ∧ ¬ (1 ≤ 65 ∧ 65 ≤ 64)) ∧
    (release [63] ∧ parse8 [63] = some 63 ∧ (wired.branch 63).defined = false) ∧
    (force [64] ∧ parse8 [64] = some 64 ∧ (wired.branch 64).forced = true) ∧
    (release [64] ∧ (wired.branch 64).defined = true ∧ (wired.branch 64).forced ≠ false ∧
      TablesSound (asking .technician 17 [64] wired)) := by
  unfold Asks Waits TablesSound; dsimp only; constructorm* _ ∧ _ <;> decide +kernel

theorem witness_enables_and_link :
    let asks := fun (k : Nat) (b : List Byte) => Asks (asking .technician k b live) .technician k (request k b)
    (request 18 []).body = [] ∧ asks 18 [] ∧ asks 19 [] ∧ asks 20 [] ∧ asks 21 [] ∧
    asks 22 [31, 0, 4, 5, 61, 1] ∧
    parseLink [31, 0, 4, 5, 61, 1] = some ⟨some 0, some 4, some 5, some 61, some .rotating⟩ := by
  unfold Asks Waits; dsimp only; constructorm* _ ∧ _ <;> decide +kernel

theorem witness_queries :
    let asks := fun (k : Nat) (b : List Byte) => Asks (asking .technician k b plant) .technician k (request k b)
    (asks 23 [2, 0] ∧ parse16 [2, 0] = some 512) ∧
    (asks 24 [0, 1, 9] ∧ parseEcho [0, 1, 9] = some (1, [9])) ∧ (asks 25 [65] ∧ parse8 [65] = some 65) := by
  unfold Asks Waits; dsimp only; constructorm* _ ∧ _ <;> decide +kernel

/-- A state whose monitor is ON at the last slot. -/
def watched : State :=
  { plant with monitor := { plant.monitor with
      enable := true, cursor := 40, conversion := some ⟨40, .fine, 200, true⟩ } }

theorem witness_monitor_set :
    let on : List Byte := [31, 1, 1, 9, 50, 9]
    let off : List Byte := [1, 0]
    (Asks (asking .technician 26 on plant) .technician 26 (request 26 on) ∧
      parseMonitor on = some ⟨some true, some .coarse, some 9, some 50, some 9⟩ ∧
      plant.monitor.enable = false) ∧
    (Asks (asking .technician 26 off watched) .technician 26 (request 26 off) ∧
      parseMonitor off = some ⟨some false, none, none, none, none⟩ ∧ watched.monitor.enable = true ∧
      TablesSound (asking .technician 26 off watched)) ∧
    (Asks (asking .technician 26 [2, 1] watched) .technician 26 (request 26 [2, 1]) ∧
      parseMonitor [2, 1] = some ⟨none, some .coarse, none, none, none⟩ ∧
      watched.monitor.conversion = some ⟨40, .fine, 200, true⟩) := by
  unfold Asks Waits TablesSound; dsimp only; constructorm* _ ∧ _ <;> decide +kernel

theorem witness_resurvey :
    let s := asking .technician 27 [] { wired with alarms := { wired.alarms with records := [] } }
    Asks s .technician 27 (request 27 []) ∧ (request 27 []).body = [] ∧
    (∀ r ∈ s.alarms.records, r.state = .cleared →
      ¬ (s.conditionTrue r.kind r.object = true ∧ s.gateOpen r.kind r.object = true)) ∧
    answers (exec (.alarmResurvey .technician) s) (fun t => !t.alarms.incomplete) = true ∧
    AlarmKind.branchOut ∈ alarmKinds ∧ 64 ∈ AlarmKind.branchOut.objects ∧
    s.conditionTrue .branchOut 64 = true ∧ s.gateOpen .branchOut 64 = true := by
  unfold Asks Waits; dsimp only; constructorm* _ ∧ _ <;> decide +kernel

/-- A CLEARED alarm of the office's. -/
def officeAlarm : AlarmRecord :=
  ⟨1, .branchOut, 1, .cleared, 3, some 5, 0, ⟨true, false, false⟩, ⟨false, false, false⟩⟩

/-- `plant` with a full alarm list, every record in one state. -/
def fullList (v : AlarmState) : State :=
  let l := (List.range 128).map fun n => { officeAlarm with
    serial := n + 1, object := n + 1, state := v, cleared := if v = .cleared then some 5 else none }
  { plant with alarms := { plant.alarms with records := l } }

theorem fullList_sound : AlarmsSound (fullList .active) := by
  refine ⟨by decide +kernel, by decide +kernel, by decide +kernel, by decide, fun r hr => ?_⟩
  simp only [fullList, List.mem_map, List.mem_range] at hr
  obtain ⟨n, hn, rfl⟩ := hr
  refine ⟨by simp only [within, decide_eq_true_eq]; omega, fun p => ?_, ?_⟩
  · cases p <;> simp [officeAlarm, MasterSet.has]
  · simp

theorem witness_resurvey_room :
    AlarmsSound { wired with alarms := { wired.alarms with records := [] } } ∧
    (let s := asking .technician 27 [] (fullList .active)
     Asks s .technician 27 (request 27 []) ∧ AlarmsSound s ∧
     (∀ r ∈ s.alarms.records, r.state = .cleared →
       ¬ (s.conditionTrue r.kind r.object = true ∧ s.gateOpen r.kind r.object = true)) ∧
     s.conditionTrue .monitorOff 0 = true ∧ s.alarm .monitorOff 0 = none) := by
  refine ⟨⟨by decide, by decide, by decide, by decide, fun r hr => by cases hr⟩,
    asks_asking _ _ _ _ (by decide), fullList_sound, ?_, by decide, by decide +kernel⟩
  decide +kernel

theorem witness_restarts :
    Asks (asking .technician 28 [] plant) .technician 28 (request 28 []) ∧ (request 28 []).body = [] :=
  ⟨asks_asking _ _ _ _ (by decide), rfl⟩

/-- Watches of each kind, and other ports that have sent the same. -/
theorem witness_restarted_watches :
    let s : State := { plant with
      watches := plant.watches ++ [(64, { Watch.cold with state := .silent, recovery := .waiting })] }
    (TablesSound s ∧ (s.watch 1).state ≠ .unwatched ∧ (s.watch 1).state ≠ .silent) ∧
    (s.watch 64).state = .silent ∧ (s.watch 2).state = .unwatched ∧
    (asking .office 36 [] plant).ports ≠ plant.ports ∧
    ∀ p, (({ plant with ports := (asking .office 36 [] plant).ports } : State).port p).sent = (plant.port p).sent := by
  unfold TablesSound
  refine ⟨by decide, by decide, by decide, by decide, fun p => ?_⟩
  cases p <;> rfl

/-- `plant` with branches 1 to 8 one below the other. -/
def chain : State :=
  { plant with branches := (List.range' 1 8).map fun n =>
      (n, { Branch.cold with defined := true, parent := if n = 1 then none else some (n - 1) }) }

theorem witness_branch_and_slot_set_refusals :
    let asks := fun (b : List Byte) => Asks (asking .technician 15 b chain) .technician 15 (request 15 b)
    let sets := fun (b : List Byte) => Asks (asking .schedule 29 b plant) .schedule 29 (request 29 b)
    (asks [0, 0] ∧ parseBranch [0, 0] = some ⟨0, false, none, none, none⟩ ∧ ¬ (1 ≤ 0 ∧ 0 ≤ 64)) ∧
    (asks [65, 1] ∧ parseBranch [65, 1] = some ⟨65, true, none, none, none⟩ ∧ ¬ (1 ≤ 65 ∧ 65 ≤ 64)) ∧
    (asks [64, 2, 65] ∧ parseBranch [64, 2, 65] = some ⟨64, false, some 65, none, none⟩ ∧ 64 < 65) ∧
    (asks [1, 2, 64] ∧ parseBranch [1, 2, 64] = some ⟨1, false, some 64, none, none⟩ ∧
      (chain.branch 64).defined = false) ∧
    (asks [8, 2, 8] ∧ parseBranch [8, 2, 8] = some ⟨8, false, some 8, none, none⟩ ∧
      (chain.branch 8).defined = true) ∧
    (asks [1, 2, 2] ∧ (chain.branch 2).defined = true ∧ 1 ∈ chain.ancestorsOf 2) ∧
    (asks [9, 2, 8] ∧ 8 < chain.depth 8 + chain.height 9) ∧
    (sets [41, 0] ∧ parseSlot [41, 0] = some ⟨41, none, none, none, none, none, none, none, none⟩ ∧
      ¬ (1 ≤ 41 ∧ 41 ≤ 40)) ∧
    (sets [40, 3, 25, 8] ∧
      parseSlot [40, 3, 25, 8] = some ⟨40, some 25, some 8, none, none, none, none, none, none⟩ ∧
      24 < 25 ∧ 7 < 8) ∧
    (sets [7, 2, 6] ∧ parseSlot [7, 2, 6] = some ⟨7, none, some 6, none, none, none, none, none, none⟩ ∧
      (plant.slot 7).tier = 7 ∧ TablesSound (asking .schedule 29 [7, 2, 6] plant) ∧
      (plant.event 1).state = .scheduled ∧ (plant.event 1).slot = some 7) := by
  unfold Asks Waits TablesSound; dsimp only; constructorm* _ ∧ _ <;> decide +kernel

theorem witness_slot_set :
    let b : List Byte := [40, 255, 24, 7, 2, 89, 0, 99, 32, 1, 2, 1]
    let s := asking .schedule 29 b plant
    let a : SlotArgs := ⟨40, some 24, some 7, some 601, some 99, some 32, some .floor, some .drop, some .all⟩
    Asks s .schedule 29 (request 29 b) ∧ parseSlot b = some a ∧ TablesSound s ∧ (1 ≤ a.slot ∧ a.slot ≤ 40) ∧
    (∀ n, a.source = some n → n ≤ 24) ∧ (∀ n, a.tier = some n → n ≤ 7) ∧ s.movesEventSlot a = false := by
  refine ⟨asks_asking _ _ _ _ (by decide), by decide +kernel, asking_tables _ _ _ plant_tables, by decide,
    fun n h => ?_, fun n h => ?_, by decide⟩
  · cases h; decide
  · cases h; decide

theorem witness_sponsor_and_withdraw :
    let sponsor := fun (b : List Byte) => Asks (asking .office 32 b plant) .office 32 (request 32 b)
    let withdraw := fun (b : List Byte) => Asks (asking .technician 33 b plant) .technician 33 (request 33 b)
    (sponsor [41] ∧ parse8 [41] = some 41 ∧ ¬ (1 ≤ 41 ∧ 41 ≤ 40)) ∧
    (withdraw [40] ∧ parse8 [40] = some 40 ∧ TablesSound (asking .technician 33 [40] plant)) := by
  unfold Asks Waits TablesSound; dsimp only; constructorm* _ ∧ _ <;> decide +kernel

/-- `plant` with every event SCHEDULED at the same minutes. -/
def booked : State :=
  { plant with events := (List.range' 1 16).map fun n =>
      (n, { Event.cold with state := .scheduled, start := some 200, ends := some 230 }) }

theorem booked_full (n : Nat) (h1 : 1 ≤ n) (h2 : n ≤ 16) : (booked.event n).state ≠ .free := by
  interval_cases n <;> decide

theorem witness_event_schedule :
    let asks := fun (b : List Byte) s => Asks (asking .schedule 30 b s) .schedule 30 (request 30 b)
    let late : List Byte := [7, 255, 255, 255, 255, 0, 0, 0, 0]
    let past : List Byte := [7, 0, 0, 0, 11, 0, 0, 0, 0]
    let overlap : List Byte := [7, 0, 0, 0, 129, 0, 15, 0, 0]
    let fresh : List Byte := [7, 0, 0, 0, 130, 2, 209, 255, 255]
    (asks late plant ∧ parseSchedule late = some ⟨7, 4294967295, 0, 0⟩ ∧ 4294967295 < 4294967295 + 15) ∧
    (asks past plant ∧ parseSchedule past = some ⟨7, 11, 0, 0⟩ ∧ 11 ≤ plant.billing.clock) ∧
    (asks overlap plant ∧ parseSchedule overlap = some ⟨7, 129, 15, 0⟩ ∧ plant.billing.clock < 129 ∧
      ∃ e ∈ plant.events, (e.2.state = .scheduled ∨ e.2.state = .showing) ∧
        129 < e.2.ends.getD 0 ∧ e.2.start.getD 0 < 129 + 15) ∧
    (asks fresh plant ∧ parseSchedule fresh = some ⟨7, 130, 721, 65535⟩ ∧ plant.billing.clock < 130 ∧
      (plant.slot 7).tier = 7 ∧ TablesSound (asking .schedule 30 fresh plant) ∧
      (¬ ∃ e ∈ plant.events, (e.2.state = .scheduled ∨ e.2.state = .showing) ∧
        130 < e.2.ends.getD 0 ∧ e.2.start.getD 0 < 130 + 720) ∧
      (plant.event 3).state = .free ∧ (plant.event 1).state ≠ .free ∧ (plant.event 2).state ≠ .free) ∧
    (asks [7, 0, 0, 0, 230, 0, 15, 0, 0] booked ∧
      parseSchedule [7, 0, 0, 0, 230, 0, 15, 0, 0] = some ⟨7, 230, 15, 0⟩ ∧ (booked.slot 7).tier = 7 ∧
      ¬ ∃ e ∈ booked.events, (e.2.state = .scheduled ∨ e.2.state = .showing) ∧
        230 < e.2.ends.getD 0 ∧ e.2.start.getD 0 < 230 + 15) := by
  unfold Asks Waits TablesSound; dsimp only; constructorm* _ ∧ _ <;> decide +kernel

theorem witness_event_cancel :
    let asks := fun (b : List Byte) => Asks (asking .schedule 31 b busy) .schedule 31 (request 31 b)
    (asks [0] ∧ parse8 [0] = some 0 ∧ ¬ (1 ≤ 0 ∧ 0 ≤ 16)) ∧
    (asks [16] ∧ parse8 [16] = some 16 ∧ (busy.event 16).state = .free) ∧
    (asks [3] ∧ asks [5] ∧ (busy.event 3).state = .ended ∧ (busy.event 5).state = .cancelled) ∧
    (asks [1] ∧ asks [2] ∧ parse8 [1] = some 1 ∧ parse8 [2] = some 2 ∧ (busy.event 1).state = .scheduled ∧
      (busy.event 2).state = .showing ∧ TablesSound (asking .schedule 31 [1] busy)) := by
  unfold Asks Waits TablesSound; dsimp only; constructorm* _ ∧ _ <;> decide +kernel

/-- An ACTIVE alarm that is no master's. -/
def lastAlarm : AlarmRecord :=
  ⟨65535, .sourceLost, 1, .active, 3, none, 0, ⟨false, false, false⟩, ⟨false, false, false⟩⟩

/-- `plant` with these two alarms. -/
def alarmed : State := { plant with alarms := { plant.alarms with records := [officeAlarm, lastAlarm] } }

theorem alarmed_sound : AlarmsSound alarmed := by
  refine ⟨by decide, by decide, by decide, by decide, fun r hr => ?_⟩
  simp only [alarmed, List.mem_cons, List.not_mem_nil, or_false] at hr
  rcases hr with rfl | rfl <;> exact ⟨by decide, fun p => by cases p <;> decide, by decide⟩

theorem witness_audience_and_ack :
    let acks := fun (b : List Byte) => Asks (asking .office 35 b alarmed) .office 35 (request 35 b)
    (Asks (asking .schedule 34 [7] plant) .schedule 34 (request 34 [7]) ∧
      parseAudience [7] = some ⟨true, true, true⟩) ∧
    (Asks (asking .schedule 34 [8] plant) .schedule 34 (request 34 [8]) ∧ parseAudience [8] = none) ∧
    (plant.alarm .branchOut 64 = none ∧ ∃ r ∈ (raiseAlarm .branchOut 64 plant).alarms.records,
      r.kind = .branchOut ∧ r.object = 64) ∧
    (acks [0, 0] ∧ parse16 [0, 0] = some 0) ∧
    (acks [0, 2] ∧ parse16 [0, 2] = some 2 ∧ ∀ r ∈ alarmed.alarms.records, r.serial ≠ 2) ∧
    (acks [0, 1] ∧ parse16 [0, 1] = some 1 ∧
      alarmed.alarms.records = [] ++ officeAlarm :: [lastAlarm] ∧ officeAlarm.serial = 1 ∧
      officeAlarm.audience.has .office = true) ∧
    (acks [255, 255] ∧ parse16 [255, 255] = some 65535 ∧
      alarmed.alarms.records = [officeAlarm] ++ lastAlarm :: [] ∧ lastAlarm.serial = 65535 ∧
      (∀ x ∈ [officeAlarm], x.serial ≠ 65535) ∧ lastAlarm.audience.has .office = false) := by
  unfold Asks Waits; dsimp only; constructorm* _ ∧ _ <;> decide +kernel

/-- `plant` with source 24's timer and both supply timers running. -/
def failing : State :=
  { plant with
    sources := [(24, { line := false, present := true, timer := some 2000 })]
    power := { plant.power with mainsLine := false, mainsTimer := some 2000, reserveLine := true,
                                reserveTimer := some 1500 } }

theorem witness_source_presence :
    (1 ≤ 24 ∧ 24 ≤ 24) ∧ true ≠ (failing.source 24).line ∧ (failing.source 24).timer = some 2000 ∧
    TablesSound failing := by unfold TablesSound; decide

theorem witness_supply_lines :
    true ≠ failing.power.mainsLine ∧ false ≠ failing.power.reserveLine ∧
    failing.power.mainsTimer = some 2000 ∧ failing.power.reserveTimer = some 1500 ∧
    (⟨false, true, false, true, none, none, .reserve⟩ : Power).mode = .reserve ∧
    plant.power.mode = .mains := by decide

theorem witness_mode_changes :
    answers (exec (.supplyQualificationExpiry .mainsGood) failing)
      (fun t => decide (t.power.mode ≠ failing.power.mode)) = true ∧
    (let s : State := { failing with power := { failing.power with mainsQ := false, mode := .reserve } }
     s.power.reserveTimer = some 1500 ∧
     answers (exec (.supplyQualificationExpiry .reserveLow) s)
       (fun t => decide (t.power.mode ≠ s.power.mode)) = true) := by decide +kernel

theorem witness_ramp_step :
    let at_ := fun (l a : Nat) (k : Aim) => { plant with slots := [(40, { plant.slot 3 with level := some l, aimLevel := a, aim := k })] }
    (1 ≤ 40 ∧ 40 ≤ 40) ∧
    (((at_ 395 401 .full).slot 40).stepTimer = some 50 ∧ ((at_ 395 401 .full).slot 40).level = some 395 ∧
      TablesSound (at_ 395 401 .full) ∧ min 401 (395 + 5) ≠ 401) ∧
    (((at_ 396 400 .full).slot 40).level = some 396 ∧ min 400 (396 + 5) = 400 ∧
      ((at_ 396 400 .full).slot 40).aim ≠ .off) ∧
    (((at_ 104 100 .off).slot 40).level = some 104 ∧ max 100 (104 - 5) = 100 ∧
      ((at_ 104 100 .off).slot 40).aim = .off ∧ ((at_ 104 100 .off).slot 40).stepTimer = some 50 ∧
      TablesSound (at_ 104 100 .off)) := by
  unfold TablesSound; dsimp only; constructorm* _ ∧ _ <;> decide +kernel

theorem witness_measured_level :
    1023 ≤ 1023 ∧ 255 ≤ 255 ∧ 1023 ≤ Resolution.maxCode .fine ∧
    600 + 38 < Resolution.measure .fine 1023 := by decide

theorem witness_conversion_completes :
    watched.monitor.conversion = some ⟨40, .fine, 200, true⟩ ∧ TablesSound watched ∧
    watched.monitor.settling = false ∧ (⟨40, .fine, 200, true⟩ : Conversion).disturbed = true ∧
    ({ watched with monitor := { watched.monitor with settling := true } } : State).monitor.settling
      = true := by unfold TablesSound; decide

/-- `watched` with an undisturbed conversion of slot 40, whose record is `r`. -/
def scanning (r : Slot) : State :=
  { watched with
    slots := [(40, r)]
    monitor := { watched.monitor with conversion := some ⟨40, .fine, 200, false⟩ } }

theorem witness_scans :
    let l := fun (code : Nat) => Resolution.measure .fine (min (Resolution.maxCode .fine) code)
    let steady : Slot := { plant.slot 3 with level := some 400, ramp := .steady, stepTimer := none }
    let on := fun (j : Judgement) => (scanning { steady with judgement := j }).slot 40
    let off := fun (j : Judgement) => (scanning { Slot.cold with judgement := j }).slot 40
    let m := watched.monitor
    (TablesSound (scanning steady) ∧ (scanning steady).monitor.conversion = some ⟨40, .fine, 200, false⟩ ∧
      (scanning steady).monitor.settling = false ∧ (⟨40, .fine, 200, false⟩ : Conversion).disturbed = false) ∧
    ((on .unjudged).carrierOn = true ∧ (on .good).ramp = .steady ∧ (on .good).level = some 400 ∧
      (on .low).judgement = .low ∧ (on .high).judgement = .high) ∧
    (l 591 + m.tolerance < 400 ∧ 400 + m.tolerance < l 690 ∧ 400 ≤ l 592 + m.tolerance ∧ l 689 ≤ 400 + m.tolerance) ∧
    (400 ≤ l 608 + (m.tolerance - m.hysteresis) ∧ l 608 ≤ 400 + (m.tolerance - m.hysteresis) ∧
      ¬ (400 ≤ l 607 + (m.tolerance - m.hysteresis))) ∧
    ((off .unjudged).carrierOn = false ∧ (off .good).judgement = .good ∧ (off .stuck).judgement = .stuck ∧
      TablesSound (scanning { Slot.cold with judgement := .stuck })) ∧
    100 ≤ l 160 ∧ l 159 < 100 ∧ l 143 + m.hysteresis < 100 ∧ 100 ≤ l 144 + m.hysteresis := by
  unfold TablesSound; dsimp only; constructorm* _ ∧ _ <;> decide +kernel

/-- `live` with a PORT READ of tap 1 AWAITING its reply, its last attempt, and `f` in the buffer. -/
def awaits (f : Frame) : State :=
  { live with engine := { live.engine with
      state := .awaiting, window := some 100, buffer := [f]
      txn := some ⟨.technician, .tap, 1, .portRead, 3, 60, 1, none⟩ } }

/-- A port status of tap 1. -/
def tapFrame : List Byte := [3, 1, 0, 1, 1, 6, 3, 0, 0, 0, 1, 0, 9]

theorem witness_attempts :
    let x : Txn := ⟨.technician, .tap, 1, .portRead, 3, 60, 1, none⟩
    let good : Frame := ⟨tapFrame, .intact, true⟩
    (awaits good).engine.txn = some x ∧ (awaits good).engine.state = .awaiting ∧
    (awaits good).engine.buffer = good :: [] ∧ (awaits good).engine.window = some 100 ∧
    (good.status = .intact ∧ (⟨[], .framingFault, false⟩ : Frame).status ≠ .intact) ∧
    ({ awaits good with engine := { (awaits good).engine with state := .sending } } : State).engine.state
      = .sending ∧
    (frameSender (3 :: 1 :: 0 :: 2 :: tapFrame.drop 4) ≠ some (x.cls, x.addr)) ∧
    frameSender tapFrame = some (x.cls, x.addr) ∧
    (frameReply tapFrame).isSome = true ∧
    (frameSender [3, 1, 0, 1, 9, 0, 9] = some (x.cls, x.addr) ∧ frameReply [3, 1, 0, 1, 9, 0, 9] = none) ∧
    live.engine.carrierOn = true ∧ plant.engine.carrierOn = false ∧ x.used < x.limit ∧ 3 ≤ 3 ∧
    live.engine.noiseCount ≤ 65535 := by
  dsimp only; constructorm* _ ∧ _ <;> decide +kernel

/-- The bytes of R177's rows, written out. -/
theorem test_control_frames :
    (addressFrame .station 64).dropLast = [1, 2, 0, 64] ∧ (addressFrame .allTaps 0).dropLast = [1, 3, 0, 0] ∧
    (commandMessage (.portSet ⟨1, 2, 3, 4⟩ none)).dropLast = [2, 1, 5, 1, 2, 3, 4, 0] ∧
    (commandMessage .portRead).dropLast = [2, 2, 0] ∧ (commandMessage (.echo [9, 8])).dropLast = [2, 3, 2, 9, 8] ∧
    (commandMessage .stationPoll).dropLast = [2, 4, 0] ∧
    (commandMessage (.mapLoad ⟨255, List.replicate 40 7⟩)).dropLast = [2, 5, 41, 255] ++ List.replicate 40 7 := by
  decide +kernel

/-- A table of 40 tiers, and the contents of reply frames at the ends of their lengths. -/
theorem witness_frames :
    (⟨255, List.replicate 40 7⟩ : TierMap).tiers.length = 40 ∧ (128 : Byte).getLsbD 7 = true ∧
    (127 : Byte).getLsbD 7 = false ∧ ([15, 0, 0, 0, 255, 1] : List Byte).length = (6 : Byte).toNat ∧
    ([2, 1, 3, 231] : List Byte).length = (4 : Byte).toNat ∧ ([] : List Byte).length = (0 : Byte).toNat ∧
    (List.replicate 255 0 : List Byte).length = (255 : Byte).toNat ∧
    frameReply [3, 2, 0, 1, 2, 4, 2, 1, 3, 231, 0] = some (.stationStatus ⟨.failed, true, 999⟩) ∧
    frameReply [3, 1, 0, 1, 3, 0, 0] = none := by decide +kernel

theorem witness_return_frames :
    let two := fun (a b c : Bool) => (a = true ∧ b = true) ∨ (a = true ∧ c = true) ∨ (b = true ∧ c = true)
    let f := withCrc8 tapFrame.dropLast
    let on : State := { live with engine := { live.engine with inFrame := true } }
    wfSamples (sampled f) (stopsOf 13) = true ∧ f.length = (sampled f).length ∧
    (∀ e ∈ (sampled f).zip f, ∀ k, k < 8 → (e.2.getLsbD k = true ↔
      two (e.1.first.getLsbD k) (e.1.second.getLsbD k) (e.1.third.getLsbD k))) ∧
    (RxStatus.intact = .framingFault ↔ ∃ x ∈ stopsOf 13, ¬ two x.first x.second x.third) ∧
    (RxStatus.intact = .intact ↔ (∀ x ∈ stopsOf 13, two x.first x.second x.third) ∧
      f.getLast? = some (crc8 f.dropLast)) ∧
    (on.engine.returnOn = true ∧ on.engine.inFrame = true) ∧
    (live.engine.returnOn = true ∧ live.engine.inFrame = false ∧ two true true false ∧ ¬ two false false true) ∧
    plant.engine.returnOn = false ∧ min 65535 (6 + 1) ≠ 8 ∧ min 65535 (7 + 1) = 8 := by
  dsimp only; constructorm* _ ∧ _ <;> decide +kernel

/-- `live` with a query waiting, tap 1 QUEUED and branch 1's poll due, and nothing to broadcast. -/
def loaded : State :=
  { live with
    broadcast := { live.broadcast with wanted := false, remaining := 0 }
    techQ := { live.techQ with waiting := [⟨1, .tapEcho, 1, [5]⟩] }
    syncSet := [1]
    taps := [(1, { plant.tap 1 with sync := .queued })]
    watches := [(1, { plant.watch 1 with state := .pollDue })] }

/-- `loaded` in ROTATING with SYNC last. -/
def rotating : State :=
  { loaded with arbiter := ⟨.rotating, [.broadcast, .survey, .technician, .sync]⟩ }

theorem witness_arbiter_grants :
    loaded.engine.state = .idle ∧ loaded.engine.carrierOn = true ∧ loaded.arbiter.mode = .fixed ∧
    ([.broadcast, .technician, .sync, .survey] : List Requester)
      = [.broadcast] ++ .technician :: [.sync, .survey] ∧
    loaded.ready .technician = true ∧ (∀ q ∈ [Requester.broadcast], loaded.ready q = false) ∧
    rotating.engine.state = .idle ∧ rotating.engine.carrierOn = true ∧ rotating.arbiter.mode = .rotating ∧
    rotating.arbiter.order = [.broadcast] ++ .survey :: [.technician, .sync] ∧
    rotating.ready .survey = true ∧ (∀ q ∈ [Requester.broadcast], rotating.ready q = false) ∧
    ArbiterSound rotating ∧ Requester.sync ≠ .survey ∧ rotating.ready .sync = true := by
  unfold ArbiterSound; constructorm* _ ∧ _ <;> decide +kernel

/-- `loaded` with its only work an audit of tap 1; nothing else is ready. -/
def audited (due : Bool) : State :=
  { loaded with
    techQ := { loaded.techQ with waiting := [] }, syncSet := [], taps := plant.taps, watches := plant.watches
    survey := { loaded.survey with stepDue := due } }

theorem witness_nothing_ready : (audited false).engine.state = .idle ∧
    (audited false).engine.carrierOn = true ∧ ∀ r, (audited false).ready r = false :=
  ⟨rfl, rfl, fun r => by cases r <;> decide +kernel⟩

theorem witness_nothing_granted :
    ¬ (plant.engine.state = .idle ∧ plant.engine.carrierOn = true) ∧
    ¬ ((awaits ⟨[], .intact, false⟩).engine.state = .idle ∧
      (awaits ⟨[], .intact, false⟩).engine.carrierOn = true) := by decide

/-- `audited` with a second tap, which is installed and IN_STEP too. -/
def auditedTwo : State := { audited true with taps := [(1, plant.tap 1), (2, plant.tap 1)] }

/-- Whether tap `t` may be audited (R104). -/
def mayAudit (s : State) (t : Nat) : Prop :=
  (s.tap t).installed = true ∧ (s.tap t).sync ≠ .queued ∧ (s.tap t).sync ≠ .inFlight

theorem witness_choice_of_audits :
    (mayAudit (audited true) 1 ∧ ∀ k, mayAudit (audited true) k → k ≤ (audited true).survey.cursor ∧ 1 ≤ k) ∧
    (mayAudit auditedTwo 2 ∧ auditedTwo.survey.cursor < 2 ∧
      ∀ k, mayAudit auditedTwo k → auditedTwo.survey.cursor < k → 2 ≤ k) ∧
    ∀ k, ¬ mayAudit State.reset k := by
  unfold mayAudit
  refine ⟨⟨by decide +kernel, fun k hk => ?_⟩, ⟨by decide +kernel, by decide, fun k _ hc => hc⟩,
    fun k hk => Bool.noConfusion (show false = true from hk.1)⟩
  have : k = 1 := only_record (P := fun r : Tap => r.installed = true ∧ r.sync ≠ .queued ∧ r.sync ≠ .inFlight) _
    (audited true).taps 1 (by decide) (by decide) k hk
  subst this; exact ⟨by decide, by decide⟩

/-- Whether a poll of branch `b` is due at `d` (R98). -/
def pollsAt (s : State) (b d : Nat) : Prop :=
  ((s.watch b).state = .pollDue ∧ d = (s.watch b).due.getD 0) ∨
  ((s.watch b).state = .silent ∧ (s.watch b).recovery = .due ∧ d = (s.watch b).recoveryDue.getD 0)

/-- A poll of branch 1 and a recovery poll of branch 64, due at one time. -/
def dueTogether : State :=
  { live with watches := [(1, { plant.watch 1 with state := .pollDue }),
      (64, { Watch.cold with state := .silent, recovery := .due, recoveryDue := some 225000 })] }

theorem witness_choice_of_polls :
    TablesSound dueTogether ∧ pollsAt dueTogether 1 225000 ∧
    (∀ k e, pollsAt dueTogether k e → 225000 < e ∨ (225000 = e ∧ 1 ≤ k)) ∧
    ∀ b d, ¬ pollsAt State.reset b d := by
  refine ⟨by unfold TablesSound; decide +kernel, .inl (by decide), fun k e h => ?_, fun b d h => ?_⟩
  · have listed := listed_record
      (P := fun w : Watch => w.state = .pollDue ∨ (w.state = .silent ∧ w.recovery = .due)) _
      dueTogether.watches (by decide) k (h.imp (fun h => h.1) fun h => ⟨h.1, h.2.1⟩)
    have two : k = 1 ∨ k = 64 := by simpa [dueTogether] using listed
    obtain rfl | rfl := two
    · obtain ⟨_, rfl⟩ | ⟨h, _⟩ := h
      · decide
      · exact absurd h (by decide)
    · obtain ⟨h, _⟩ | ⟨_, _, rfl⟩ := h
      · exact absurd h (by decide)
      · decide
  · obtain ⟨h, _⟩ | ⟨h, _⟩ := h <;> cases h

theorem witness_grants :
    loaded.techQ.waiting = ⟨1, .tapEcho, 1, [5]⟩ :: [] ∧ loaded.syncSet = 1 :: [] ∧ TablesSound loaded ∧
    loaded.choosePoll = some 1 ∧ (audited true).choosePoll = none ∧ (audited true).chooseAudit = some 1 := by
  unfold TablesSound; decide +kernel

theorem witness_completions :
    let q : Query := ⟨255, .tapQuery, 1, []⟩
    let s : State := { wired with techQ := { wired.techQ with inFlight := some q } }
    let c : Completion := ⟨.technician, .tap, 1, .portRead, 4, .noReply, none⟩
    s.techQ.inFlight = some q ∧ c.requester = .technician ∧ c.reply = none ∧
    ({ c with outcome := .done, reply := some (.tapStatus ⟨0, 0, 0, 0⟩ 1 true) } : Completion).cmd = .portRead ∧
    ({ c with requester := .broadcast, cls := .allTaps, addr := 0 } : Completion).requester = .broadcast ∧
    ({ c with requester := .survey, cls := .station } : Completion).cls = .station ∧
    (({ c with requester := .survey } : Completion).cls = .tap ∧ (wired.tap 1).installed = true ∧
      TablesSound wired ∧ TxnOutcome.noReply ≠ .carrierOff ∧
      ({ wired with engine := live.engine } : State).engine.returnOn = true ∧ wired.engine.returnOn = false) := by
  unfold TablesSound; dsimp only; constructorm* _ ∧ _ <;> decide +kernel

/-- `wired` with `l` last sent to tap 2, which is IN_FLIGHT. -/
def inFlight (l : LastSent) : State :=
  { wired with taps := plant.taps ++ [(2, { Tap.cold with
      installed := true, branch := some 64, sync := .inFlight, lastSent := some l })] }

theorem witness_port_set_completions :
    let none4 : Quad TierSet := ⟨0, 0, 0, 0⟩
    let one : Quad TierSet := ⟨0, 0, 0, 1⟩
    let s := inFlight ⟨none4, 1⟩
    let u := inFlight ⟨one, 1⟩
    (TablesSound s ∧ (s.tap 2).installed = true ∧ (s.tap 2).sync = .inFlight ∧
      (s.tap 2).lastSent = some ⟨none4, 1⟩ ∧ s.revision = 1) ∧
    (none4 ≠ one ∧ one.get 4 ≠ s.desiredMask 2 4) ∧
    (TablesSound u ∧ (u.tap 2).lastSent = some ⟨one, 1⟩ ∧ one.get 4 ≠ u.desiredMask 2 4) ∧
    ∀ p, (1 ≤ p ∧ p ≤ 4) → none4.get p = s.desiredMask 2 p := by
  unfold TablesSound; dsimp only
  refine ⟨?_, ?_, ?_, fun p hp => ?_⟩
  · decide +kernel
  · decide +kernel
  · decide +kernel
  · obtain ⟨h1, h2⟩ := hp; interval_cases p <;> decide +kernel

/-- `plant` with tap 1 IN_FLIGHT and in step by what it reports: its change was undone in flight. -/
def undone : State := { plant with taps := [(1, { plant.tap 1 with sync := .inFlight })] }

theorem witness_port_set_says_nothing :
    (TablesSound undone ∧ (undone.tap 1).installed = true ∧ (undone.tap 1).sync = .inFlight ∧
      undone.engine.returnOn = false ∧ 1 ∉ undone.syncSet ∧
      ¬ ((undone.tap 1).heldRev ≠ some undone.revision ∨
        ∃ p, (1 ≤ p ∧ p ≤ 4) ∧ (undone.tap 1).reported.get p ≠ some (undone.desiredMask 1 p))) ∧
    ((inFlight ⟨⟨0, 0, 0, 0⟩, 1⟩).tap 2).heldRev ≠ some (inFlight ⟨⟨0, 0, 0, 0⟩, 1⟩).revision := by
  refine ⟨⟨by unfold TablesSound; decide +kernel, by decide, by decide, by decide, by decide, ?_⟩, by decide +kernel⟩
  rintro (h | ⟨p, ⟨h1, h2⟩, h⟩)
  · exact absurd h (by decide)
  · revert h; interval_cases p <;> decide +kernel

/-- R55, R48, R56: a failure that says nothing leaves a tap IN_STEP whose change was undone in flight, and QUEUED one that
is out of step. -/
theorem test_undone_change_is_in_step :
    ((portSetFailed 1 .carrierOff undone).tap 1).sync = .inStep ∧
    (portSetFailed 1 .carrierOff undone).syncSet = [] ∧
    (portSetFailed 2 .carrierOff (inFlight ⟨⟨0, 0, 0, 0⟩, 1⟩)).syncSet = [2] := by decide +kernel

/-- R46, R136, R40: the removal of one of the two UNREACHABLE taps of a branch with three ends its outage. The recovery raises
TAP_UNREACHABLE for both while the records stand, and that of the removed tap ends with its record. -/
theorem test_removed_tap_leaves_no_active_alarm :
    let cut : Tap := { Tap.cold with installed := true, branch := some 1, reach := .unreachable }
    let s : State := { plant with
      taps := [(1, cut), (2, cut), (3, { cut with reach := .reachable })]
      branches := [(1, { plant.branch 1 with
        installedTaps := 3, unreachableTaps := 2, out := true, affected := true })] }
    (removeTap 1 s).alarms.records.map (fun r => (r.kind, r.object, r.state))
      = [(.monitorOff, 0, .active), (.tapUnreachable, 1, .cleared), (.tapUnreachable, 2, .active)] := by
  decide +kernel

theorem witness_entry_test :
    plant.claimant 1 4 = none ∧ plant.claimant 1 1 = some 1 ∧ (plant.sub 1).locked = false ∧ 7 < 8 ∧
    (({ plant with subs := [(1, { plant.sub 1 with locked := true })] } : State).claimant 1 1 = some 1 ∧
      ({ plant with subs := [(1, { plant.sub 1 with locked := true })] } : State).desiredMask 1 1 = 0) ∧
    ((plant.tap 1).installed = true ∧ (plant.tap 1).sync = .inStep ∧ (plant.tap 1).heldRev = some plant.revision ∧
      ∀ p, (1 ≤ p ∧ p ≤ 4) → (plant.tap 1).reported.get p = some (plant.desiredMask 1 p)) ∧
    ((wired.tap 1).sync = .inStep ∧ (wired.tap 1).reported.get 1 ≠ some (wired.desiredMask 1 1)) ∧
    ((wired.tap 2).sync = .inFlight ∧ (plant.tap 512).installed = false) ∧
    ((loaded.tap 1).installed = true ∧ (loaded.tap 1).sync = .queued) ∧
    ({ plant with taps := [(1, { plant.tap 1 with
      sync := .mismatch, lastSent := some ⟨⟨3, 0, 0, 0⟩, 1⟩ })] } : State).tap 1 = { plant.tap 1 with
      sync := .mismatch, lastSent := some ⟨⟨3, 0, 0, 0⟩, 1⟩ } := by
  constructorm* _ ∧ _
  case right.right.right.right.right.left.right.right.right =>
    intro p hp; obtain ⟨h1, h2⟩ := hp; interval_cases p <;> decide +kernel
  all_goals decide +kernel

theorem witness_intake :
    let at_ := fun (v : SyncStatus) (l : Quad TierSet) => ({ plant with
      syncSet := if v = .queued then [1] else []
      taps := [(1, { plant.tap 1 with sync := v, lastSent := some ⟨l, 1⟩ })] } : State)
    let wants : Quad TierSet := ⟨3, 0, 0, 0⟩
    (plant.tap 512).installed = false ∧
    (∀ v, ((at_ v wants).tap 1).sync = v ∧ ((at_ v wants).tap 1).installed = true ∧ TablesSound (at_ v wants)) ∧
    (((at_ .mismatch wants).tap 1).lastSent = some ⟨wants, 1⟩ ∧
      ((at_ .mismatch ⟨7, 0, 0, 0⟩).tap 1).lastSent = some ⟨⟨7, 0, 0, 0⟩, 1⟩ ∧
      (7 : TierSet) ≠ (at_ .mismatch ⟨7, 0, 0, 0⟩).desiredMask 1 1) ∧
    (∀ p, (1 ≤ p ∧ p ≤ 4) → wants.get p = (at_ .mismatch wants).desiredMask 1 p) ∧
    255 ≠ plant.revision := by
  refine ⟨by decide, fun v => ?_, by decide +kernel, fun p hp => ?_, by decide⟩
  · cases v <;> exact ⟨rfl, rfl, by unfold TablesSound; decide +kernel⟩
  · obtain ⟨h1, h2⟩ := hp; interval_cases p <;> decide +kernel

/-- `live` with one watch record in the state given. -/
def watching (b : Nat) (w : Watch) : State := { live with watches := [(b, w)] }

theorem witness_survey_times :
    let w : Watch := { plant.watch 1 with recoveryDue := some 7 }
    live.engine.returnOn = true ∧ (1 ≤ 64 ∧ 64 ≤ 64) ∧
    (((watching 1 w).watch 1).state = .watching ∧ ((watching 1 w).watch 1).due = some 225000 ∧
      ((watching 1 w).watch 1).deadline = some 300000) ∧
    (((watching 64 { w with state := .pollDue }).watch 64).state = .pollDue ∧
      ((watching 64 { w with state := .pollDue }).watch 64).deadlinePassed = false ∧
      ((watching 64 { w with state := .pollDue }).watch 64).deadline = some 300000) ∧
    (((watching 64 { w with state := .silent, recovery := .waiting }).watch 64).recovery = .waiting ∧
      ((watching 64 { w with state := .silent, recovery := .waiting }).watch 64).recoveryDue = some 7) ∧
    live.survey.auditTimer = 5000 ∧ live.survey.clock ≤ surveyClockMax ∧ surveyClockMax ≤ surveyClockMax := by
  decide +kernel

theorem witness_poll_completion :
    let w : Watch := { plant.watch 1 with state := .polled }
    let v : Watch := { w with state := .silent, recovery := .polled }
    (TablesSound (watching 1 w) ∧ ((watching 1 w).watch 1).state = .polled ∧
      ((watching 1 w).watch 1).deadlinePassed = false ∧ (watching 1 w).engine.returnOn = true) ∧
    (TablesSound (watching 1 v) ∧ ((watching 1 v).watch 1).state = .silent ∧
      ((watching 1 v).watch 1).recovery = .polled) ∧
    (TablesSound (watching 1 { w with deadlinePassed := true }) ∧
      ((watching 1 { w with deadlinePassed := true }).watch 1).deadlinePassed = true) ∧
    (plant.watch 1).state ≠ .polled ∧ (plant.watch 1).state ≠ .silent ∧ plant.engine.returnOn = false := by
  unfold TablesSound; dsimp only; constructorm* _ ∧ _ <;> decide +kernel

theorem witness_reports :
    let mains : StationReport := ⟨.mains, false, 0⟩
    let gone : StationReport := ⟨.failed, true, 999⟩
    (mains.supply ≠ .failed ∧ gone.supply = .failed ∧ mains.supply ≠ .standby ∧ gone.supply ≠ .standby ∧
      mains.doorOpen = false ∧ gone.doorOpen = true ∧
      (⟨.standby, true, 0⟩ : StationReport).supply = .standby) ∧
    AlarmsSound alarmed ∧ TablesSound alarmed ∧
    TablesSound (watching 1 { plant.watch 1 with state := .polled, lastReport := some mains }) :=
  ⟨by decide, alarmed_sound, plant_tables, by unfold TablesSound; decide⟩

/-- `plant` with the accrual engine as given. -/
def counting (m : Nat) (sweep : Option Sweep) (pending close : Bool) : State :=
  { plant with billing := { plant.billing with
      m := m, sweep := sweep, tickPending := pending, closeWaiting := close } }

theorem witness_minute_tick :
    TablesSound plant ∧
    ((counting 65534 none false false).billing.sweep = none ∧ (counting 65534 none false false).billing.m < 65535) ∧
    ((counting 65535 none false false).billing.sweep = none ∧ 65535 ≤ (counting 65535 none false false).billing.m) ∧
    ((counting 2 (some ⟨1, none⟩) false false).billing.sweep.isSome = true ∧
      (counting 2 (some ⟨1, none⟩) false false).billing.tickPending = false) ∧
    ((counting 2 (some ⟨1, none⟩) true false).billing.tickPending = true ∧
      TablesSound (counting 2 (some ⟨1, none⟩) true false)) ∧
    (let s : State := { alarmed with engine := { plant.engine with noiseActive := true } }
     TablesSound s ∧ AlarmsSound s ∧ s.engine.noiseActive = true ∧ s.engine.noiseCount = 0) :=
  ⟨by unfold TablesSound; decide, by decide, by decide, by decide, by unfold TablesSound; decide,
    plant_tables, alarmed_sound, rfl, rfl⟩

/-- The state of `s` once minute 12 has been taken and its events evaluated. -/
def evaluated (s : State) : State :=
  evaluateEvents arbitrate 12 { passTime 60000 s with
    billing := { s.billing with clock := 12, minuteTimer := 120000 } }

theorem witness_events_at_the_tick :
    ((if plant.billing.clock < 4294967295 then plant.billing.clock + 1 else 0) = 12 ∧
      plant.billing.minuteTimer - plant.now = 60000) ∧
    ((evaluated plant).events = plant.events ∧ (plant.event 2).state = .showing ∧
      (plant.event 2).shown < (plant.event 2).duration.getD 0) ∧
    (∀ k, (plant.event k).state = .showing → k = 2) ∧
    (evaluated { plant with events := [] }).events = [] := by
  refine ⟨by decide, by decide +kernel, ?_, by decide +kernel⟩
  exact only_record (P := fun r : Event => r.state = .showing) _ plant.events 2 (by decide) (by decide)

theorem witness_sweep_visit :
    ((counting 2 (some ⟨1, none⟩) false false).billing.sweep = some ⟨1, none⟩ ∧
      TablesSound (counting 2 (some ⟨1, none⟩) false false) ∧ 1 < 2048 ∧ (plant.sub 1).status ≠ .free ∧
      tabWf .cold (plant.sub 1).counters = true) ∧
    ((counting 2 (some ⟨2047, none⟩) false false).billing.sweep = some ⟨2047, none⟩ ∧
      (plant.sub 2047).status = .free) ∧
    ((counting 2 (some ⟨2048, none⟩) false false).billing.closeWaiting = false ∧
      (counting 2 (some ⟨2048, none⟩) false false).billing.tickPending = false) ∧
    ((counting 65534 (some ⟨2048, none⟩) true false).billing.tickPending = true ∧
      (counting 65534 (some ⟨2048, none⟩) true false).billing.m < 65535) ∧
    (counting 2 (some ⟨2048, none⟩) true true).billing.closeWaiting = true := by
  unfold TablesSound; constructorm* _ ∧ _ <;> decide +kernel

/-- A CYCLE CLOSE in progress at the last visit of the sweep. -/
theorem witness_waited_close :
    let s := (counting 2 (some ⟨2048, none⟩) true true).setPort .office
      { plant.port .office with inProgress := some (request 9 []) }
    s.billing.sweep = some ⟨2048, none⟩ ∧ TablesSound s ∧ s.billing.closeWaiting = true ∧
    (s.port .office).inProgress = some (request 9 []) := by
  unfold TablesSound; dsimp only; constructorm* _ ∧ _ <;> decide +kernel

/-- `plant` with subscriber 1 a buyer of the SHOWING event 2, tier 7 in C as said, and a sweep that shows it. -/
def viewing (c : TierSet) (age : Option Nat) : State :=
  { counting 2 (some ⟨1, some 2⟩) false false with
    subs := [(1, { plant.sub 1 with c := c, purchases := [⟨2, 0, 0, 0, .unsettled, none⟩] })]
    tierEpisodes := match age with
      | some a => [(7, ⟨true, some 10, a⟩)]
      | none => [] }

theorem witness_viewing :
    (TablesSound (viewing 128 none) ∧ (viewing 128 none).billing.sweep = some ⟨1, some 2⟩ ∧
      ((viewing 128 none).event 2).state = .showing ∧ hasTier ((viewing 128 none).sub 1).c 7 = true ∧
      hasTier ((viewing 3 none).sub 1).c 7 = false ∧
      ((viewing 128 none).episodeOf ((viewing 128 none).sub 1)).isOpen = false) ∧
    (((viewing 128 (some 30)).tierEpisode 7).isOpen = true ∧
      (viewing 128 (some 30)).billing.tc ≤ ((viewing 128 (some 30)).tierEpisode 7).age) ∧
    (((viewing 128 (some 29)).tierEpisode 7).isOpen = true ∧
      ¬ (viewing 128 (some 29)).billing.tc ≤ ((viewing 128 (some 29)).tierEpisode 7).age) := by
  unfold TablesSound; constructorm* _ ∧ _ <;> decide +kernel

/-- Two branches, one below the other, whose inputs have changed: 1 is now forced out or no longer so. -/
def deciding (forced : Bool) : State :=
  { alarmed with
    branches := [(1, { Branch.cold with
        defined := true, installedTaps := 1, forced := forced, out := !forced, affected := !forced }),
      (2, { Branch.cold with
        defined := true, parent := some 1, forced := true, out := true, affected := true,
        shadowed := !forced })]
    taps := [(1, { plant.tap 1 with reach := .unreachable })]
    watches := [(2, { Watch.cold with state := .silent })] }

theorem witness_correlation :
    (TablesSound (deciding true) ∧ TablesSound (deciding false) ∧ AlarmsSound (deciding true) ∧
      AlarmsSound (deciding false)) ∧
    (((deciding true).branch 1).affected = false ∧ ((decideBranches (deciding true)).branch 1).affected = true ∧
      ((deciding true).branch 2).shadowed = false ∧
      ((decideBranches (deciding true)).branch 2).shadowed = true) ∧
    (((deciding false).branch 1).affected = true ∧ ((decideBranches (deciding false)).branch 1).affected = false ∧
      ((deciding false).branch 2).shadowed = true ∧
      ((decideBranches (deciding false)).branch 2).shadowed = false ∧
      ((decideBranches (deciding false)).branch 2).out = true) ∧
    (((deciding false).tap 1).installed = true ∧ ((deciding false).tap 1).branch = some 1 ∧
      ((deciding false).tap 1).reach = .unreachable ∧ ((deciding false).watch 2).state = .silent) := by
  refine ⟨⟨?_, ?_, alarmed_sound, alarmed_sound⟩, ?_, ?_, ?_⟩
  · unfold TablesSound; decide +kernel
  · unfold TablesSound; decide +kernel
  · decide +kernel
  · decide +kernel
  · decide +kernel

theorem witness_alarms_raised_and_ended :
    wired.gateOpen .tapUnreachable 2 = false ∧
    (alarmed.alarm .sourceLost 1 = some lastAlarm ∧ lastAlarm.state = .active) ∧
    (alarmed.gateOpen .sourceLost 24 = true ∧ alarmed.alarm .sourceLost 24 = none ∧
      alarmed.alarms.records.length < 128) ∧
    ((fullList .active).gateOpen .sourceLost 24 = true ∧ (fullList .active).alarm .sourceLost 24 = none ∧
      128 ≤ (fullList .active).alarms.records.length ∧
      ∀ r ∈ (fullList .active).alarms.records, r.state = .active) ∧
    ((fullList .cleared).alarm .sourceLost 24 = none ∧
      (fullList .cleared).alarms.records
        = [] ++ { officeAlarm with serial := 1, object := 1 } :: (fullList .cleared).alarms.records.tail) ∧
    (alarmed.alarms.records = [] ++ officeAlarm :: [lastAlarm] ∧
      officeAlarm.kind = .branchOut ∧ officeAlarm.object = 1 ∧ officeAlarm.state = .cleared ∧
      alarmed.gateOpen .branchOut 1 = true) ∧
    (alarmed.alarms.records = [officeAlarm] ++ lastAlarm :: [] ∧
      ∀ r ∈ [officeAlarm], ¬ (r.kind = .sourceLost ∧ r.object = 1)) ∧
    plant.alarm .branchOut 64 = none := by
  constructorm* _ ∧ _ <;> decide +kernel

/-! ### States that meet the invariants -/

/-- `plant` with a minute tick waiting. -/
def ticking : State :=
  { plant with pending := [.minuteTick], tierCount := [(7, 1)], tierEpisodes := [(7, ⟨true, some 10, 1⟩)] }

theorem ticking_steps : ∃ t, step ticking = .next t := ⟨_, rfl⟩
theorem ticking_tables : TablesSound ticking := by unfold TablesSound; decide

/-- A slot record is sound where the decidable part holds and its level, if ON, lies in its range. -/
theorem slot_sound (r : Slot)
    (h : within 100 600 r.target = true ∧ within 100 r.target r.floorLevel = true ∧
      within 1 31 r.period = true ∧ r.tier ≤ 7 ∧ within 100 600 r.aimLevel = true ∧
      (r.carrierOn = false → r.level = none ∧ r.ramp = .steady ∧ r.aim = .off))
    (hl : r.carrierOn = true → r.level.isSome = true ∧ within 100 600 (r.level.getD 0) = true)
    (hs : r.carrierOn = true → r.ramp = .steady → r.level = some r.aimLevel ∧ r.aim ≠ .off)
    (ht : r.ramp = .ramping ↔ r.stepTimer.isSome = true) : SlotSound r := by
  obtain ⟨h1, h2, h3, h4, h5, h6⟩ := h
  refine ⟨h1, h2, h3, h4, h5, h6, fun hc => ?_, hs, ht⟩
  obtain ⟨a, b⟩ := hl hc
  obtain ⟨l, hl'⟩ := Option.isSome_iff_exists.1 a
  exact ⟨l, hl', by rw [hl'] at b; exact b⟩

theorem ticking_slots : SlotsSound ticking := fun n => by
  refine every_record (P := SlotSound) _ _ (slot_sound _ (by decide) (by decide) (by decide) (by decide)) ?_ n
  intro e he
  simp only [ticking, plant, List.mem_cons, List.not_mem_nil, or_false] at he
  rcases he with rfl | rfl <;> exact slot_sound _ (by decide) (by decide) (by decide) (by decide)

theorem ticking_decided : DecidedSound ticking := fun n _ =>
  every_record
    (P := fun r : Slot => r.owed = r.isOwed ∧
      r.sourceLost = (r.isOwed && ticking.sourceIsLost r) ∧ r.shed = r.isShed .mains ∧
      (r.aim, r.aimLevel) = r.aimIn .mains)
    _ ticking.slots (by decide) (by decide) n

theorem ticking_tier_counts : TierCountsSound ticking := by unfold TierCountsSound; decide

theorem ticking_engine : EngineSound ticking := by
  refine ⟨by decide, by decide, by decide, by decide, fun x (h : none = some x) => ?_, by decide, by decide⟩
  cases h

theorem ticking_sync : SyncSound ticking := by
  refine ⟨by decide, fun t => ?_, fun x (h : none = some x) => ?_, fun t => ?_⟩
  · have : (ticking.tap t).sync ≠ .queued :=
      every_record (P := fun r : Tap => r.sync ≠ .queued) _ ticking.taps (by decide) (by decide) t
    simp [this, show ticking.syncSet = [] from rfl]
  · cases h
  · exact every_record (P := fun r : Tap => r.installed = false → r.sync = .inStep) _ ticking.taps
      (by decide) (by decide) t

theorem ticking_branches : BranchesSound ticking := fun n => by
  have hp : (ticking.branch n).parent = none :=
    every_record (P := fun r : Branch => r.parent = none) _ ticking.branches (by decide) (by decide) n
  have ha : ticking.ancestorOut n = false := by
    simp [State.ancestorOut, State.ancestorsOf, State.ancestors, hp]
  rw [ha]
  exact every_record
    (P := fun r : Branch => r.out = r.isOut ∧ r.affected = (r.out || false) ∧ r.shadowed = (r.out && false))
    _ ticking.branches (by decide) (by decide) n

theorem ticking_branch_counts : BranchCountsSound ticking := fun n => by
  by_cases h : n = 1
  · subst h; decide
  · have : ticking.branch n = .cold := by simp [State.branch, ticking, plant, tabGet, Ne.symm h]
    rw [this]
    simp [tabWhere, ticking, plant, Ne.symm h, Branch.cold]

theorem ticking_counters : CountersSound ticking := by
  refine ⟨by decide, by decide, fun n => ⟨?_, ?_, fun t => ?_⟩⟩
  · exact every_record (P := fun r : Subscriber => r.status = .free → r = .cold) _ ticking.subs
      (by decide) (by decide) n
  · exact every_record (P := fun r : Subscriber => tabWf .cold r.counters = true) _ ticking.subs
      (by decide) (by decide) n
  · have none : CountSound 2 (tabGet .cold [] t) := ⟨Nat.zero_le _, Nat.zero_le _, Nat.zero_le _⟩
    refine every_record (P := fun r : Subscriber => CountSound 2 (r.count t)) _ ticking.subs ?_ ?_ n
    · exact none
    · intro e he
      simp only [ticking, plant, List.mem_cons, List.not_mem_nil, or_false] at he
      rcases he with rfl | rfl
      · exact every_record (P := CountSound 2) _ [(0, ⟨2, 0, 1⟩)] ⟨by decide, by decide, by decide⟩
          (by simp [CountSound]) t
      · exact none

theorem ticking_claims : ClaimsSound ticking := by
  have one : ∀ n, (ticking.sub n).status = .active → n = 1 := fun n =>
    only_record (P := fun r : Subscriber => r.status = .active) _ ticking.subs 1 (by decide) (by decide) n
  refine ⟨fun n h => ?_, fun n k hn hk _ _ => by rw [one n hn, one k hk]⟩
  rw [one n h]
  exact ⟨1, 1, rfl, rfl, rfl, rfl⟩

theorem ticking_events : EventsSound ticking := by
  have two : ∀ n, (ticking.event n).isLive → n = 1 ∨ n = 2 := fun n h => by
    simpa [ticking, plant] using
      listed_record (P := Event.isLive) _ ticking.events (by simp [Event.isLive, Event.cold]) n h
  refine ⟨fun n h => ?_, fun n k hn hk hne => ?_, fun n h => ?_, fun n h => ?_⟩
  · obtain rfl | rfl := two n h <;> decide
  · obtain rfl | rfl := two n hn <;> obtain rfl | rfl := two k hk <;> first | exact absurd rfl hne | decide
  · obtain rfl | rfl := two n (.inl h)
    · decide
    · cases h
  · obtain rfl | rfl := two n (.inr h)
    · cases h
    · decide

/-- Tier 7 of `ticking` is impaired by the slot of its SHOWING event, which is not owed: its episode is open. -/
theorem ticking_episodes : EpisodesSound ticking := by
  refine ⟨fun n => ?_, fun t ht => ?_⟩
  · have ha : (ticking.branch n).affected = false :=
      every_record (P := fun r : Branch => r.affected = false) _ ticking.branches (by decide) (by decide) n
    rw [ha]
    exact ⟨rfl, fun h => Bool.noConfusion (show false = true from h), fun _ => rfl⟩
  · have all : ∀ t, t < 8 → EpisodeSound (ticking.tierEpisode t) (decide (ticking.heldCount t ≠ 0)) := by
      unfold EpisodeSound; decide
    exact all t ht

theorem ticking_purchases : PurchasesSound ticking := by
  have entry : ∀ n, n ≠ 1 → (ticking.sub n).purchases = [] := fun n hn => by
    by_contra h
    exact hn (only_record (P := fun r : Subscriber => r.purchases ≠ []) _ ticking.subs 1 (by decide)
      (by decide) n h)
  refine ⟨fun n => ?_, fun e => ?_, fun w e (h : none = some w) => by cases h⟩
  · by_cases hn : n = 1
    · subst hn
      refine ⟨by decide, by decide, by decide, by decide, fun p hp => ?_⟩
      have hp : p = ⟨1, 0, 0, 0, .unsettled, none⟩ := by simpa [ticking, plant, State.sub, tabGet] using hp
      subst hp
      refine ⟨by decide, ⟨fun _ => .inl rfl, fun _ => rfl⟩, by decide, fun c h => (by cases h), by decide, by decide⟩
    · rw [entry n hn]
      exact ⟨by decide, by decide, by decide, fun _ => rfl, fun p hp => by cases hp⟩
  · by_cases h1 : e = 1
    · subst h1; decide
    by_cases h2 : e = 2
    · subst h2; decide
    have hc : ticking.event e = .cold := by
      simp [ticking, plant, State.event, tabGet, Ne.symm h1, Ne.symm h2]
    rw [hc]
    refine ⟨?_, by decide, fun _ => rfl, by decide⟩
    simp [State.buyersOf, tabWhere, ticking, plant, Subscriber.cold, Event.cold, Ne.symm h1]

theorem witness_restarts_keep_records : TablesSound ticking ∧ EventsSound ticking ∧ 1 ≤ 40 ∧ 40 ≤ 40 :=
  ⟨ticking_tables, ticking_events, by decide, by decide⟩

theorem witness_settings_and_ports : ArbiterSound ticking ∧ SettingsSound ticking ∧ PortsSound ticking ∧
    ∃ t, step ticking = .next t := by
  refine ⟨?_, ?_, fun p => ?_, ticking_steps⟩
  · unfold ArbiterSound; decide
  · unfold SettingsSound; decide
  · cases p <;> exact ⟨by decide, by decide, by decide⟩

/-- The end of the due time of a poll waits, with the carrier free. -/
def resting : State := { audited false with pending := [.pollDueTime 1] }

theorem witness_arbiter_rests : ArbiterSound resting ∧ ArbiterRests resting ∧ resting.engine.state = .idle ∧
    resting.engine.carrierOn = true ∧ ∃ t, step resting = .next t :=
  ⟨by unfold ArbiterSound; decide, fun _ _ r => by cases r <;> decide +kernel, rfl, rfl, ⟨_, rfl⟩⟩

theorem witness_tables_and_slots : TablesSound ticking ∧ SlotsSound ticking ∧ DecidedSound ticking ∧
    TierCountsSound ticking ∧ ∃ t, step ticking = .next t :=
  ⟨ticking_tables, ticking_slots, ticking_decided, ticking_tier_counts, ticking_steps⟩

theorem witness_alarms_stay_sound : AlarmsSound alarmed ∧ ∃ t, step alarmed = .next t :=
  ⟨alarmed_sound, ⟨_, rfl⟩⟩

theorem ticking_alarms : AlarmsSound ticking := by
  refine ⟨by decide, by decide, by decide, by decide, fun r hr => ?_⟩
  simp only [ticking, plant, State.reset, List.mem_cons, List.not_mem_nil, or_false] at hr
  subst hr
  exact ⟨by decide, fun p => by cases p <;> decide, by decide⟩

/-- The only condition of `ticking` that is true is MONITOR_OFF, whose record is ACTIVE. -/
theorem ticking_conditions : ConditionsSound ticking := by
  intro k o ho
  by_cases hk : k = .monitorOff
  · subst hk
    obtain rfl : o = 0 := by simpa [AlarmKind.objects] using ho
    exact ⟨fun _ => .inl ⟨_, rfl, rfl⟩, fun h => Bool.noConfusion (show true = false from h)⟩
  · have untrue : ∀ o ∈ k.objects, (ticking.conditionTrue k o && ticking.gateOpen k o) = false := by
      cases k <;> first | exact absurd rfl hk | decide +kernel
    have unlisted : ticking.alarm k o = none := by
      simp [State.alarm, ticking, plant, State.reset, Ne.symm hk]
    refine ⟨fun h => ?_, fun _ r hr => ?_⟩
    · rw [untrue o ho] at h; cases h
    · rw [unlisted] at hr; cases hr

theorem ticking_watches : WatchesSound ticking := fun n => by
  by_cases h : n = 1
  · subst h; decide
  · have hw : ticking.watch n = .cold := by simp [State.watch, ticking, plant, tabGet, Ne.symm h]
    have hb : ticking.branch n = .cold := by simp [State.branch, ticking, plant, tabGet, Ne.symm h]
    have hc : ticking.conditionTrue .stationSupplyFailed n = false := by
      simp [State.conditionTrue, State.reportIs, hw, Watch.cold]
    simp [hw, hb, hc, Watch.cold, Branch.cold]

theorem ticking_steps_sound : StepsSound ticking := fun t ht => by
  have : t = 1 := only_record (P := fun r : Tap => r.installed = true) _ ticking.taps 1 (by decide) (by decide) t ht
  subst this; decide +kernel

theorem witness_conditions_stay_sound : TablesSound ticking ∧ EngineSound ticking ∧ SyncSound ticking ∧
    WatchesSound ticking ∧ AlarmsSound ticking ∧ ConditionsSound ticking ∧ ∃ t, step ticking = .next t :=
  ⟨ticking_tables, ticking_engine, ticking_sync, ticking_watches, ticking_alarms, ticking_conditions, ticking_steps⟩

theorem witness_steps_stay_sound : TablesSound ticking ∧ PurchasesSound ticking ∧ StepsSound ticking ∧
    ∃ t, step ticking = .next t :=
  ⟨ticking_tables, ticking_purchases, ticking_steps_sound, ticking_steps⟩

theorem witness_engine_sync_and_branches : TablesSound ticking ∧ EngineSound ticking ∧ SyncSound ticking ∧
    BranchesSound ticking ∧ BranchCountsSound ticking ∧ ∃ t, step ticking = .next t :=
  ⟨ticking_tables, ticking_engine, ticking_sync, ticking_branches, ticking_branch_counts, ticking_steps⟩

theorem witness_episodes_and_purchases : TablesSound ticking ∧ EpisodesSound ticking ∧ EventsSound ticking ∧
    PurchasesSound ticking ∧ ∃ t, step ticking = .next t :=
  ⟨ticking_tables, ticking_episodes, ticking_events, ticking_purchases, ticking_steps⟩

theorem witness_counters_claims_and_events : TablesSound ticking ∧ CountersSound ticking ∧
    ClaimsSound ticking ∧ EventsSound ticking ∧ ∃ t, step ticking = .next t :=
  ⟨ticking_tables, ticking_counters, ticking_claims, ticking_events, ticking_steps⟩

end Sys2Proof.Tests
end

namespace Sys2Proof.Machine

/-! ## What every operation keeps of the tables and of the head end

`HeadKept s t` says that `t` is as sound as `s`: every table keeps its canonical form, every slot its ranges and its
decisions, every tier its count. It is reflexive and transitive, and it is proved once for each operation of the model; the
invariants of a step are its parts. `SlotsKept` leaves the tier counts out: it is what an act on the slots keeps until the
correlator decides. -/

/-- The part of the state that the tables' form and the head end's soundness read. -/
def State.records (s : State) : State :=
  { State.reset with
    sources := s.sources, slots := s.slots, subs := s.subs, taps := s.taps, watches := s.watches
    branches := s.branches, events := s.events, tierCount := s.tierCount
    branchEpisodes := s.branchEpisodes, tierEpisodes := s.tierEpisodes
    billing := { State.reset.billing with rates := s.billing.rates }
    power := { State.reset.power with mode := s.power.mode } }

/-- What the slots' decisions and the tier counts are made from. -/
def State.headEnd (s : State) : State :=
  { State.reset with
    sources := s.sources, slots := s.slots, events := s.events, tierCount := s.tierCount
    power := { State.reset.power with mode := s.power.mode } }

/-- What an act on the slots keeps, before the correlator decides the tiers. -/
structure SlotsKept (s t : State) : Prop where
  tables : TablesSound s → TablesSound t
  slots : TablesSound s → SlotsSound s → SlotsSound t
  decided : TablesSound s → DecidedSound s → DecidedSound t

/-- What a whole act keeps. -/
structure HeadKept (s t : State) : Prop extends SlotsKept s t where
  counts : TablesSound s → TierCountsSound s → TierCountsSound t

section Relation
variable {s t u : State}

theorem SlotsKept.trans (h : SlotsKept s t) (h' : SlotsKept t u) : SlotsKept s u :=
  ⟨fun hs => h'.tables (h.tables hs), fun hs hr => h'.slots (h.tables hs) (h.slots hs hr),
    fun hs hr => h'.decided (h.tables hs) (h.decided hs hr)⟩

theorem HeadKept.refl (s : State) : HeadKept s s :=
  ⟨⟨fun h => h, fun _ h => h, fun _ h => h⟩, fun _ h => h⟩

theorem HeadKept.trans (h : HeadKept s t) (h' : HeadKept t u) : HeadKept s u :=
  ⟨h.toSlotsKept.trans h'.toSlotsKept, fun hs hr => h'.counts (h.tables hs) (h.counts hs hr)⟩

/-- An act that leaves the head end and keeps the tables' form. -/
theorem HeadKept.of_headEnd (h : t.headEnd = s.headEnd) (ht : TablesSound s → TablesSound t) :
    HeadKept s t where
  tables := ht
  slots _ hs := show SlotsSound t.headEnd from h ▸ hs
  decided _ hs := show DecidedSound t.headEnd from h ▸ hs
  counts _ hs := show TierCountsSound t.headEnd from h ▸ hs

/-- An act that leaves the tables and the power mode. -/
theorem HeadKept.of_records (h : t.records = s.records) : HeadKept s t :=
  .of_headEnd (show t.records.headEnd = _ from h ▸ rfl) fun hs => show TablesSound t.records from h ▸ hs

/-- A posting to the alarm list, or a message to a master. -/
theorem HeadKept.of_butAlarms (h : t.butAlarms = s.butAlarms) : HeadKept s t :=
  .of_records (show t.butAlarms.records = _ from h ▸ rfl)

theorem HeadKept.of_butPorts (h : t.butPorts = s.butPorts) : HeadKept s t :=
  .of_butAlarms (butAlarms_of_butPorts h)

theorem HeadKept.ite {c : Prop} [Decidable c] (h : HeadKept s t) (h' : HeadKept s u) :
    HeadKept s (if c then t else u) := by split <;> assumption

/-- A fold of acts. -/
theorem forEach_kept (l : List Nat) {f : Nat → State → State} (h : ∀ n s, HeadKept s (f n s)) (s : State) :
    HeadKept s (forEach l f s) :=
  forEach_keeps (P := HeadKept s) l f (fun n _ t ht => ht.trans (h n t)) s (.refl s)

/-- A fold of acts on the slots. -/
theorem forEach_slotsKept (l : List Nat) {f : Nat → State → State} (h : ∀ n s, SlotsKept s (f n s)) (s : State) :
    SlotsKept s (forEach l f s) :=
  forEach_keeps (P := SlotsKept s) l f (fun n _ t ht => ht.trans (h n t)) s (HeadKept.refl s).toSlotsKept

end Relation

/-! ### Writes of the tables -/

section Writes
variable {s : State}

theorem TablesSound.setSource (h : TablesSound s) (n : Nat) (v : Source) : TablesSound (s.setSource n v) := by
  simp_all [TablesSound, tabWf_tabPut]
theorem TablesSound.setSlot (h : TablesSound s) (n : Nat) (v : Slot) : TablesSound (s.setSlot n v) := by
  simp_all [TablesSound, tabWf_tabPut]
theorem TablesSound.setSub (h : TablesSound s) (n : Nat) (v : Subscriber) : TablesSound (s.setSub n v) := by
  simp_all [TablesSound, tabWf_tabPut]
theorem TablesSound.setTap (h : TablesSound s) (n : Nat) (v : Tap) : TablesSound (s.setTap n v) := by
  simp_all [TablesSound, tabWf_tabPut]
theorem TablesSound.setWatch (h : TablesSound s) (n : Nat) (v : Watch) : TablesSound (s.setWatch n v) := by
  simp_all [TablesSound, tabWf_tabPut]
theorem TablesSound.setBranch (h : TablesSound s) (n : Nat) (v : Branch) : TablesSound (s.setBranch n v) := by
  simp_all [TablesSound, tabWf_tabPut]
theorem TablesSound.setEvent (h : TablesSound s) (n : Nat) (v : Event) : TablesSound (s.setEvent n v) := by
  simp_all [TablesSound, tabWf_tabPut]
theorem TablesSound.setBranchEpisode (h : TablesSound s) (n : Nat) (v : Episode) :
    TablesSound (s.setBranchEpisode n v) := by
  simp_all [TablesSound, tabWf_tabPut]
theorem TablesSound.setTierEpisode (h : TablesSound s) (n : Nat) (v : Episode) :
    TablesSound (s.setTierEpisode n v) := by
  simp_all [TablesSound, tabWf_tabPut]

theorem TablesSound.sources (h : TablesSound s) : tabWf .cold s.sources = true := h.1
theorem TablesSound.slots (h : TablesSound s) : tabWf .cold s.slots = true := h.2.1
theorem TablesSound.subs (h : TablesSound s) : tabWf .cold s.subs = true := h.2.2.1
theorem TablesSound.taps (h : TablesSound s) : tabWf .cold s.taps = true := h.2.2.2.1
theorem TablesSound.watches (h : TablesSound s) : tabWf .cold s.watches = true := h.2.2.2.2.1
theorem TablesSound.branches (h : TablesSound s) : tabWf .cold s.branches = true := h.2.2.2.2.2.1
theorem TablesSound.events (h : TablesSound s) : tabWf .cold s.events = true := h.2.2.2.2.2.2.1
theorem TablesSound.tierCount (h : TablesSound s) : tabWf 0 s.tierCount = true := h.2.2.2.2.2.2.2.1

end Writes

theorem setSub_kept (n : Nat) (v : Subscriber) (s : State) : HeadKept s (s.setSub n v) :=
  .of_headEnd rfl fun h => h.setSub n v
theorem setTap_kept (n : Nat) (v : Tap) (s : State) : HeadKept s (s.setTap n v) :=
  .of_headEnd rfl fun h => h.setTap n v
theorem setWatch_kept (n : Nat) (v : Watch) (s : State) : HeadKept s (s.setWatch n v) :=
  .of_headEnd rfl fun h => h.setWatch n v
theorem setBranch_kept (n : Nat) (v : Branch) (s : State) : HeadKept s (s.setBranch n v) :=
  .of_headEnd rfl fun h => h.setBranch n v
theorem setBranchEpisode_kept (n : Nat) (v : Episode) (s : State) : HeadKept s (s.setBranchEpisode n v) :=
  .of_headEnd rfl fun h => h.setBranchEpisode n v

/-! ### Time, messages and alarms -/

theorem passTime_kept (d : Nat) (s : State) : HeadKept s (passTime d s) :=
  .of_records (by simp [State.records])
theorem setPort_kept (p : Master) (q : Port) (s : State) : HeadKept s (s.setPort p q) :=
  .of_butPorts (setPort_butPorts p q s)
theorem putAnswer_kept (p : Master) (m : Msg) (a : Ans) (s : State) : HeadKept s (putAnswer p m a s) :=
  .of_butPorts (putAnswer_butPorts p m a s)
theorem putNotice_kept (p : Master) (k : Byte) (b : List Byte) (s : State) : HeadKept s (putNotice p k b s) :=
  .of_butPorts (putNotice_butPorts p k b s)
theorem noticeTo_kept (a : MasterSet) (k : Byte) (b : List Byte) (s : State) : HeadKept s (noticeTo a k b s) :=
  .of_butPorts (noticeTo_butPorts a k b s)
theorem raiseAlarm_kept (k : AlarmKind) (o : Nat) (s : State) : HeadKept s (raiseAlarm k o s) :=
  .of_butAlarms (raiseAlarm_butAlarms k o s)
theorem endAlarm_kept (k : AlarmKind) (o : Nat) (s : State) : HeadKept s (endAlarm k o s) :=
  .of_butAlarms (endAlarm_butAlarms k o s)
theorem postChange_kept (k : AlarmKind) (o : Nat) (b a : Bool) (s : State) : HeadKept s (postChange k o b a s) :=
  .of_butAlarms (postChange_butAlarms k o b a s)

/-- R138: the clearing of untrue records changes the alarm list alone. -/
theorem clearUntrue_butAlarms (s : State) : (clearUntrue s).butAlarms = s.butAlarms := by
  unfold clearUntrue
  generalize s.alarms.records = l
  induction l generalizing s with
  | nil => rfl
  | cons r l ih =>
    rw [List.foldl_cons, ih]
    split
    · rfl
    · exact endAlarm_butAlarms _ _ _

/-! ### The outage correlator's branches -/

theorem handOnBranch_kept (old : Branch) (n : Nat) (s : State) : HeadKept s (handOnBranch old n s) := by
  unfold handOnBranch
  extract_lets new s1 s2 s3
  have h1 : HeadKept s s1 := setBranchEpisode_kept _ _ _
  have h2 : HeadKept s s2 := h1.trans (postChange_kept _ _ _ _ _)
  have h3 : HeadKept s s3 :=
    .ite (h2.trans (.of_butAlarms (by simp))) (.ite (h2.trans (.of_butAlarms (by simp))) h2)
  exact .ite (h3.trans (.of_butAlarms (by simp))) (.ite (h3.trans (.of_butAlarms (by simp))) h3)

theorem decideBranches_kept (s : State) : HeadKept s (decideBranches s) := by
  unfold decideBranches
  extract_lets keys s1 s2
  have h1 : HeadKept s s1 := .of_headEnd rfl fun h => by simp_all [TablesSound, s1, tabWf_tabMap]
  have h2 : HeadKept s s2 := h1.trans (forEach_kept _ (fun n s => setBranch_kept _ _ _) _)
  exact h2.trans (forEach_kept _ (fun n s => handOnBranch_kept _ _ _) _)

theorem changeBranch_kept (n : Nat) (f : Branch → Branch) (s : State) : HeadKept s (changeBranch n f s) :=
  (setBranch_kept n _ s).trans (decideBranches_kept _)

theorem postReach_kept (b : Option Nat) (x y : Bool) (s : State) : HeadKept s (postReach b x y s) := by
  unfold postReach
  split
  · exact .refl s
  · exact .ite (changeBranch_kept _ _ _) (.ite (changeBranch_kept _ _ _) (.refl s))

theorem recountTaps_kept (n : Nat) (s : State) : HeadKept s (recountTaps n s) := setBranch_kept _ _ _

/-! ### Taps and the port synchroniser -/

theorem setSync_kept (n : Nat) (v : SyncStatus) (s : State) : HeadKept s (setSync n v s) :=
  (setTap_kept n _ s).trans (postChange_kept _ _ _ _ _)

theorem enterSync_kept (n : Nat) (s : State) : HeadKept s (enterSync n s) :=
  (HeadKept.of_records (by rfl)).trans (setSync_kept n .queued _)

theorem leaveSync_kept (n : Nat) (s : State) : HeadKept s (leaveSync n s) :=
  (HeadKept.of_records (by rfl)).trans (setSync_kept n .inStep _)

theorem entryTest_kept (n : Nat) (s : State) : HeadKept s (entryTest n s) := by
  unfold entryTest
  extract_lets r
  refine .ite ?_ (.refl s)
  split
  · exact .ite (enterSync_kept n s) (.refl s)
  · exact .ite (.refl s) (leaveSync_kept n s)
  · exact .refl s
  · exact .refl s
  · exact .ite (enterSync_kept n s) (.refl s)

theorem entryTestOf_kept (n : Option Nat) (s : State) : HeadKept s (entryTestOf n s) := by
  cases n with
  | none => exact .refl s
  | some n => exact entryTest_kept n s

theorem entryTestAll_kept (s : State) : HeadKept s (entryTestAll s) := forEach_kept _ entryTest_kept s

theorem postReachability_kept (n : Nat) (old : Reach) (s : State) : HeadKept s (postReachability n old s) :=
  (postReach_kept _ _ _ s).trans (postChange_kept _ _ _ _ _)

theorem setReach_kept (n : Nat) (v : Reach) (s : State) : HeadKept s (setReach n v s) :=
  (setTap_kept n _ s).trans (postReachability_kept _ _ _)

theorem confirmTiers_kept (n : Nat) (m : Quad TierSet) (s : State) : HeadKept s (confirmTiers n m s) :=
  forEach_kept _ (fun _ _ => setSub_kept _ _ _) s

theorem takeStatus_kept (n : Nat) (m : Quad TierSet) (r : Nat) (h : Bool) (s : State) :
    HeadKept s (takeStatus n m r h s) :=
  ((setTap_kept n _ s).trans (confirmTiers_kept _ _ _)).trans
    ((postReachability_kept _ _ _).trans (postChange_kept _ _ _ _ _))

theorem intakeReply_kept (n : Nat) (m : Quad TierSet) (r : Nat) (h : Bool) (s : State) :
    HeadKept s (intakeReply n m r h s) := by
  unfold intakeReply
  refine .ite ?_ (.refl s)
  have taken := takeStatus_kept n m r h s
  refine taken.trans ?_
  extract_lets t
  split
  · exact enterSync_kept n t
  · exact entryTest_kept n t
  · exact entryTest_kept n t
  · exact .ite (entryTest_kept n t) (setSync_kept n .inStep t)
  · exact .refl t

theorem portSetAnswered_kept (n : Nat) (q : Quad TierSet) (x : Option TierMap) (m : Quad TierSet) (r : Nat)
    (h : Bool) (s : State) : HeadKept s (portSetAnswered n q x m r h s) := by
  have taken := takeStatus_kept n m r h s
  exact .ite (taken.trans ((setSync_kept _ _ _).trans (entryTest_kept _ _)))
    (taken.trans ((setSync_kept _ _ _).trans (entryTest_kept _ _)))

theorem portSetFailed_kept (n : Nat) (o : TxnOutcome) (s : State) : HeadKept s (portSetFailed n o s) :=
  .ite ((setSync_kept _ _ s).trans (setReach_kept _ _ _)) ((enterSync_kept n s).trans (entryTest_kept _ _))

theorem rebuildSync_kept (s : State) : HeadKept s (rebuildSync s) :=
  (HeadKept.of_records (by rfl)).trans
    (forEach_kept _ (fun _ _ => .ite ((HeadKept.of_records (by rfl)).trans (setTap_kept _ _ _)) (setTap_kept _ _ _)) _)

/-! ### The plant survey -/

theorem postReport_kept (b : Nat) (old new : Option StationReport) (s : State) :
    HeadKept s (postReport b old new s) := by
  have ends : ∀ k f u, HeadKept u (endStation k f b old new u) := fun k f u =>
    .ite (endAlarm_kept k b u) (.refl u)
  have raises : ∀ k f u, HeadKept u (raiseStation k f b old new u) := fun k f u =>
    .ite (raiseAlarm_kept k b u) (.refl u)
  unfold postReport
  extract_lets s1 s2 s3 s4 s5 s6
  have h3 : HeadKept s s3 := (ends _ _ s).trans ((ends _ _ s1).trans (ends _ _ s2))
  have h6 : HeadKept s s6 := h3.trans ((raises _ _ s3).trans ((raises _ _ s4).trans (raises _ _ s5)))
  exact .ite h6 (h6.trans (changeBranch_kept _ _ _))

theorem becomeSilent_kept (b : Nat) (s : State) : HeadKept s (becomeSilent b s) :=
  (setWatch_kept b _ s).trans ((changeBranch_kept _ _ _).trans (raiseAlarm_kept _ _ _))

theorem postSilenceEnd_kept (b : Nat) (s : State) : HeadKept s (postSilenceEnd b s) :=
  (changeBranch_kept b _ s).trans (endAlarm_kept _ _ _)

theorem takeDeadline_kept (b : Nat) (s : State) : HeadKept s (takeDeadline b s) := by
  unfold takeDeadline
  extract_lets w
  split
  · exact setWatch_kept _ _ _
  · exact setWatch_kept _ _ _
  · exact becomeSilent_kept b s
  · exact .refl s
  · exact .refl s

theorem stationLost_kept (b : Nat) (s : State) : HeadKept s (stationLost b s) := by
  unfold stationLost
  extract_lets w _ s1 s2
  have h : HeadKept s s2 := (setWatch_kept b _ s).trans (postReport_kept _ _ _ _)
  exact .ite (h.trans (postSilenceEnd_kept b _)) h

theorem postInterval_kept (b i : Nat) (s : State) : HeadKept s (postInterval b i s) :=
  .ite (.refl s) (setWatch_kept _ _ _)

theorem markPolled_kept (b : Nat) (s : State) : HeadKept s (markPolled b s) := by
  unfold markPolled
  extract_lets w
  split
  · exact setWatch_kept _ _ _
  · exact setWatch_kept _ _ _
  · exact .refl s

theorem pollAnswered_kept (b : Nat) (r : StationReport) (s : State) : HeadKept s (pollAnswered b r s) :=
  (HeadKept.ite ((setWatch_kept b _ s).trans (postSilenceEnd_kept b _)) (setWatch_kept b _ s)).trans
    (postReport_kept _ _ _ _)

theorem pollFailed_kept (b : Nat) (s : State) : HeadKept s (pollFailed b s) := by
  unfold pollFailed
  extract_lets w
  split
  · exact .ite (becomeSilent_kept b s) (setWatch_kept _ _ _)
  · exact setWatch_kept _ _ _
  · exact .refl s

theorem pollSaidNothing_kept (b : Nat) (s : State) : HeadKept s (pollSaidNothing b s) := by
  unfold pollSaidNothing
  extract_lets w
  split
  · exact setWatch_kept _ _ _
  · exact setWatch_kept _ _ _
  · exact .refl s

theorem pollCompleted_kept (b : Nat) (o : TxnOutcome) (r : Option StationReport) (s : State) :
    HeadKept s (pollCompleted b o r s) := by
  have fails : HeadKept s (if s.engine.returnOn then pollFailed b s else pollSaidNothing b s) :=
    .ite (pollFailed_kept b s) (pollSaidNothing_kept b s)
  refine .ite ?_ (.refl s)
  split
  · exact pollAnswered_kept _ _ _
  · exact .refl s
  · exact pollSaidNothing_kept _ _
  · exact fails
  · exact fails

theorem auditFailed_kept (n : Nat) (o : TxnOutcome) (s : State) : HeadKept s (auditFailed n o s) :=
  .ite (setReach_kept _ _ _) (.refl s)

/-! ### The control carrier -/

theorem beginAttempt_kept (x : Txn) (s : State) : HeadKept s (beginAttempt x s) := .of_records rfl

theorem countNoise_kept (s : State) : HeadKept s (countNoise s) :=
  .ite ((HeadKept.of_records (by rfl)).trans (raiseAlarm_kept _ _ _)) (.of_records rfl)

theorem countFrames_kept (n : Nat) (s : State) : HeadKept s (countFrames n s) := by
  induction n generalizing s with
  | zero => exact .refl s
  | succ n ih => exact (countNoise_kept s).trans (ih _)

theorem closeNoiseMinute_kept (s : State) : HeadKept s (closeNoiseMinute s) :=
  .ite ((HeadKept.of_records (by rfl)).trans (endAlarm_kept _ _ _)) (.of_records rfl)

theorem receiveFrame_kept (f : Frame) (s : State) : HeadKept s (receiveFrame f s) := by
  unfold receiveFrame
  extract_lets _ s1
  have h1 : HeadKept s s1 := .of_records rfl
  split
  · exact .ite (.of_records rfl) (.of_records rfl)
  · exact h1.trans (countNoise_kept _)
  · exact h1.trans (countNoise_kept _)

theorem grantTo_kept (r : Requester) (s : State) : HeadKept s (grantTo r s) := by
  cases r with
  | broadcast => exact .of_records rfl
  | technician =>
    show HeadKept s (grantTechnician s)
    unfold grantTechnician
    split
    · exact .of_records rfl
    · exact .refl s
  | sync =>
    show HeadKept s (grantSync s)
    unfold grantSync
    split
    · extract_lets sent _ g
      have h : HeadKept s g := ((HeadKept.of_records (by rfl)).trans (setTap_kept _ _ _)).trans (setSync_kept _ _ _)
      exact h.trans (beginAttempt_kept _ _)
    · exact .refl s
  | survey =>
    show HeadKept s (grantSurvey s)
    unfold grantSurvey
    split
    · exact (markPolled_kept _ s).trans (beginAttempt_kept _ _)
    · split
      · exact .of_records rfl
      · exact .refl s

theorem arbitrate_kept (s : State) : HeadKept s (arbitrate s) := by
  unfold arbitrate
  refine .ite ?_ (.refl s)
  split
  · exact (HeadKept.of_records (by rfl)).trans (grantTo_kept _ _)
  · exact .refl s

/-! ### The end of a transaction -/

theorem countRepeat_kept (s : State) : HeadKept s (countRepeat s) := .ite (.of_records rfl) (.refl s)

theorem technicianCompleted_kept (c : Completion) (s : State) : HeadKept s (technicianCompleted c s) := by
  have intake : ∀ u, HeadKept u (technicianIntake c u) := fun u => by
    unfold technicianIntake
    split
    · exact intakeReply_kept _ _ _ _ u
    · exact .refl u
  unfold technicianCompleted
  split
  · exact (putNotice_kept .technician 163 _ s).trans ((HeadKept.of_records (by rfl)).trans (intake _))
  · exact .refl s

theorem syncCompleted_kept (c : Completion) (s : State) : HeadKept s (syncCompleted c s) := by
  unfold syncCompleted
  split
  · exact portSetAnswered_kept _ _ _ _ _ _ s
  · exact portSetFailed_kept _ _ s

theorem surveyCompleted_kept (c : Completion) (s : State) : HeadKept s (surveyCompleted c s) := by
  have audit : HeadKept s (auditCompleted c s) := by
    unfold auditCompleted
    extract_lets _ s1
    have h1 : HeadKept s s1 := .of_records rfl
    split
    · exact h1.trans (intakeReply_kept _ _ _ _ _)
    · exact h1.trans (auditFailed_kept _ _ _)
  unfold surveyCompleted
  split
  · exact pollCompleted_kept _ _ _ s
  · exact audit

theorem handOver_kept (c : Completion) (s : State) : HeadKept s (handOver c s) := by
  unfold handOver
  split
  · exact countRepeat_kept s
  · exact technicianCompleted_kept c s
  · exact syncCompleted_kept c s
  · exact surveyCompleted_kept c s

theorem completeTxn_kept (x : Txn) (o : TxnOutcome) (r : Option Reply) (s : State) :
    HeadKept s (completeTxn x o r s) :=
  (handOver_kept _ s).trans ((HeadKept.of_records (by rfl)).trans (arbitrate_kept _))

theorem closeAttempt_kept (s : State) : HeadKept s (closeAttempt s) :=
  (HeadKept.of_records (by rfl)).trans (countFrames_kept _ _)

theorem failAttempt_kept (x : Txn) (f : Failure) (s : State) : HeadKept s (failAttempt x f s) :=
  (closeAttempt_kept s).trans
    (.ite (completeTxn_kept _ _ _ _) (.ite (beginAttempt_kept _ _) (completeTxn_kept _ _ _ _)))

theorem judgeReply_kept (x : Txn) (f : Frame) (s : State) : HeadKept s (judgeReply x f s) := by
  unfold judgeReply
  split
  · exact .ite ((closeAttempt_kept s).trans (completeTxn_kept _ _ _ _)) (failAttempt_kept _ _ s)
  · exact failAttempt_kept _ _ s

theorem judgeFrame_kept (x : Txn) (f : Frame) (s : State) : HeadKept s (judgeFrame x f s) :=
  .ite ((countNoise_kept s).trans (failAttempt_kept _ _ _))
    (.ite (.ite ((countNoise_kept s).trans (failAttempt_kept _ _ _)) (countNoise_kept s)) (judgeReply_kept _ _ s))

theorem takeFrame_kept (x : Txn) (s : State) : HeadKept s (takeFrame x s) := by
  unfold takeFrame
  split
  · exact (HeadKept.of_records (by rfl)).trans (judgeFrame_kept _ _ _)
  · exact .refl s

theorem transmitted_kept (x : Txn) (s : State) : HeadKept s (transmitted x s) := by
  unfold transmitted
  split
  · exact completeTxn_kept _ _ _ s
  · exact .of_records rfl

theorem atSurveyTime_kept (d : Option Nat) {f : State → State} (hf : ∀ s, HeadKept s (f s)) (s : State) :
    HeadKept s (atSurveyTime d f s) := by
  unfold atSurveyTime
  split
  · exact .ite ((passTime_kept _ s).trans ((hf _).trans (arbitrate_kept _))) (.refl s)
  · exact .refl s

end Sys2Proof.Machine


namespace Sys2Proof.Machine

/-! ## The slots

`SlotOwed` and `SlotAimed` are the two halves of what `DecidedSound` says of one slot. -/

/-- R15, R6: owed and source-lost of a slot record are what its settings and its source give. -/
def SlotOwed (s : State) (r : Slot) : Prop :=
  r.owed = r.isOwed ∧ r.sourceLost = (r.isOwed && s.sourceIsLost r)

/-- R22, R24: shed and the aim of a slot record are what the power mode gives. -/
def SlotAimed (m : PowerMode) (r : Slot) : Prop := r.shed = r.isShed m ∧ (r.aim, r.aimLevel) = r.aimIn m

theorem decidedSound_iff {s : State} :
    DecidedSound s ↔ ∀ n, wfSlot n = true → SlotOwed s (s.slot n) ∧ SlotAimed s.power.mode (s.slot n) :=
  forall₂_congr fun _ _ => ⟨fun ⟨h1, h2, h3, h4⟩ => ⟨⟨h1, h2⟩, h3, h4⟩, fun ⟨⟨h1, h2⟩, h3, h4⟩ => ⟨h1, h2, h3, h4⟩⟩

theorem mem_slotNumbers {n : Nat} : n ∈ slotNumbers ↔ wfSlot n = true := by
  simp [slotNumbers, wfSlot, List.mem_range'_1]; omega

/-! ### A slot record under the level ramp engine's operations -/

/-- R6, R15: the record with owed and source-lost decided. -/
def State.owedSlot (s : State) (r : Slot) : Slot :=
  { r with owed := r.isOwed, sourceLost := r.isOwed && s.sourceIsLost r }

/-- R22, R24: the record with the shed condition and the aim of a power mode. -/
def Slot.aimed (r : Slot) (m : PowerMode) : Slot :=
  { r with shed := r.isShed m, aim := (r.aimIn m).1, aimLevel := (r.aimIn m).2 }

/-- R26: the record with its carrier turned on. -/
def Slot.turnedOn (r : Slot) (now : Nat) : Slot :=
  { r with carrierOn := true, level := some 100, ramp := .ramping, stepTimer := some (now + 10 * r.period) }

/-- R29: the record of a STEADY slot that begins a ramp. -/
def Slot.ramped (r : Slot) (now : Nat) : Slot :=
  { r with ramp := .ramping, stepTimer := some (now + 10 * r.period) }

/-- R119: the record after a posting that resets the judgement where the monitor's enable is ON. -/
def Slot.rejudged (r : Slot) (on : Bool) : Slot :=
  if on then { r with judgement := .unjudged, lowCount := 0, highCount := 0, clearCount := 0 } else r

/-- The settings and the decided conditions of a record: what the level ramp engine and the level monitor leave. -/
def Slot.core (r : Slot) : Slot :=
  { r with
    carrierOn := false, level := none, ramp := .steady, stepTimer := none, measured := none
    judgement := .unjudged, lowCount := 0, highCount := 0, clearCount := 0 }

theorem Slot.core_rejudged (r : Slot) (on : Bool) : (r.rejudged on).core = r.core := by
  unfold Slot.rejudged; split <;> rfl

theorem slotOwed_congr {s : State} {r r' : Slot} (h : r'.core = r.core) : SlotOwed s r' ↔ SlotOwed s r :=
  show SlotOwed s r'.core ↔ SlotOwed s r.core by rw [h]

theorem slotAimed_congr {m : PowerMode} {r r' : Slot} (h : r'.core = r.core) : SlotAimed m r' ↔ SlotAimed m r :=
  show SlotAimed m r'.core ↔ SlotAimed m r.core by rw [h]

theorem slotOwed_owedSlot (s : State) (r : Slot) : SlotOwed s (s.owedSlot r) := ⟨rfl, rfl⟩

theorem slotAimed_aimed (m : PowerMode) (r : Slot) : SlotAimed m (r.aimed m) := ⟨rfl, rfl⟩

/-! ### The ranges of a record -/

theorem slotSound_cold : SlotSound .cold := by simp [SlotSound, Slot.cold, within]

theorem SlotSound.rejudged {r : Slot} (h : SlotSound r) (on : Bool) : SlotSound (r.rejudged on) := by
  unfold Slot.rejudged; split <;> exact h

/-- Every aim level lies within 100 to 600. -/
theorem SlotSound.aimIn_range {r : Slot} (h : SlotSound r) (m : PowerMode) :
    within 100 600 (r.aimIn m).2 = true := by
  obtain ⟨htarget, hfloor, -⟩ := h
  simp only [within, decide_eq_true_eq] at htarget hfloor ⊢
  unfold Slot.aimIn
  split
  · split <;> simp_all; omega
  · simp

/-- A record whose aim is written, and which is RAMPING or OFF, or stands at that aim, stays in its ranges. -/
theorem SlotSound.aimed {r : Slot} (h : SlotSound r) (m : PowerMode)
    (hc : r.aimIn m = (r.aim, r.aimLevel) ∨ (r.carrierOn = true ∧ r.ramp = .ramping) ∨
      (r.carrierOn = false ∧ (r.aimIn m).1 = .off)) : SlotSound (r.aimed m) := by
  have hr := h.aimIn_range m
  obtain ⟨htarget, hfloor, hperiod, htier, -, hoff, hon, hsteady, htimer⟩ := h
  refine ⟨htarget, hfloor, hperiod, htier, hr, fun hf => ?_, hon, fun ht hs => ?_, htimer⟩
  · obtain ⟨hlevel, hramp, haim⟩ := hoff hf
    refine ⟨hlevel, hramp, ?_⟩
    rcases hc with hc | ⟨ht, -⟩ | ⟨-, hc⟩
    · simp [Slot.aimed, hc, haim]
    · exact absurd ht (by simp_all)
    · exact hc
  · rcases hc with hc | ⟨-, hr⟩ | ⟨hf, -⟩
    · simpa [Slot.aimed, hc] using hsteady ht hs
    · exact absurd hs (by simp [Slot.aimed, hr])
    · exact absurd ht (by simp [Slot.aimed, hf])

theorem SlotSound.ramped_aimed {r : Slot} (h : SlotSound r) (m : PowerMode) (now : Nat)
    (hc : r.carrierOn = true) : SlotSound ((r.aimed m).ramped now) := by
  have hr := h.aimIn_range m
  obtain ⟨htarget, hfloor, hperiod, htier, -, hoff, hon, -, -⟩ := h
  exact ⟨htarget, hfloor, hperiod, htier, hr, fun hf => absurd hf (by simp [Slot.ramped, Slot.aimed, hc]), hon,
    fun _ hs => absurd hs (by simp [Slot.ramped]), by simp [Slot.ramped]⟩

theorem SlotSound.turnedOn_aimed {r : Slot} (h : SlotSound r) (m : PowerMode) (now : Nat) :
    SlotSound ((r.aimed m).turnedOn now) := by
  have hr := h.aimIn_range m
  obtain ⟨htarget, hfloor, hperiod, htier, -⟩ := h
  exact ⟨htarget, hfloor, hperiod, htier, hr, fun hf => by simp [Slot.turnedOn] at hf,
    fun _ => ⟨100, rfl, by simp [within]⟩, fun _ hs => absurd hs (by simp [Slot.turnedOn]), by simp [Slot.turnedOn]⟩

/-! ### What a read of a slot gives after each operation -/

section Reads
variable {s t : State}

theorem slot_of_butAlarms (h : t.butAlarms = s.butAlarms) (k : Nat) : t.slot k = s.slot k :=
  show t.butAlarms.slot k = _ from h ▸ rfl

theorem disturb_records (n : Nat) (s : State) : (disturb n s).records = s.records := by
  unfold disturb
  split
  · split <;> rfl
  · rfl

theorem disturb_slot (n k : Nat) (s : State) : (disturb n s).slot k = s.slot k :=
  show (disturb n s).records.slot k = _ from disturb_records n s ▸ rfl

theorem disturb_enable (n : Nat) (s : State) : (disturb n s).monitor.enable = s.monitor.enable := by
  unfold disturb
  split
  · split <;> rfl
  · rfl

theorem postJudgement_butAlarms (f : AlarmKind → Nat → State → State)
    (hf : ∀ k o s, (f k o s).butAlarms = s.butAlarms) (j : Judgement) (n : Nat) (s : State) :
    (postJudgement f j n s).butAlarms = s.butAlarms := by
  unfold postJudgement
  split
  · exact hf _ _ _
  · rfl

/-- R120: a written judgement changes its slot's record, and posts to the alarm list. -/
theorem setJudgement_butAlarms (n : Nat) (j : Judgement) (l h c : Nat) (s : State) :
    (setJudgement n j l h c s).butAlarms =
      (s.setSlot n { s.slot n with judgement := j, lowCount := l, highCount := h, clearCount := c }).butAlarms := by
  unfold setJudgement
  extract_lets r s1
  split
  · rfl
  · rw [postJudgement_butAlarms _ raiseAlarm_butAlarms, postJudgement_butAlarms _ endAlarm_butAlarms]

theorem setJudgement_slot (h : TablesSound s) (n : Nat) (j : Judgement) (l hi c k : Nat) :
    (setJudgement n j l hi c s).slot k =
      if k = n then { s.slot n with judgement := j, lowCount := l, highCount := hi, clearCount := c } else s.slot k :=
  (slot_of_butAlarms (setJudgement_butAlarms n j l hi c s) k).trans (slot_setSlot h.slots _ _ _)

theorem rampPosted_slot (h : TablesSound s) (n : Nat) (b : Bool) (k : Nat) :
    (rampPosted n b s).slot k = if k = n then (s.slot n).rejudged (b && s.monitor.enable) else s.slot k := by
  have hd : TablesSound (disturb n s) := (HeadKept.of_records (disturb_records n s)).tables h
  unfold rampPosted
  simp only [disturb_enable]
  split
  · rename_i hb
    simp [setJudgement_slot hd, disturb_slot, Slot.rejudged, hb]
  · rename_i hb
    simp only [disturb_slot, Slot.rejudged, hb]
    split <;> simp_all

theorem turnOn_slot (h : TablesSound s) (n k : Nat) :
    (turnOn n s).slot k = if k = n then ((s.slot n).turnedOn s.now).rejudged s.monitor.enable else s.slot k := by
  unfold turnOn
  extract_lets r s1
  have h1 : TablesSound (sendModulator n (some 100) s1) := h.setSlot _ _
  have e1 : ∀ k, (sendModulator n (some 100) s1).slot k = if k = n then (s.slot n).turnedOn s.now else s.slot k :=
    fun k => slot_setSlot h.slots n k _
  rw [rampPosted_slot h1, e1, e1]
  split <;> simp_all [s1]

theorem decideTiers_slot (s : State) (k : Nat) : (decideTiers s).slot k = s.slot k :=
  forEach_frame (fun u : State => u.slot k) tierNumbers decideTier (fun _ _ => rfl) s

theorem decideOwed_slot (h : TablesSound s) (n k : Nat) :
    (decideOwed n s).slot k = if k = n then s.owedSlot (s.slot n) else s.slot k :=
  slot_setSlot h.slots n k _

/-- R23, R24: the record takes its aim, and its carrier moves where the aim changed. -/
theorem recomputeAim_eq (n : Nat) (s : State) :
    recomputeAim n s =
      if (s.slot n).aimIn s.power.mode = ((s.slot n).aim, (s.slot n).aimLevel) then
        s.setSlot n ((s.slot n).aimed s.power.mode)
      else if (s.slot n).carrierOn then reAim n (s.setSlot n ((s.slot n).aimed s.power.mode))
      else if ((s.slot n).aimIn s.power.mode).1 = .off then s.setSlot n ((s.slot n).aimed s.power.mode)
      else turnOn n (s.setSlot n ((s.slot n).aimed s.power.mode)) := rfl

/-- R29: a RAMPING slot goes on; a STEADY one begins a ramp. -/
theorem reAim_slot (h : TablesSound s) (n k : Nat) :
    (reAim n s).slot k =
      if k = n ∧ (s.slot n).ramp = .steady then ((s.slot n).ramped s.now).rejudged s.monitor.enable
      else s.slot k := by
  unfold reAim
  extract_lets r
  cases hr : r.ramp with
  | ramping => simp
  | steady =>
    rw [rampPosted_slot (h.setSlot _ _), slot_setSlot h.slots, slot_setSlot h.slots, if_pos rfl]
    by_cases hk : k = n <;> simp [hk, Slot.ramped, r]

/-- R23, R24, R26, R29: the record of a slot whose aim is recomputed has the new aim, and its carrier moves where the aim
changed. -/
theorem recomputeAim_slot_self (h : TablesSound s) (n : Nat) :
    let r := s.slot n
    let a := r.aimed s.power.mode
    let v := (recomputeAim n s).slot n
    (v = a ∧ (r.aimIn s.power.mode = (r.aim, r.aimLevel) ∨ (r.carrierOn = true ∧ r.ramp = .ramping) ∨
      (r.carrierOn = false ∧ (r.aimIn s.power.mode).1 = .off))) ∨
    (v = (a.ramped s.now).rejudged s.monitor.enable ∧ r.carrierOn = true) ∨
    v = (a.turnedOn s.now).rejudged s.monitor.enable := by
  intro r a v
  have h1 : TablesSound (s.setSlot n a) := h.setSlot n a
  have e1 : (s.setSlot n a).slot n = a := by simp [slot_setSlot h.slots]
  simp only [v, recomputeAim_eq]
  split
  · exact .inl ⟨e1, .inl ‹_›⟩
  · split
    · rename_i hon
      rw [reAim_slot h1, e1]
      cases hr : r.ramp with
      | ramping => exact .inl ⟨by simp [a, Slot.aimed, hr], .inr (.inl ⟨hon, rfl⟩)⟩
      | steady => exact .inr (.inl ⟨by simp [a, Slot.aimed, hr], hon⟩)
    · split
      · exact .inl ⟨e1, .inr (.inr ⟨by simpa using ‹¬ (s.slot n).carrierOn = true›, ‹_›⟩)⟩
      · exact .inr (.inr (by rw [turnOn_slot h1, if_pos rfl, e1]; rfl))

/-- No other slot moves with the aim of slot `n`. -/
theorem recomputeAim_slot_ne (h : TablesSound s) {n k : Nat} (hk : k ≠ n) : (recomputeAim n s).slot k = s.slot k := by
  have h1 : ∀ a, TablesSound (s.setSlot n a) := h.setSlot n
  have e1 : ∀ a, (s.setSlot n a).slot k = s.slot k := fun a => by simp [slot_setSlot h.slots, hk]
  rw [recomputeAim_eq]
  split
  · exact e1 _
  · split
    · simp [reAim_slot (h1 _), hk, e1]
    · split
      · exact e1 _
      · simp [turnOn_slot (h1 _), hk, e1]

theorem recomputeAim_core (h : TablesSound s) (n : Nat) :
    ((recomputeAim n s).slot n).core = ((s.slot n).aimed s.power.mode).core := by
  rcases recomputeAim_slot_self h n with ⟨e, -⟩ | ⟨e, -⟩ | e <;> rw [e]
  · exact Slot.core_rejudged _ _
  · exact Slot.core_rejudged _ _

end Reads

end Sys2Proof.Machine


namespace Sys2Proof.Machine

/-! ## The head end's operations keep what the relations say -/

theorem forEach_append_one (l : List Nat) (n : Nat) (f : Nat → State → State) (s : State) :
    forEach (l ++ [n]) f s = f n (forEach l f s) := by simp [forEach]

/-- What every turn makes for its own number and keeps for the others, the fold makes for every number of the list. -/
theorem forEach_each {P : State → Prop} {Q : Nat → State → Prop} (l : List Nat) {f : Nat → State → State}
    (hP : ∀ n s, P s → P (f n s)) (hmake : ∀ n s, P s → Q n (f n s))
    (hkeep : ∀ n k s, P s → Q k s → Q k (f n s)) {s : State} (hs : P s) :
    ∀ k, (k ∈ l ∨ Q k s) → Q k (forEach l f s) := by
  induction l generalizing s with
  | nil => intro k hk; simpa using hk
  | cons n l ih =>
    intro k hk
    refine ih (hP n s hs) k ?_
    rcases hk with hk | hk
    · rcases List.mem_cons.1 hk with rfl | hk
      · exact .inr (hmake _ s hs)
      · exact .inl hk
    · exact .inr (hkeep n k s hs hk)

section Kept
variable {s t u : State}

/-! ### Acts on the slots that keep their decisions -/

/-- An act that leaves the slots, the sources and the power mode. -/
theorem SlotsKept.of_slots (hs : t.slots = s.slots) (hq : t.sources = s.sources) (hm : t.power.mode = s.power.mode)
    (ht : TablesSound s → TablesSound t) : SlotsKept s t where
  tables := ht
  slots _ h n := by simpa only [State.slot, hs] using h n
  decided _ h n hn := by simpa only [State.slot, State.sourceIsLost, State.source, hs, hq, hm] using h n hn

/-- A written slot record that is in its ranges and decided where the one it replaces was. -/
theorem setSlot_slotsKept {n : Nat} {v : Slot} (hr : SlotSound (s.slot n) → SlotSound v)
    (hd : SlotOwed s (s.slot n) ∧ SlotAimed s.power.mode (s.slot n) → SlotOwed s v ∧ SlotAimed s.power.mode v) :
    SlotsKept s (s.setSlot n v) where
  tables h := h.setSlot n v
  slots h hs k := by
    rw [slot_setSlot h.slots]
    split
    · exact hr (hs n)
    · exact hs k
  decided h hs := by
    rw [decidedSound_iff] at hs ⊢
    intro k hk
    rw [slot_setSlot h.slots]
    split
    · subst k; exact hd (hs n hk)
    · exact hs k hk

/-- An act that leaves what the tier counts are made from. -/
theorem HeadKept.of_impairment (h : SlotsKept s t) (hc : t.tierCount = s.tierCount)
    (hi : TablesSound s → ∀ n, (t.slot n).tier = (s.slot n).tier ∧ t.slotImpaired n = s.slotImpaired n) :
    HeadKept s t where
  toSlotsKept := h
  counts hs hn k hk := by
    have := hn k hk
    simp only [State.impairedIn, hi hs, State.heldCount, hc] at this ⊢
    exact this

/-- A written slot record that differs in nothing that makes an impairment. -/
theorem setSlot_kept {n : Nat} {v : Slot} (hr : SlotSound (s.slot n) → SlotSound v)
    (hv : (v.owed, v.sourceLost, v.shed, v.aim, v.aimLevel, v.tier) = ((s.slot n).owed, (s.slot n).sourceLost,
      (s.slot n).shed, (s.slot n).aim, (s.slot n).aimLevel, (s.slot n).tier) ∧ v.judgement = (s.slot n).judgement)
    (hd : SlotOwed s (s.slot n) ∧ SlotAimed s.power.mode (s.slot n) → SlotOwed s v ∧ SlotAimed s.power.mode v) :
    HeadKept s (s.setSlot n v) :=
  .of_impairment (setSlot_slotsKept hr hd) rfl fun h k => by
    simp only [Prod.mk.injEq] at hv
    simp only [State.slotImpaired, State.isShowingSlot, slot_setSlot h.slots, setSlot_events]
    split
    · subst k; simp [hv]
    · simp

/-! ### The tiers -/

theorem decideTier_heldCount (h : TablesSound s) (n k : Nat) :
    (decideTier n s).heldCount k = if k = n then s.impairedIn n else s.heldCount k :=
  tabGet_tabPut n k _ h.tierCount

theorem decideTier_tables (h : TablesSound s) (n : Nat) : TablesSound (decideTier n s) := by
  have h1 : TablesSound { s with tierCount := tabPut 0 s.tierCount n (s.impairedIn n) } := by
    simp_all [TablesSound, tabWf_tabPut]
  exact h1.setTierEpisode _ _

theorem decideTiers_tables (h : TablesSound s) : TablesSound (decideTiers s) :=
  forEach_keeps (P := TablesSound) _ _ (fun n _ _ h => decideTier_tables h n) _ h

/-- R126: a decision makes every count the number of the impaired slots. -/
theorem decideTiers_counts (h : TablesSound s) : TierCountsSound (decideTiers s) := by
  intro k hk
  have frame : ∀ l (u : State), (forEach l decideTier u).impairedIn k = u.impairedIn k := fun l u =>
    forEach_frame (fun v : State => v.impairedIn k) l decideTier (fun _ _ => rfl) u
  have counted := forEach_each (P := fun u => TablesSound u ∧ u.impairedIn k = s.impairedIn k)
    (Q := fun n u => n = k → u.heldCount k = s.impairedIn k) tierNumbers (f := decideTier)
    (fun n u hu => ⟨decideTier_tables hu.1 n, hu.2⟩)
    (fun n u hu hn => by rw [decideTier_heldCount hu.1, if_pos hn.symm, hn, hu.2])
    (fun n j u hu hj hjk => by
      rw [decideTier_heldCount hu.1]
      split
      · rename_i hkn; rw [← hkn, hu.2]
      · exact hj hjk)
    ⟨h, rfl⟩ k (.inl (by simp [tierNumbers]; omega)) rfl
  exact counted.trans (frame tierNumbers s).symm

theorem decideTiers_headEnd (s : State) :
    (decideTiers s).slots = s.slots ∧ (decideTiers s).sources = s.sources ∧ (decideTiers s).power = s.power :=
  ⟨forEach_frame State.slots tierNumbers decideTier (fun _ _ => rfl) s,
    forEach_frame State.sources tierNumbers decideTier (fun _ _ => rfl) s,
    forEach_frame State.power tierNumbers decideTier (fun _ _ => rfl) s⟩

theorem decideTiers_slotsKept (s : State) : SlotsKept s (decideTiers s) :=
  have ⟨hslots, hsources, hpower⟩ := decideTiers_headEnd s
  .of_slots hslots hsources (by rw [hpower]) decideTiers_tables

/-- R126: an act on the slots that ends with a decision of the tiers. -/
theorem SlotsKept.decideTiers (h : SlotsKept s t) : HeadKept s (decideTiers t) where
  toSlotsKept := h.trans (decideTiers_slotsKept t)
  counts hs _ := decideTiers_counts (h.tables hs)

/-! ### The level monitor -/

theorem setJudgement_slotsKept (n : Nat) (j : Judgement) (l h c : Nat) (s : State) :
    SlotsKept s (setJudgement n j l h c s) :=
  have written : SlotsKept s (s.setSlot n { s.slot n with
      judgement := j, lowCount := l, highCount := h, clearCount := c }) :=
    setSlot_slotsKept (fun h => h) (fun h => h)
  written.trans (HeadKept.of_butAlarms (setJudgement_butAlarms n j l h c s)).toSlotsKept

theorem disturb_kept (n : Nat) (s : State) : HeadKept s (disturb n s) := .of_records (disturb_records n s)

theorem rampPosted_slotsKept (n : Nat) (b : Bool) (s : State) : SlotsKept s (rampPosted n b s) := by
  have h := (disturb_kept n s).toSlotsKept
  unfold rampPosted
  extract_lets s1
  split
  · exact h.trans (setJudgement_slotsKept _ _ _ _ _ _)
  · exact h

theorem setMeasured_kept (n : Nat) (v : Option Nat) (s : State) :
    HeadKept s (s.setSlot n { s.slot n with measured := v }) :=
  setSlot_kept (fun h => h) ⟨rfl, rfl⟩ (fun h => h)

theorem scanSlot_kept (n l : Nat) (d : Bool) (s : State) : HeadKept s (scanSlot n l d s) := by
  have measured := setMeasured_kept n (some l) s
  unfold scanSlot
  extract_lets s1 v
  exact .ite measured (measured.trans (setJudgement_slotsKept _ _ _ _ _ _).decideTiers)

theorem beginConversion_kept (n : Nat) (s : State) : HeadKept s (beginConversion n s) := .of_records rfl

theorem completeConversion_kept (c : Conversion) (r : Nat) (s : State) : HeadKept s (completeConversion c r s) := by
  unfold completeConversion
  split
  · exact (HeadKept.of_records (by rfl)).trans (beginConversion_kept _ _)
  · extract_lets s1 next
    have scanned : HeadKept s s1 := scanSlot_kept _ _ _ s
    clear_value s1
    exact scanned.trans ((HeadKept.of_records (by rfl)).trans (beginConversion_kept _ _))

theorem clearJudgements_slotsKept (s : State) : SlotsKept s (clearJudgements s) :=
  forEach_slotsKept _ (fun n u => (setMeasured_kept n none u).toSlotsKept.trans (setJudgement_slotsKept _ _ _ _ _ _)) s

theorem applyMonitor_kept (old : Monitor) (s : State) : HeadKept s (applyMonitor old s) := by
  have restarts : HeadKept s (restartConversion s) := by
    unfold restartConversion
    split
    · exact beginConversion_kept _ _
    · exact .refl s
  have enables : ∀ u, HeadKept u (monitorEnabled u) := fun u =>
    (HeadKept.of_records (by rfl)).trans ((endAlarm_kept .monitorOff 0 _).trans (beginConversion_kept 1 _))
  have disables : ∀ u, HeadKept u (monitorDisabled u) := fun u => by
    unfold monitorDisabled
    extract_lets _ u1
    have h1 : HeadKept u (driveSelect none u1) := .of_records rfl
    exact (h1.trans (clearJudgements_slotsKept _).decideTiers).trans (raiseAlarm_kept .monitorOff 0 _)
  unfold applyMonitor
  extract_lets s1
  have h1 : HeadKept s s1 := .ite (.refl s) restarts
  exact .ite (h1.trans (enables _)) (.ite (h1.trans (disables _)) h1)

/-! ### The level ramp engine -/

theorem turnOn_tables (n : Nat) (h : TablesSound s) : TablesSound (turnOn n s) :=
  (rampPosted_slotsKept n true _).tables (h.setSlot n _)

theorem reAim_tables (n : Nat) (h : TablesSound s) : TablesSound (reAim n s) := by
  unfold reAim
  extract_lets r
  split
  · exact h
  · exact (rampPosted_slotsKept n true _).tables (h.setSlot n _)

theorem recomputeAim_tables (n : Nat) (h : TablesSound s) : TablesSound (recomputeAim n s) := by
  have h1 : ∀ a, TablesSound (s.setSlot n a) := h.setSlot n
  rw [recomputeAim_eq]
  split
  · exact h1 _
  · split
    · exact reAim_tables n (h1 _)
    · split
      · exact h1 _
      · exact turnOn_tables n (h1 _)

theorem recomputeAim_slotsSound (n : Nat) (h : TablesSound s) (hs : SlotsSound s) :
    SlotsSound (recomputeAim n s) := by
  intro k
  by_cases hk : k = n
  · subst k
    rcases recomputeAim_slot_self h n with ⟨e, hc⟩ | ⟨e, hon⟩ | e <;> rw [e]
    · exact (hs n).aimed _ hc
    · exact ((hs n).ramped_aimed _ _ hon).rejudged _
    · exact ((hs n).turnedOn_aimed _ _).rejudged _
  · rw [recomputeAim_slot_ne h hk]
    exact hs k

/-- The recomputing of an aim is an act on the slots alone, so the sources and the power mode stand. -/
theorem sources_of_butSlots (h : t.butSlots = s.butSlots) : t.sources = s.sources :=
  show t.butSlots.sources = _ from h ▸ rfl
theorem power_of_butSlots (h : t.butSlots = s.butSlots) : t.power = s.power :=
  show t.butSlots.power = _ from h ▸ rfl

theorem slotOwed_sources (h : t.sources = s.sources) (r : Slot) : SlotOwed t r ↔ SlotOwed s r := by
  simp [SlotOwed, State.sourceIsLost, State.source, h]

/-- Owed and source-lost stand while an aim is recomputed. -/
theorem recomputeAim_owed (h : TablesSound s) (n k : Nat) :
    SlotOwed (recomputeAim n s) ((recomputeAim n s).slot k) ↔ SlotOwed s (s.slot k) := by
  rw [slotOwed_sources (sources_of_butSlots (recomputeAim_butSlots n s))]
  by_cases hk : k = n
  · subst k; exact (slotOwed_congr (recomputeAim_core h n)).trans Iff.rfl
  · rw [recomputeAim_slot_ne h hk]

/-- R22, R24: the slot's own shed and aim are decided. -/
theorem recomputeAim_aims (h : TablesSound s) (n : Nat) :
    SlotAimed (recomputeAim n s).power.mode ((recomputeAim n s).slot n) := by
  rw [power_of_butSlots (recomputeAim_butSlots n s)]
  exact (slotAimed_congr (recomputeAim_core h n)).2 (slotAimed_aimed _ _)

theorem recomputeAim_keepsAims (h : TablesSound s) (n k : Nat) (hk : SlotAimed s.power.mode (s.slot k)) :
    SlotAimed (recomputeAim n s).power.mode ((recomputeAim n s).slot k) := by
  by_cases hn : k = n
  · subst k; exact recomputeAim_aims h n
  · rwa [power_of_butSlots (recomputeAim_butSlots n s), recomputeAim_slot_ne h hn]

/-- The aim of a slot whose owed condition is decided is decided with it. -/
theorem recomputeAim_slotsKept (n : Nat) (s : State) : SlotsKept s (recomputeAim n s) where
  tables := recomputeAim_tables n
  slots := recomputeAim_slotsSound n
  decided h hs := by
    rw [decidedSound_iff] at hs ⊢
    exact fun k hk => ⟨(recomputeAim_owed h n k).2 (hs k hk).1, recomputeAim_keepsAims h n k (hs k hk).2⟩

theorem stepLevel_range {l a : Nat} (hl : within 100 600 l = true) (ha : within 100 600 a = true) :
    within 100 600 (stepLevel l a) = true := by
  simp only [within, decide_eq_true_eq] at *
  unfold stepLevel
  split <;> [skip; split] <;> omega

theorem sendModulator_kept (n : Nat) (l : Option Nat) (s : State) : HeadKept s (sendModulator n l s) :=
  .of_records rfl

theorem sendIfMoved_kept (n a b : Nat) (s : State) : HeadKept s (sendIfMoved n a b s) :=
  .ite (.refl s) (sendModulator_kept n _ s)

/-- R28: a slot whose aim is NONE is turned off. -/
theorem turnOff_kept (n : Nat) (haim : (s.slot n).aim = .off) : HeadKept s (turnOff n s) := by
  have written : SlotsKept s (s.setSlot n { s.slot n with
      carrierOn := false, level := none, ramp := .steady, stepTimer := none }) := by
    refine setSlot_slotsKept (fun h => ?_) (fun h => h)
    obtain ⟨htarget, hfloor, hperiod, htier, hlevel, -⟩ := h
    exact ⟨htarget, hfloor, hperiod, htier, hlevel, fun _ => ⟨rfl, rfl, haim⟩, fun h => (by cases h),
      fun h => (by cases h), by simp⟩
  exact ((written.trans (sendModulator_kept n none _).toSlotsKept).trans (rampPosted_slotsKept n true _)).decideTiers

/-- R25: the step timer of a slot runs only while its carrier is ON and it is RAMPING. -/
theorem SlotSound.of_stepTimer {r : Slot} (h : SlotSound r) (ht : r.stepTimer.isSome = true) :
    r.carrierOn = true ∧ r.ramp = .ramping := by
  obtain ⟨-, -, -, -, -, hoff, -, -, htimer⟩ := h
  have hramp : r.ramp = .ramping := htimer.2 ht
  refine ⟨by_contra fun hc => ?_, hramp⟩
  obtain ⟨-, hs, -⟩ := hoff (by simpa using hc)
  simp [hs] at hramp

/-- R27: the level that a step of a ramp gives. -/
def Slot.nextLevel (r : Slot) : Nat := stepLevel (r.level.getD 0) r.aimLevel

theorem SlotSound.nextLevel_range {r : Slot} (h : SlotSound r) (hc : r.carrierOn = true) :
    within 100 600 r.nextLevel = true := by
  obtain ⟨-, -, -, -, haim, -, hon, -⟩ := h
  obtain ⟨l, hl, hlr⟩ := hon hc
  exact stepLevel_range (by simpa [hl] using hlr) haim

/-- R27: a ramp goes on. -/
theorem SlotSound.stepped {r : Slot} (h : SlotSound r) (ht : r.stepTimer.isSome = true) (w : Nat) :
    SlotSound { r with level := some r.nextLevel, stepTimer := some w } := by
  obtain ⟨hcarrier, hramp⟩ := h.of_stepTimer ht
  have hnext := h.nextLevel_range hcarrier
  obtain ⟨htarget, hfloor, hperiod, htier, haim, -⟩ := h
  exact ⟨htarget, hfloor, hperiod, htier, haim, fun h => absurd h (by simp [hcarrier]), fun _ => ⟨_, rfl, hnext⟩,
    fun _ h => absurd h (by simp [hramp]), by simp [hramp]⟩

/-- R27: a ramp that reaches an aim other than NONE ends. -/
theorem SlotSound.settled {r : Slot} (h : SlotSound r) (ht : r.stepTimer.isSome = true)
    (hl : r.nextLevel = r.aimLevel) (ha : r.aim ≠ .off) :
    SlotSound { r with level := some r.nextLevel, ramp := .steady, stepTimer := none } := by
  obtain ⟨hcarrier, -⟩ := h.of_stepTimer ht
  have hnext := h.nextLevel_range hcarrier
  obtain ⟨htarget, hfloor, hperiod, htier, haim, -⟩ := h
  exact ⟨htarget, hfloor, hperiod, htier, haim, fun h => absurd h (by simp [hcarrier]), fun _ => ⟨_, rfl, hnext⟩,
    fun _ _ => ⟨congrArg some hl, ha⟩, by simp⟩

/-- R27: a step of a ramp. -/
theorem takeStep_kept (n : Nat) (ht : (s.slot n).stepTimer.isSome = true) : HeadKept s (takeStep n s) := by
  unfold takeStep
  extract_lets r level next
  split
  · rename_i hl
    split
    · exact turnOff_kept n ‹_›
    · exact ((setSlot_kept (fun h => h.settled ht hl ‹_›) ⟨rfl, rfl⟩ fun h => h).trans (sendIfMoved_kept n _ _ _)).trans
        (disturb_kept n _)
  · exact (setSlot_kept (fun h => h.stepped ht _) ⟨rfl, rfl⟩ fun h => h).trans (sendIfMoved_kept n _ _ _)

/-! ### The power mode -/

/-- R15, R6: owed and source-lost of every slot are decided. -/
def OwedSound (s : State) : Prop := ∀ n, wfSlot n = true → SlotOwed s (s.slot n)

/-- R22, R24: where owed is decided, recomputing every aim decides every slot; `g` is what follows each slot's turn. -/
theorem recomputeAims_decided {g : State → State}
    (hg : ∀ u, (g u).slots = u.slots ∧ (g u).sources = u.sources ∧ (g u).power = u.power)
    (hgt : ∀ u, TablesSound u → TablesSound (g u)) (h : TablesSound s) (howed : OwedSound s) :
    DecidedSound (forEach slotNumbers (fun n u => g (recomputeAim n u)) s) := by
  have owedTurn : ∀ n k u, TablesSound u → SlotOwed u (u.slot k) →
      SlotOwed (g (recomputeAim n u)) ((g (recomputeAim n u)).slot k) := fun n k u hu hk => by
    obtain ⟨hs, hq, -⟩ := hg (recomputeAim n u)
    rw [slotOwed_sources hq, State.slot, hs]
    exact (recomputeAim_owed hu n k).2 hk
  have tablesTurn : ∀ n u, TablesSound u → TablesSound (g (recomputeAim n u)) := fun n u hu =>
    hgt _ (recomputeAim_tables n hu)
  rw [decidedSound_iff]
  intro k hk
  have owed := forEach_keeps (P := fun u => TablesSound u ∧ SlotOwed u (u.slot k)) slotNumbers
    (fun n u => g (recomputeAim n u)) (fun n _ u hu => ⟨tablesTurn n u hu.1, owedTurn n k u hu.1 hu.2⟩) s
    ⟨h, howed k hk⟩
  refine ⟨owed.2, forEach_each (P := TablesSound) (Q := fun k u => SlotAimed u.power.mode (u.slot k)) slotNumbers
    tablesTurn (fun n u hu => ?_) (fun n k u hu hk => ?_) h k (.inl (mem_slotNumbers.2 hk))⟩
  · obtain ⟨hs, -, hp⟩ := hg (recomputeAim n u)
    rw [State.slot, hs, hp]
    exact recomputeAim_aims hu n
  · obtain ⟨hs, -, hp⟩ := hg (recomputeAim n u)
    rw [State.slot, hs, hp]
    exact recomputeAim_keepsAims hu n k hk

theorem announceMode_butAlarms (old new : PowerMode) (s : State) :
    (announceMode old new s).butAlarms = s.butAlarms := by
  have posts : ∀ (f : AlarmKind → Nat → State → State), (∀ k o u, (f k o u).butAlarms = u.butAlarms) →
      ∀ m u, (postPower f m u).butAlarms = u.butAlarms := fun f hf m u => by
    unfold postPower
    split
    · exact hf _ _ u
    · rfl
  rw [announceMode, butAlarms_of_butPorts (noticeTo_butPorts _ _ _ _), posts _ raiseAlarm_butAlarms,
    posts _ endAlarm_butAlarms]

/-- R20: at a change of the mode every slot's aim is recomputed and the tiers are decided. -/
theorem decideMode_kept (s : State) : HeadKept s (decideMode s) := by
  unfold decideMode
  extract_lets old new _ s1 s2
  refine .ite (.refl s) (.trans ?_ (.of_butAlarms (announceMode_butAlarms _ _ _)))
  have turnSlots : ∀ n u, TablesSound u ∧ SlotsSound u →
      TablesSound (decideTiers (recomputeAim n u)) ∧ SlotsSound (decideTiers (recomputeAim n u)) := fun n u hu =>
    have h := (recomputeAim_slotsKept n u).decideTiers
    ⟨h.tables hu.1, h.slots hu.1 hu.2⟩
  have turnTables : ∀ n u, TablesSound u → TablesSound (decideTiers (recomputeAim n u)) := fun n u hu =>
    (recomputeAim_slotsKept n u).decideTiers.tables hu
  have lastTurn : s2 = decideTiers (recomputeAim 40
      (forEach (List.range' 1 39) (fun n u => decideTiers (recomputeAim n u)) s1)) :=
    forEach_append_one (List.range' 1 39) 40 (fun n u => decideTiers (recomputeAim n u)) s1
  refine ⟨⟨fun h => ?_, fun h hs => ?_, fun h hs => ?_⟩, fun h _ => ?_⟩
  · exact forEach_keeps (P := TablesSound) _ _ (fun n _ u hu => turnTables n u hu) s1 h
  · exact (forEach_keeps (P := fun u => TablesSound u ∧ SlotsSound u) _ _ (fun n _ u hu => turnSlots n u hu) s1
      ⟨h, hs⟩).2
  · exact recomputeAims_decided decideTiers_headEnd (fun _ => decideTiers_tables) (s := s1) h
      fun n hn => ((decidedSound_iff.1 hs) n hn).1
  · rw [lastTurn]
    exact decideTiers_counts (recomputeAim_tables 40
      (forEach_keeps (P := TablesSound) _ _ (fun n _ u hu => turnTables n u hu) s1 h))

theorem qualifyMains_kept (s : State) : HeadKept s (qualifyMains s) :=
  (HeadKept.of_records (by rfl)).trans (decideMode_kept _)

theorem qualifyReserve_kept (s : State) : HeadKept s (qualifyReserve s) :=
  (HeadKept.of_records (by rfl)).trans (decideMode_kept _)

/-! ### The line-up -/

/-- A written source record matters to the slots of that source, and to them by its qualified state alone. -/
theorem setSource_sourceIsLost (h : TablesSound s) {n : Nat} {v : Source} {r : Slot}
    (hv : r.source = some n → v.present = (s.source n).present) :
    (s.setSource n v).sourceIsLost r = s.sourceIsLost r := by
  unfold State.sourceIsLost
  split
  · rename_i m hm
    rw [source_setSource h.sources]
    split
    · subst m; rw [hv hm]
    · rfl
  · rfl

theorem setSource_kept (n : Nat) (v : Source) (hv : v.present = (s.source n).present) :
    HeadKept s (s.setSource n v) where
  tables h := h.setSource n v
  slots _ h := h
  decided h hs k hk := by
    simpa only [setSource_get_slot, setSource_power, setSource_sourceIsLost h fun _ => hv] using hs k hk
  counts _ h := h

theorem decideOwed_slotSound (h : TablesSound s) (n : Nat) (hs : SlotsSound s) : SlotsSound (decideOwed n s) := by
  intro k
  rw [decideOwed_slot h]
  split
  · exact hs n
  · exact hs k

/-- R4, R6: what the taking of a presence makes of the slots. -/
theorem presenceTaken_slot (h : TablesSound s) (n k : Nat) :
    (presenceTaken n s).slot k =
      if wfSlot k = true ∧ (s.slot k).source = some n then s.owedSlot (s.slot k) else s.slot k := by
  have fold : ∀ (l : List Nat) (u : State), TablesSound u →
      (forEach l (fun k u => if (u.slot k).source = some n then decideOwed k u else u) u).slot k =
        if k ∈ l ∧ (u.slot k).source = some n then u.owedSlot (u.slot k) else u.slot k := by
    intro l
    induction l with
    | nil => intro u _; simp
    | cons j l ih =>
      intro u hu
      rw [forEach_cons]
      by_cases hj : (u.slot j).source = some n
      · have hd : TablesSound (decideOwed j u) := hu.setSlot _ _
        rw [if_pos hj, ih _ hd, decideOwed_slot hu]
        by_cases hk : k = j
        · subst k
          simp only [List.mem_cons, true_or, true_and, if_pos, hj]
          split <;> rfl
        · simp only [List.mem_cons, hk, false_or]
          rfl
      · rw [if_neg hj, ih _ hu]
        by_cases hk : k = j
        · subst k; simp [hj]
        · simp [hk]
  unfold presenceTaken
  extract_lets s1
  have h1 : s1.butAlarms = s.butAlarms := by
    show (if (s.source n).present then endAlarm .sourceLost n s else raiseAlarm .sourceLost n s).butAlarms = _
    split <;> simp
  have hslot : ∀ j, s1.slot j = s.slot j := slot_of_butAlarms h1
  have howed : ∀ r, s1.owedSlot r = s.owedSlot r := fun r =>
    show s1.butAlarms.owedSlot r = _ by rw [h1]; rfl
  rw [fold _ _ ((HeadKept.of_butAlarms h1).tables h), hslot, howed]
  simp only [mem_slotNumbers]

theorem presenceTaken_tables (n : Nat) (h : TablesSound s) : TablesSound (presenceTaken n s) := by
  unfold presenceTaken
  extract_lets s1
  have h1 : HeadKept s s1 := .ite (endAlarm_kept _ _ s) (raiseAlarm_kept _ _ s)
  refine forEach_keeps (P := TablesSound) _ _ (fun k _ u hu => ?_) s1 (h1.tables h)
  split
  · exact hu.setSlot _ _
  · exact hu

theorem presenceTaken_sources (n : Nat) (s : State) : (presenceTaken n s).sources = s.sources :=
  sources_of_butSlots (presenceTaken_butSlots n s)

/-- Deciding a decided owed condition again leaves the aim. -/
theorem slotAimed_owed {m : PowerMode} {r : Slot} (h : r.owed = r.isOwed) (ha : SlotAimed m r) :
    SlotAimed m (s.owedSlot r) := by
  have : s.owedSlot r = { r with sourceLost := r.isOwed && s.sourceIsLost r } := by
    unfold State.owedSlot; rw [← h]
  rw [this]
  exact ha

/-- R4: the qualified presence of a source takes its line's value, and its slots are decided anew. -/
theorem presenceTaken_slotsKept (n : Nat) (v : Source) :
    SlotsKept s (presenceTaken n (s.setSource n v)) where
  tables h := presenceTaken_tables n (h.setSource n v)
  slots h hs k := by
    rw [presenceTaken_slot (h.setSource n v)]
    split <;> exact hs k
  decided h hs := by
    rw [decidedSound_iff] at hs ⊢
    intro k hk
    obtain ⟨howed, haimed⟩ := hs k hk
    rw [slotOwed_sources (presenceTaken_sources n _), power_of_butSlots (presenceTaken_butSlots n _),
      presenceTaken_slot (h.setSource n v)]
    split
    · exact ⟨slotOwed_owedSlot _ _, slotAimed_owed howed.1 haimed⟩
    · rename_i hno
      have hother : (s.slot k).source ≠ some n := fun he => hno ⟨hk, he⟩
      refine ⟨⟨howed.1, howed.2.trans ?_⟩, haimed⟩
      rw [setSource_get_slot, setSource_sourceIsLost h fun he => absurd he hother]

theorem qualifySource_kept (n : Nat) (s : State) : HeadKept s (qualifySource n s) := by
  unfold qualifySource presenceChanged
  exact (presenceTaken_slotsKept n _).decideTiers

/-- Every slot but `n` is decided. -/
def DecidedBut (n : Nat) (s : State) : Prop :=
  ∀ k, wfSlot k = true → k ≠ n → SlotOwed s (s.slot k) ∧ SlotAimed s.power.mode (s.slot k)

/-- R15, R6, R23: whatever has been written into slot `n`, its owed, source-lost, shed and aim are decided by the act's
refresh. -/
theorem refreshSlot_decided (h : TablesSound s) (n : Nat) (hd : DecidedBut n s) :
    DecidedSound (recomputeAim n (decideOwed n s)) := by
  have h1 : TablesSound (decideOwed n s) := h.setSlot _ _
  rw [decidedSound_iff]
  intro k hk
  by_cases hn : k = n
  · subst k
    refine ⟨(recomputeAim_owed h1 n n).2 ?_, recomputeAim_aims h1 n⟩
    rw [decideOwed_slot h, if_pos rfl]
    exact slotOwed_owedSlot s _
  · have same : (decideOwed n s).slot k = s.slot k := by rw [decideOwed_slot h, if_neg hn]
    obtain ⟨howed, haimed⟩ := hd k hk hn
    refine ⟨(recomputeAim_owed h1 n k).2 ?_, recomputeAim_keepsAims h1 n k ?_⟩ <;> rw [same]
    · exact howed
    · exact haimed

/-- R12, R15: an act on slot `n`: its record is written, then owed, source-lost, aim and the tiers are decided. What is
posted in between leaves the head end. -/
theorem refreshSlot_kept (n : Nat) {v : Slot} (hv : SlotSound (s.slot n) → SlotSound v)
    (hu : u.records = (s.setSlot n v).records) : HeadKept s (refreshSlot n u) := by
  have tables : TablesSound s → TablesSound u := fun h => (HeadKept.of_records hu).tables (h.setSlot n v)
  have slot : ∀ k, u.slot k = (s.setSlot n v).slot k := fun k => show u.records.slot k = _ from hu ▸ rfl
  have hsources : u.sources = s.sources := show u.records.sources = _ from hu ▸ rfl
  have hmode : u.power.mode = s.power.mode := show u.records.power.mode = _ from hu ▸ rfl
  refine SlotsKept.decideTiers ⟨fun h => ?_, fun h hs => ?_, fun h hs => ?_⟩
  · exact recomputeAim_tables n ((tables h).setSlot n _)
  · refine recomputeAim_slotsSound n ((tables h).setSlot n _) (decideOwed_slotSound (tables h) n fun k => ?_)
    rw [slot, slot_setSlot h.slots]
    split
    · exact hv (hs n)
    · exact hs k
  · refine refreshSlot_decided (tables h) n fun k hk hn => ?_
    rw [slotOwed_sources hsources, hmode, slot, slot_setSlot h.slots, if_neg hn]
    exact decidedSound_iff.1 hs k hk

theorem setSponsor_kept (p : Master) (v : Bool) (n : Nat) (s : State) : HeadKept s (setSponsor p v n s) :=
  refreshSlot_kept n (v := { s.slot n with sponsors := (s.slot n).sponsors.put p v }) (fun h => h) rfl

/-- R11, R12: the settings given are clamped into their ranges. -/
theorem SlotSound.withArgs {r : Slot} (h : SlotSound r) (a : SlotArgs) (ht : ∀ t, a.tier = some t → t ≤ 7) :
    SlotSound (r.withArgs a) := by
  obtain ⟨htarget, -, hperiod, htier, haim, hrest⟩ := h
  have clamped : ∀ lo hi given held, lo ≤ hi → within lo hi held = true →
      within lo hi (givenOr held lo hi given) = true := by
    intro lo hi given held hlh hheld
    simp only [within, decide_eq_true_eq] at hheld ⊢
    cases given <;> simp only [givenOr, clamp] <;> omega
  have htarget' := clamped 100 600 a.target _ (by decide) htarget
  refine ⟨htarget', ?_, clamped 1 31 a.period _ (by decide) hperiod, ?_, haim, hrest⟩
  · simp only [within, decide_eq_true_eq] at htarget' ⊢
    simp only [Slot.withArgs, clamp]
    omega
  · cases hgiven : a.tier with
    | none => simpa [Slot.withArgs, hgiven] using htier
    | some t => simpa [Slot.withArgs, hgiven] using ht t hgiven

theorem postRevision_kept (s : State) : HeadKept s (postRevision s) :=
  (HeadKept.of_records (by rfl)).trans
    ((arbitrate_kept _).trans ((entryTestAll_kept _).trans (arbitrate_kept _)))

theorem setSlotSettings_kept (a : SlotArgs) (ht : ∀ t, a.tier = some t → t ≤ 7) (s : State) :
    HeadKept s (setSlotSettings a s) := by
  unfold setSlotSettings
  extract_lets old new s1 s2 s3
  have hsent : ∀ u, (selectIfChanged a.slot old.source new.source u).records = u.records := fun u => by
    unfold selectIfChanged; split <;> rfl
  have h2 : s2.records = s1.records := by
    show (if old.tier = new.tier then s1 else raiseRevision s1).records = _
    split <;> rfl
  have h3 : HeadKept s s3 := refreshSlot_kept a.slot (fun h => h.withArgs a ht) ((hsent s2).trans h2)
  exact .ite h3 (h3.trans (postRevision_kept _))

end Kept

end Sys2Proof.Machine


namespace Sys2Proof.Machine

/-! ## Events, accrual and restarts keep what the relations say -/

section Events
variable {s t u : State}

/-- R126: the slot of the SHOWING event, read by event number. -/
theorem isShowingSlot_iff (h : TablesSound s) (n : Nat) :
    s.isShowingSlot n = true ↔ ∃ e, (s.event e).slot = some n ∧ (s.event e).state = .showing := by
  simp only [State.isShowingSlot, List.any_eq_true, Bool.and_eq_true, decide_eq_true_eq]
  constructor
  · rintro ⟨x, hx, hslot, hshow⟩
    have hread : s.event x.1 = x.2 := tabGet_of_mem h.events hx
    exact ⟨x.1, hread ▸ hslot, hread ▸ hshow⟩
  · rintro ⟨e, hslot, hshow⟩
    have listed : s.event e ≠ .cold := fun hc => by simp [hc, Event.cold] at hshow
    exact ⟨_, mem_of_tabGet_ne listed, hslot, hshow⟩

/-- An act on the events that leaves the slot of the SHOWING event. -/
theorem HeadKept.of_events (hv : t.slots = s.slots ∧ t.sources = s.sources ∧ t.power = s.power ∧
      t.tierCount = s.tierCount) (ht : TablesSound s → TablesSound t)
    (he : TablesSound s → ∀ e n, ((t.event e).slot = some n ∧ (t.event e).state = .showing) ↔
      ((s.event e).slot = some n ∧ (s.event e).state = .showing)) : HeadKept s t := by
  obtain ⟨hslots, hsources, hpower, hcount⟩ := hv
  refine .of_impairment (.of_slots hslots hsources (by rw [hpower]) ht) hcount fun h n => ?_
  have hshow : t.isShowingSlot n = s.isShowingSlot n :=
    Bool.eq_iff_iff.2 (by simp only [isShowingSlot_iff h, isShowingSlot_iff (ht h), he h])
  have hslot : ∀ k, t.slot k = s.slot k := fun k => by simp only [State.slot, hslots]
  simp only [State.slotImpaired, hslot, hshow, and_self]

theorem setEvent_kept (e : Nat) (v : Event)
    (hv : ∀ n, (v.slot = some n ∧ v.state = .showing) ↔
      ((s.event e).slot = some n ∧ (s.event e).state = .showing)) : HeadKept s (s.setEvent e v) := by
  refine .of_events ⟨rfl, rfl, rfl, rfl⟩ (fun h => h.setEvent e v) fun h k n => ?_
  rw [event_setEvent h.events]
  split
  · subst k; exact hv n
  · rfl

theorem setEvent_slotsKept (e : Nat) (v : Event) (s : State) : SlotsKept s (s.setEvent e v) :=
  .of_slots rfl rfl rfl fun h => h.setEvent e v

theorem addBuyer_kept (e : Nat) (s : State) : HeadKept s (addBuyer e s) := setEvent_kept e _ fun _ => .rfl
theorem dropBuyer_kept (e : Nat) (s : State) : HeadKept s (dropBuyer e s) := setEvent_kept e _ fun _ => .rfl

theorem mapPurchases_kept (e : Nat) (f : Purchase → Purchase) (s : State) : HeadKept s (mapPurchases e f s) :=
  forEach_kept _ (fun _ _ => setSub_kept _ _ _) s

theorem eventNotice_kept (e : Nat) (o : EventState) (s : State) : HeadKept s (eventNotice e o s) :=
  noticeTo_kept _ _ _ s

theorem cancelScheduled_kept (e : Nat) (he : (s.event e).state = .scheduled) : HeadKept s (cancelScheduled e s) := by
  unfold cancelScheduled
  extract_lets s1
  have h1 : HeadKept s s1 := forEach_kept _ (fun _ _ => setSub_kept _ _ _) s
  have e1 : s1.events = s.events :=
    forEach_frame State.events (s.buyersOf e) (fun n u => removePurchase n e u) (fun _ _ => rfl) s
  have e1' : s1.event e = s.event e := by simp only [State.event, e1]
  exact (h1.trans (setEvent_kept e _ fun n => by simp [e1', he])).trans (eventNotice_kept _ _ _)

section Decide
variable {f : State → State} (hf : ∀ s, HeadKept s (f s))
include hf

/-- R153: a change of an event's state is followed by a decision of the tiers. -/
theorem SlotsKept.announceEvent (h : SlotsKept s t) (e : Nat) (o : EventState) : HeadKept s (announceEvent f e o t) :=
  have tested : HeadKept t (testBuyers e t) := forEach_kept _ (fun _ _ => entryTestOf_kept _ _) t
  ((h.trans (tested.trans (hf _)).toSlotsKept).decideTiers).trans (eventNotice_kept _ _ _)

theorem startEvent_kept (e : Nat) (s : State) : HeadKept s (startEvent f e s) :=
  (setEvent_slotsKept e _ s).announceEvent hf e _

theorem endEvent_kept (e : Nat) (s : State) : HeadKept s (endEvent f e s) :=
  ((setEvent_slotsKept e _ s).trans (mapPurchases_kept _ _ _).toSlotsKept).announceEvent hf e _

theorem takeStart_kept (m e : Nat) (s : State) : HeadKept s (takeStart f m e s) :=
  .ite ((startEvent_kept hf e s).trans (endEvent_kept hf e _)) (startEvent_kept hf e s)

theorem evaluateEvents_kept (m : Nat) (s : State) : HeadKept s (evaluateEvents f m s) := by
  have shown : HeadKept s (endShowing f m s) := by
    unfold endShowing
    split
    · exact .ite (endEvent_kept hf _ s) (.refl s)
    · exact .refl s
  exact shown.trans (forEach_kept _ (fun n u => takeStart_kept hf m n u) _)

end Decide

theorem cancelShowing_kept (e : Nat) (s : State) : HeadKept s (cancelShowing e s) :=
  ((setEvent_slotsKept e _ s).trans (mapPurchases_kept _ _ _).toSlotsKept).announceEvent arbitrate_kept e _

end Events

section Accrual
variable {s t u : State}

/-! ### Accrual -/

theorem visitRecord_kept (shown : Option Nat) (n : Nat) (s : State) : HeadKept s (visitRecord shown n s) := by
  unfold visitRecord
  extract_lets r
  split
  · exact .refl s
  · exact setSub_kept _ _ _

theorem countCleanSweep_kept (s : State) : HeadKept s (countCleanSweep s) :=
  .ite ((HeadKept.of_records (by rfl)).trans (endAlarm_kept _ _ _)) (.of_records rfl)

theorem ageEpisodes_kept (s : State) : HeadKept s (ageEpisodes s) :=
  .of_headEnd rfl fun h => by simp_all [TablesSound, ageEpisodes, tabWf_tabMap]

theorem countShown_kept (e : Option Nat) (s : State) : HeadKept s (countShown e s) := by
  cases e with
  | none => exact .refl s
  | some e => exact setEvent_kept e _ fun _ => .rfl

theorem startSweep_kept (s : State) : HeadKept s (startSweep s) := by
  have begins : HeadKept s (beginSweep s) := by
    unfold beginSweep
    extract_lets e s1 _ s2
    have h2 : HeadKept s s2 := ((ageEpisodes_kept s).trans (countShown_kept e _)).trans (.of_records rfl)
    exact .ite (h2.trans (raiseAlarm_kept _ _ _)) h2
  exact .ite begins ((HeadKept.of_records (by rfl)).trans (countCleanSweep_kept _))

theorem tickSweep_kept (s : State) : HeadKept s (tickSweep s) := by
  unfold tickSweep
  split
  · exact startSweep_kept s
  · exact .of_records rfl
  · exact (HeadKept.of_records (by rfl)).trans (raiseAlarm_kept _ _ _)

/-- R164: the events that leave the table at a reset are not SHOWING. -/
theorem resetCycle_kept (s : State) : HeadKept s (resetCycle s) := by
  unfold resetCycle
  extract_lets overdue held s1
  have h1 : HeadKept s s1 := by
    refine .of_events ⟨rfl, rfl, rfl, rfl⟩ (fun h => by simp_all [TablesSound, s1, held, tabWf_tabMap]) fun h e n => ?_
    have hread : s1.event e = (s.event e).reset := tabGet_tabMap (by rfl) h.events e
    rw [hread]
    cases he : (s.event e).state <;> simp [Event.reset, he, Event.cold]
  exact .ite (h1.trans (endAlarm_kept _ _ _)) h1

theorem closeCycle_kept (s : State) : HeadKept s (closeCycle s).1 :=
  (HeadKept.of_records (by rfl)).trans (resetCycle_kept { s with snapshot := some s.takeSnapshot })

theorem takeWaitingClose_kept (s : State) : HeadKept s (takeWaitingClose s) := by
  have answers : ∀ a u, HeadKept u (answerInProgress .office a u) := fun a u => by
    unfold answerInProgress
    split
    · exact (setPort_kept _ _ u).trans (putAnswer_kept _ _ _ _)
    · exact .refl u
  exact .ite ((closeCycle_kept s).trans (answers _ _)) (.refl s)

theorem completeSweep_kept (s : State) : HeadKept s (completeSweep s) := by
  have pending : ∀ u, HeadKept u (takePendingTick u) := fun u =>
    .ite ((HeadKept.of_records (by rfl)).trans (startSweep_kept _)) (.refl u)
  exact (HeadKept.of_records (by rfl)).trans
    ((countCleanSweep_kept { s with billing := { s.billing with sweep := none } }).trans
      ((takeWaitingClose_kept _).trans (pending _)))

theorem sweepOne_kept (w : Sweep) (s : State) : HeadKept s (sweepOne w s) := by
  unfold sweepOne
  extract_lets s1
  have h1 : HeadKept s s1 := visitRecord_kept _ _ s
  clear_value s1
  exact .ite (h1.trans (completeSweep_kept _)) (h1.trans (.of_records rfl))

theorem takeTick_kept (s : State) : HeadKept s (takeTick s) := by
  unfold takeTick
  extract_lets clock _ s1
  have h1 : HeadKept s s1 := .of_records rfl
  exact ((h1.trans (evaluateEvents_kept arbitrate_kept clock s1)).trans (tickSweep_kept _)).trans
    (closeNoiseMinute_kept _)

theorem setRates_kept (l : List (Nat × Nat)) (s : State) : HeadKept s (setRates l s) := by
  refine .of_headEnd rfl fun h => ?_
  have hrates : tabWf 0 s.billing.rates = true := by simp_all [TablesSound]
  have := tabWf_foldl_tabPut Prod.fst (fun e => min 99999 e.2) l hrates
  simp_all [TablesSound, setRates]

end Accrual

section Restart
variable {s t u : State}

/-! ### Restarts -/

theorem restartPorts_kept (b : Straps) (s : State) : HeadKept s (restartPorts b s) :=
  have started : ∀ x p u, HeadKept u (restartPort x p u) := fun _ p u => setPort_kept p _ u
  (started _ .office s).trans ((started _ .technician _).trans (started _ .schedule _))

theorem announceStart_kept (s : State) : HeadKept s (announceStart s) := noticeTo_kept _ _ _ s

/-- What the line-up of a warm restart keeps until the aims are recomputed. -/
structure OwedKept (s t : State) : Prop where
  tables : TablesSound s → TablesSound t
  slots : TablesSound s → SlotsSound s → SlotsSound t
  owed : TablesSound s → OwedSound s → OwedSound t

theorem OwedKept.refl (s : State) : OwedKept s s := ⟨fun h => h, fun _ h => h, fun _ h => h⟩

theorem OwedKept.trans (h : OwedKept s t) (h' : OwedKept t u) : OwedKept s u :=
  ⟨fun hs => h'.tables (h.tables hs), fun hs hr => h'.slots (h.tables hs) (h.slots hs hr),
    fun hs hr => h'.owed (h.tables hs) (h.owed hs hr)⟩

theorem forEach_owedKept (l : List Nat) {f : Nat → State → State} (h : ∀ n s, OwedKept s (f n s)) (s : State) :
    OwedKept s (forEach l f s) :=
  forEach_keeps (P := OwedKept s) l f (fun n _ t ht => ht.trans (h n t)) s (.refl s)

/-- An act that leaves the slots and the sources. -/
theorem OwedKept.of_slots (hs : t.slots = s.slots) (hq : t.sources = s.sources)
    (ht : TablesSound s → TablesSound t) : OwedKept s t where
  tables := ht
  slots _ h n := by simpa only [State.slot, hs] using h n
  owed _ h n hn := by simpa only [SlotOwed, State.slot, State.sourceIsLost, State.source, hs, hq] using h n hn

theorem OwedKept.of_butAlarms (h : t.butAlarms = s.butAlarms) : OwedKept s t :=
  .of_slots (show t.butAlarms.slots = _ from h ▸ rfl) (show t.butAlarms.sources = _ from h ▸ rfl)
    (HeadKept.of_butAlarms h).tables

theorem setSlot_owedKept {n : Nat} {v : Slot} (hr : SlotSound (s.slot n) → SlotSound v)
    (ho : SlotOwed s (s.slot n) → SlotOwed s v) : OwedKept s (s.setSlot n v) where
  tables h := h.setSlot n v
  slots h hs k := by
    rw [slot_setSlot h.slots]
    split
    · exact hr (hs n)
    · exact hs k
  owed h hs k hk := by
    rw [slot_setSlot h.slots]
    split
    · subst k; exact ho (hs n hk)
    · exact hs k hk

theorem setJudgement_owedKept (n : Nat) (j : Judgement) (l h c : Nat) (s : State) :
    OwedKept s (setJudgement n j l h c s) := by
  have written : OwedKept s (s.setSlot n { s.slot n with
      judgement := j, lowCount := l, highCount := h, clearCount := c }) :=
    setSlot_owedKept (fun h => h) (fun h => h)
  exact written.trans (.of_butAlarms (setJudgement_butAlarms n j l h c s))

theorem restartMonitor_owedKept (s : State) : OwedKept s (restartMonitor s) :=
  OwedKept.trans (t := { s with monitor := { s.monitor with
      conversion := none, settling := s.monitor.enable, cursor := 1 } })
    ⟨fun h => h, fun _ h => h, fun _ h => h⟩
    (forEach_owedKept _ (fun n u =>
      OwedKept.trans (t := u.setSlot n { u.slot n with measured := none })
        (setSlot_owedKept (fun h => h) (fun h => h)) (setJudgement_owedKept _ _ _ _ _ _)) _)

theorem dropCarrier_owedKept (n : Nat) (s : State) : OwedKept s (dropCarrier n s) := by
  have written : OwedKept s (s.setSlot n { s.slot n with
      carrierOn := false, level := none, ramp := .steady, stepTimer := none, aim := .off, aimLevel := 100 }) := by
    refine setSlot_owedKept (fun h => ?_) fun h => h
    obtain ⟨htarget, hfloor, hperiod, htier, -⟩ := h
    exact ⟨htarget, hfloor, hperiod, htier, by simp [within], fun _ => ⟨rfl, rfl, rfl⟩, fun h => (by cases h),
      fun h => (by cases h), by simp⟩
  exact written.trans (.of_slots rfl rfl fun h => h)

theorem warmMode_owedKept (s : State) : OwedKept s (warmMode s) := by
  have announced : ∀ old new u, OwedKept u (announceMode old new u) := fun old new u =>
    .of_butAlarms (announceMode_butAlarms old new u)
  unfold warmMode
  extract_lets s1 old new
  split
  · exact ⟨fun h => h, fun _ h => h, fun _ h => h⟩
  · exact OwedKept.trans (t := { s1 with power := { s1.power with mode := new } })
      ⟨fun h => h, fun _ h => h, fun _ h => h⟩ (announced _ _ _)

/-- R2: the sponsors a warm restart leaves. -/
def Slot.warmed (r : Slot) : Slot :=
  match r.warm with
  | .all => { r with sponsors := allMasters }
  | .retain => r

/-- R2, R15: a warm restart's turn writes slot `n` with its sponsors and its owed condition. -/
theorem warmSponsors_slot (h : TablesSound s) (n k : Nat) :
    (warmSponsors n s).slot k = if k = n then s.owedSlot (s.slot n).warmed else s.slot k := by
  unfold warmSponsors Slot.warmed
  extract_lets r
  cases hw : r.warm with
  | all =>
    rw [decideOwed_slot (h.setSlot n _), slot_setSlot h.slots, slot_setSlot h.slots, if_pos rfl]
    by_cases hk : k = n <;> simp [hk, r]; rfl
  | retain => simp only [decideOwed_slot h]

theorem warmSponsors_tables (h : TablesSound s) (n : Nat) : TablesSound (warmSponsors n s) := by
  unfold warmSponsors
  extract_lets r
  split
  · exact (h.setSlot _ _).setSlot _ _
  · exact h.setSlot _ _

theorem warmSponsors_sources (n : Nat) (s : State) : (warmSponsors n s).sources = s.sources := by
  unfold warmSponsors
  extract_lets r
  split <;> rfl

theorem SlotSound.warmed {r : Slot} (h : SlotSound r) : SlotSound r.warmed := by
  unfold Slot.warmed
  split <;> exact h

/-- R2: after the line-up's part of a warm restart every slot's owed condition is decided. -/
theorem warmSponsors_owed (h : TablesSound s) : OwedSound (forEach slotNumbers warmSponsors s) := fun k hk =>
  forEach_each (P := TablesSound) (Q := fun k u => SlotOwed u (u.slot k)) slotNumbers
    (fun n _ hu => warmSponsors_tables hu n)
    (fun n u hu => by
      rw [slotOwed_sources (warmSponsors_sources n u), warmSponsors_slot hu, if_pos rfl]
      exact slotOwed_owedSlot u _)
    (fun n k u hu ho => by
      rw [slotOwed_sources (warmSponsors_sources n u), warmSponsors_slot hu]
      split
      · exact slotOwed_owedSlot u _
      · exact ho) h k (.inl (mem_slotNumbers.2 hk))

theorem takeSource_slotsKept (n : Nat) (s : State) : SlotsKept s (takeSource n s) := by
  unfold takeSource
  extract_lets r s1
  split
  · exact (setSource_kept n _ (Eq.symm ‹_›)).toSlotsKept
  · exact presenceTaken_slotsKept n _

/-- R2, R5, R35, R121: the head end's part of a warm restart keeps the slots sound and decides every one. -/
theorem restartHeadEnd_slotsKept (s : State) : SlotsKept s (restartHeadEnd s) := by
  unfold restartHeadEnd restartRamp
  have sourced : SlotsKept s (forEach sourceNumbers takeSource s) := forEach_slotsKept _ takeSource_slotsKept s
  generalize forEach sourceNumbers takeSource s = s1 at sourced
  have sponsored : TablesSound s1 → TablesSound (forEach slotNumbers warmSponsors s1) := fun h =>
    forEach_keeps (P := TablesSound) _ _ (fun n _ _ h => warmSponsors_tables h n) s1 h
  have dropped : OwedKept (forEach slotNumbers warmSponsors s1) _ :=
    ((restartMonitor_owedKept _).trans (forEach_owedKept slotNumbers dropCarrier_owedKept _)).trans
      (warmMode_owedKept _)
  refine ⟨fun h => ?_, fun h hs => ?_, fun h _ => ?_⟩
  · exact forEach_keeps (P := TablesSound) _ _ (fun n _ u hu => recomputeAim_tables n hu) _
      (dropped.tables (sponsored (sourced.tables h)))
  · have sponsoredSlots := forEach_keeps (P := fun u => TablesSound u ∧ SlotsSound u) slotNumbers warmSponsors
      (fun n _ u hu => ⟨warmSponsors_tables hu.1 n, fun k => by
        rw [warmSponsors_slot hu.1]
        split
        · exact (hu.2 n).warmed
        · exact hu.2 k⟩) s1 ⟨sourced.tables h, sourced.slots h hs⟩
    exact (forEach_keeps (P := fun u => TablesSound u ∧ SlotsSound u) slotNumbers recomputeAim
      (fun n _ u hu => ⟨recomputeAim_tables n hu.1, recomputeAim_slotsSound n hu.1 hu.2⟩) _
      ⟨dropped.tables sponsoredSlots.1, dropped.slots sponsoredSlots.1 sponsoredSlots.2⟩).2
  · have h1 := sponsored (sourced.tables h)
    exact recomputeAims_decided (g := id) (fun _ => ⟨rfl, rfl, rfl⟩) (fun _ h => h) (dropped.tables h1)
      (dropped.owed h1 (warmSponsors_owed (sourced.tables h)))

theorem restartPlant_kept (s : State) : HeadKept s (restartPlant s) := by
  have survey : ∀ u, HeadKept u (restartSurvey u) := fun u =>
    .of_headEnd rfl fun h => by simp_all [TablesSound, restartSurvey, tabWf_tabMap]
  exact (HeadKept.of_records (by rfl)).trans ((rebuildSync_kept (restartCarrier s)).trans
    ((survey _).trans (.of_records (by rfl))))

theorem restartMinute_kept (s : State) : HeadKept s (restartMinute s) := .of_records rfl

/-- R175: a warm restart keeps the tables' form and the slots sound, and decides every slot and every tier. -/
theorem warmRestart_kept (b : Straps) (s : State) : HeadKept s (warmRestart b s) := by
  unfold warmRestart
  extract_lets s1 s2 s3
  have h1 : HeadKept s s1 :=
    (restartPorts_kept b s).trans ((HeadKept.of_records (by rfl)).trans (announceStart_kept _))
  have correlated : ∀ u, HeadKept u (decideBranches (forEach branchNumbers recountTaps u)) := fun u =>
    (forEach_kept branchNumbers recountTaps_kept u).trans (decideBranches_kept _)
  have h2 : HeadKept s1 s2 := by
    have := (restartHeadEnd_slotsKept s1).trans ((restartPlant_kept _).trans (correlated _)).toSlotsKept
    exact this.decideTiers
  have h3 : HeadKept s2 s3 := evaluateEvents_kept (fun u => .refl u) _ s2
  have resumed : ∀ u, HeadKept u (resumeMonitor u) := fun u => .ite (beginConversion_kept 1 u) (.refl u)
  have h4 : HeadKept s3 (restartMinute (clearUntrue s3)) :=
    (HeadKept.of_butAlarms (clearUntrue_butAlarms s3)).trans (restartMinute_kept _)
  generalize restartMinute (clearUntrue s3) = s4 at h4
  exact (((h1.trans h2).trans h3).trans h4).trans ((resumed _).trans (arbitrate_kept _))

theorem raiseStanding_butAlarms (s : State) : (raiseStanding s).butAlarms = s.butAlarms := by
  have lost : (forEach sourceNumbers raiseLost s).butAlarms = s.butAlarms :=
    forEach_frame State.butAlarms _ _ (fun n u => by unfold raiseLost; split <;> simp) s
  unfold raiseStanding
  rw [raiseAlarm_butAlarms]
  unfold postPower
  split
  · rw [raiseAlarm_butAlarms, lost]
  · exact lost

/-- R176: a cold start's tables are in their form, and its slots and tiers are those of cold records. -/
theorem coldTables_kept (s : State) : HeadKept s (coldTables s) where
  tables _ := by simp [TablesSound, coldTables, State.reset, tabWf, tabWf_tabMap]
  slots _ _ _ := slotSound_cold
  decided _ _ _ _ := ⟨rfl, rfl, rfl, rfl⟩
  counts _ _ n _ := by
    have : (coldTables s).impairedIn n = 0 := by
      simp [State.impairedIn, State.slotImpaired, State.isShowingSlot, State.slot, coldTables, State.reset, tabGet,
        Slot.cold]
    exact this.symm

theorem coldStart_kept (b : Straps) (s : State) : HeadKept s (coldStart b s) :=
  (coldTables_kept s).trans ((restartPorts_kept b _).trans ((announceStart_kept _).trans
    (.of_butAlarms (raiseStanding_butAlarms _))))

end Restart

end Sys2Proof.Machine


namespace Sys2Proof.Machine

/-! ## Requests and commands -/

section Requests
variable {s : State}

/-- A block that chooses by a check. -/
theorem HeadKept.block_ite {c : Prop} [Decidable c] {x y : State × Ans} (h : HeadKept s x.1) (h' : HeadKept s y.1) :
    HeadKept s (if c then x else y).1 := by split <;> assumption

theorem HeadKept.answered {t : State} (h : HeadKept s t) (content : State → List Byte) :
    HeadKept s (answered content t).1 := h

/-- R171: a request keeps what its block keeps. -/
theorem takeRequest_kept {α : Type} {block : Block α} (hb : ∀ a u, HeadKept u (block a u).1) (p : Master) (k : Nat)
    (ok : Bool) (parse : List Byte → Option α) (s : State) : HeadKept s (takeRequest p k ok parse block s) := by
  unfold takeRequest
  split
  · have dropped : HeadKept s (dropHead p s) := setPort_kept _ _ s
    unfold serve
    split
    · split
      · exact (dropped.trans (hb _ _)).trans (putAnswer_kept _ _ _ _)
      · exact dropped.trans (putAnswer_kept _ _ _ _)
    · exact dropped.trans (putAnswer_kept _ _ _ _)
  · exact .refl s

/-! ### The office's blocks -/

theorem subscriberAdd_kept (a : AddArgs) (s : State) : HeadKept s (subscriberAdd a s).1 := by
  unfold subscriberAdd
  refine .block_ite (.refl s) (.block_ite (.refl s) (.block_ite (.refl s) ?_))
  split
  · exact .refl s
  · exact .block_ite ((setSub_kept _ _ s).trans ((entryTest_kept _ _).trans (arbitrate_kept _))) (.refl s)

theorem subscriberChange_kept (a : Nat × TierSet) (s : State) : HeadKept s (subscriberChange a s).1 :=
  .block_ite (.refl s) (.block_ite (.refl s)
    (.ite (.refl s) ((setSub_kept _ _ s).trans ((entryTestOf_kept _ _).trans (arbitrate_kept _)))))

theorem subscriberRemove_kept (n : Nat) (s : State) : HeadKept s (subscriberRemove n s).1 :=
  .block_ite (.refl s) (.block_ite (.refl s)
    ((setSub_kept _ _ s).trans ((forEach_kept _ dropBuyer_kept _).trans
      ((entryTestOf_kept _ _).trans (arbitrate_kept _)))))

theorem purchase_kept (a : Nat × Nat) (s : State) : HeadKept s (purchase a s).1 := by
  have added : HeadKept s (addPurchase a.1 a.2 s) := by
    unfold addPurchase
    extract_lets r s1
    have h1 : HeadKept s s1 := (setSub_kept _ _ s).trans (addBuyer_kept _ _)
    exact .ite (h1.trans ((entryTestOf_kept _ _).trans (arbitrate_kept _))) h1
  exact .block_ite (.refl s) (.block_ite (.refl s) (.block_ite (.refl s) (.block_ite (.refl s)
    (.block_ite (.refl s) (.block_ite (.refl s) added)))))

theorem purchaseCancel_kept (a : Nat × Nat) (s : State) : HeadKept s (purchaseCancel a s).1 :=
  .block_ite (.refl s) (.block_ite (.refl s) (.block_ite (.refl s)
    ((setSub_kept _ _ s).trans (dropBuyer_kept _ _))))

theorem clockSet_kept (m : Nat) (s : State) : HeadKept s (clockSet m s).1 :=
  (HeadKept.of_records (by rfl)).trans
    (evaluateEvents_kept arbitrate_kept m { s with billing := { s.billing with clock := m } })

theorem statementRead_kept (n : Nat) (s : State) : HeadKept s (statementRead n s).1 := by
  unfold statementRead
  refine .block_ite (.refl s) ?_
  split
  · exact .refl s
  · split <;> exact .refl s

theorem serveClose_kept (p : Master) (m : Msg) (s : State) : HeadKept s (serveClose p m s) := by
  unfold serveClose
  split
  · split
    · unfold closeOrWait
      split
      · exact (closeCycle_kept s).trans (putAnswer_kept _ _ _ _)
      · exact (HeadKept.of_records (by rfl)).trans (setPort_kept _ _ _)
    · exact putAnswer_kept _ _ _ s
  · exact putAnswer_kept _ _ _ s

/-! ### The technician's blocks -/

theorem portLocking_kept (v : Bool) (a : Nat × Nat) (s : State) : HeadKept s (portLocking v a s).1 := by
  unfold portLocking
  refine .block_ite (.refl s) ?_
  split
  · exact .ite (.refl s) ((setSub_kept _ _ s).trans ((entryTestOf_kept _ _).trans (arbitrate_kept _)))
  · exact .refl s

theorem tapInstall_kept (a : Nat × Nat) (s : State) : HeadKept s (tapInstall a s).1 :=
  .block_ite (.refl s) (.block_ite (.refl s) (.block_ite (.refl s)
    ((setTap_kept _ _ s).trans ((changeBranch_kept _ _ _).trans ((entryTest_kept _ _).trans (arbitrate_kept _))))))

theorem endIf_kept (c : Bool) (k : AlarmKind) (n : Nat) (s : State) : HeadKept s (endIf c k n s) :=
  .ite (endAlarm_kept _ _ s) (.refl s)

theorem removeTap_kept (n : Nat) (s : State) : HeadKept s (removeTap n s) := by
  have gone : ∀ r u, HeadKept u (postTapGone r u) := fun r u => by
    unfold postTapGone
    split
    · exact changeBranch_kept _ _ u
    · exact .refl u
  unfold removeTap
  extract_lets r s1 s2
  have h1 : HeadKept s s1 :=
    (HeadKept.of_records (by rfl)).trans ((endIf_kept _ _ _ { s with syncSet := s.syncSet.erase n }).trans
      ((endIf_kept _ _ _ _).trans (endIf_kept _ _ _ _)))
  exact ((h1.trans (gone r s1)).trans (setTap_kept _ _ _)).trans (endIf_kept _ _ _ _)

theorem tapRemove_kept (n : Nat) (s : State) : HeadKept s (tapRemove n s).1 :=
  .block_ite (.refl s) (.block_ite (.refl s) (.block_ite (.refl s) (removeTap_kept n s)))

theorem postStation_kept (n : Nat) (x y : Bool) (s : State) : HeadKept s (postStation n x y s) :=
  .ite (setWatch_kept _ _ s) (.ite (stationLost_kept n s) (.refl s))

theorem branchSet_kept (a : BranchArgs) (s : State) : HeadKept s (branchSet a s).1 := by
  have removal : HeadKept s (branchRemoval a.branch s).1 :=
    .block_ite (.refl s) (.block_ite (.refl s)
      ((setBranch_kept _ _ s).trans ((postStation_kept _ _ _ _).trans
        ((decideBranches_kept _).trans (setWatch_kept _ _ _)))))
  have change : HeadKept s (branchChange a s).1 := by
    unfold branchChange
    split
    · exact .refl s
    · exact (setBranch_kept _ _ s).trans ((postInterval_kept _ _ _).trans
        ((postStation_kept _ _ _ _).trans ((decideBranches_kept _).trans (arbitrate_kept _))))
  exact .block_ite (.refl s) (.block_ite removal change)

theorem branchForcing_kept (v : Bool) (n : Nat) (s : State) : HeadKept s (branchForcing v n s).1 :=
  .block_ite (.refl s) (.block_ite (.refl s) (.ite (.refl s) (changeBranch_kept _ _ s)))

theorem carrierOn_kept (s : State) : HeadKept s (carrierOn s) :=
  .ite (.refl s) ((HeadKept.of_records (by rfl)).trans (arbitrate_kept _))

theorem returnOn_kept (s : State) : HeadKept s (returnOn s) :=
  .ite (.refl s) ((HeadKept.of_records (by rfl)).trans (arbitrate_kept _))

theorem returnOff_kept (s : State) : HeadKept s (returnOff s) := .ite (.of_records rfl) (.refl s)

theorem acceptQuery_kept (k : QueryKind) (n : Nat) (l : List Byte) (s : State) :
    HeadKept s (acceptQuery k n l s).1 :=
  .block_ite ((HeadKept.of_records (by rfl)).trans (arbitrate_kept _)) (.refl s)

theorem tapQuery_kept (n : Nat) (s : State) : HeadKept s (tapQuery n s).1 :=
  .block_ite (acceptQuery_kept .tapQuery n [] s) (.refl s)
theorem tapEcho_kept (a : Nat × List Byte) (s : State) : HeadKept s (tapEcho a s).1 :=
  .block_ite (acceptQuery_kept .tapEcho a.1 a.2 s) (.refl s)
theorem stationQuery_kept (n : Nat) (s : State) : HeadKept s (stationQuery n s).1 :=
  .block_ite (acceptQuery_kept .stationQuery n [] s) (.refl s)

theorem monitorSet_kept (a : MonitorArgs) (s : State) : HeadKept s (monitorSet a s).1 :=
  (HeadKept.of_records (by rfl)).trans (applyMonitor_kept s.monitor { s with monitor := s.monitor.withArgs a })

theorem alarmResurvey_kept (a : Unit) (s : State) : HeadKept s (alarmResurvey a s).1 :=
  .of_butAlarms (resurvey_butAlarms s)

theorem serveRestart_kept (p : Master) (m : Msg) (b : Straps) (s : State) : HeadKept s (serveRestart p m b s) := by
  unfold serveRestart
  split
  · split
    · exact warmRestart_kept b s
    · exact putAnswer_kept _ _ _ s
  · exact putAnswer_kept _ _ _ s

/-! ### The schedule master's blocks and the shared ones -/

theorem slotSet_kept (a : SlotArgs) (s : State) : HeadKept s (slotSet a s).1 := by
  unfold slotSet
  split
  · exact .refl s
  · rename_i hin
    refine .block_ite (.refl s) (setSlotSettings_kept a (fun n hn => ?_) s)
    simp [within, hn] at hin
    omega

theorem eventSchedule_kept (a : ScheduleArgs) (s : State) : HeadKept s (eventSchedule a s).1 := by
  unfold eventSchedule scheduleClamped
  refine .block_ite (.refl s) (.block_ite (.refl s) (.block_ite (.refl s) (.block_ite (.refl s) ?_)))
  split
  · rename_i n hn
    have hfree : (s.event n).state = .free := by simpa using List.find?_some hn
    exact .answered (setEvent_kept n _ fun k => by simp [scheduledEvent, hfree]) _
  · exact .refl s

theorem eventCancel_kept (e : Nat) (s : State) : HeadKept s (eventCancel e s).1 := by
  unfold eventCancel
  refine .block_ite ?_ (.refl s)
  split
  · exact .refl s
  · exact (cancelScheduled_kept e ‹_›).answered _
  · exact (cancelShowing_kept e s).answered _
  · exact .refl s
  · exact .refl s

theorem sponsoring_kept (p : Master) (v : Bool) (n : Nat) (s : State) : HeadKept s (sponsoring p v n s).1 :=
  .block_ite (setSponsor_kept p v n s) (.refl s)

theorem alarmAck_kept (p : Master) (n : Nat) (s : State) : HeadKept s (alarmAck p n s).1 := by
  unfold alarmAck
  refine .block_ite ?_ (.refl s)
  split
  · exact .refl s
  · exact .block_ite (.of_butAlarms ((retire_butAlarms _ _).trans rfl)) (.refl s)

theorem reading_kept (hi : Nat) (content : Nat → State → List Byte) (n : Nat) (s : State) :
    HeadKept s (reading hi content n s).1 := .block_ite (.refl s) (.refl s)

theorem subscriberRead_kept (n : Nat) (s : State) : HeadKept s (subscriberRead n s).1 := by
  have read := fun c => reading_kept 2048 c n s
  exact .block_ite ((read _).trans (.of_records (by rfl))) (read _)

/-! ### Every command -/

/-- Where a command answers a next state, it keeps what the relations say. -/
def KeptBy (s : State) (r : Result) : Prop := ∀ t, r = .next t → HeadKept s t

theorem KeptBy.next {t : State} (h : HeadKept s t) : KeptBy s (.next t) := fun u hu => by
  obtain rfl : t = u := by injection hu
  exact h

theorem KeptBy.fault (f : Fault) : KeptBy s (.fault f) := fun _ hu => by cases hu

theorem KeptBy.ite {c : Prop} [Decidable c] {x y : Result} (h : KeptBy s x) (h' : KeptBy s y) :
    KeptBy s (if c then x else y) := by split <;> assumption

theorem KeptBy.request {α : Type} {block : Block α} (hb : ∀ a u, HeadKept u (block a u).1) (p : Master) (k : Nat)
    (ok : Bool) (parse : List Byte → Option α) : KeptBy s (.next (takeRequest p k ok parse block s)) :=
  .next (takeRequest_kept hb p k ok parse s)

/-- A request that its port does not take through `takeRequest`. -/
theorem KeptBy.taken {p : Master} {f : Nat → Bool} {g : Msg → State → State} (hg : ∀ m u, HeadKept u (g m u)) :
    KeptBy s (match s.takable p f with
      | some m => .next (g m (dropHead p s))
      | none => .next s) := by
  split
  · exact .next ((setPort_kept _ _ s).trans (hg _ _))
  · exact .next (.refl s)

/-! The events at the pins, lines and timers. -/

theorem execSourcePresenceLineChange_kept (n : Nat) (high : Bool) :
    KeptBy s (execSourcePresenceLineChange n high s) :=
  .ite (.ite (.next (.refl s)) (.next (setSource_kept n _ rfl))) (.fault _)

theorem execSourceQualificationExpiry_kept (n : Nat) : KeptBy s (execSourceQualificationExpiry n s) := by
  unfold execSourceQualificationExpiry
  refine .ite ?_ (.fault _)
  split
  · exact .next ((passTime_kept _ s).trans (qualifySource_kept n _))
  · exact .next (.refl s)

theorem execSupplyLineChange_kept (line : SupplyLine) (high : Bool) : KeptBy s (execSupplyLineChange line high s) := by
  cases line <;> exact .ite (.next (.refl s)) (.next (.of_records rfl))

theorem execSupplyQualificationExpiry_kept (line : SupplyLine) : KeptBy s (execSupplyQualificationExpiry line s) := by
  cases line <;> unfold execSupplyQualificationExpiry <;> dsimp only <;> split
  · exact .next ((passTime_kept _ s).trans (qualifyMains_kept _))
  · exact .next (.refl s)
  · exact .next ((passTime_kept _ s).trans (qualifyReserve_kept _))
  · exact .next (.refl s)

theorem execStepTimerExpiry_kept (n : Nat) : KeptBy s (execStepTimerExpiry n s) := by
  unfold execStepTimerExpiry
  refine .ite ?_ (.fault _)
  split
  · rename_i w hw
    have runs : ((advanceTo w s).slot n).stepTimer.isSome = true := by simp [advanceTo, State.slot] at hw ⊢; simp [hw]
    exact .next ((passTime_kept _ s).trans (takeStep_kept n runs))
  · exact .next (.refl s)

theorem execTransmitCompletion_kept : KeptBy s (execTransmitCompletion s) := by
  unfold execTransmitCompletion
  split
  · exact .next (transmitted_kept _ s)
  · exact .next (.refl s)

theorem execReplyTake_kept : KeptBy s (execReplyTake s) := by
  unfold execReplyTake
  split
  · exact .next (takeFrame_kept _ s)
  · exact .next (.refl s)

theorem execReplyWindowExpiry_kept : KeptBy s (execReplyWindowExpiry s) := by
  unfold execReplyWindowExpiry
  split
  · exact .next ((passTime_kept _ s).trans (failAttempt_kept _ _ _))
  · exact .next (.refl s)

theorem execDwellExpiry_kept (r : Nat) : KeptBy s (execDwellExpiry r s) := by
  unfold execDwellExpiry
  split
  · exact .next ((passTime_kept _ s).trans (completeConversion_kept _ _ _))
  · exact .next (.refl s)

theorem execSweepVisit_kept : KeptBy s (execSweepVisit s) := by
  unfold execSweepVisit
  split
  · exact .next (sweepOne_kept _ s)
  · exact .next (.refl s)

/-! The ports. -/

theorem setReceiver_kept (p : Master) (rx : Receiver) (s : State) : HeadKept s (setReceiver p rx s) :=
  setPort_kept _ _ s

theorem acceptMessage_kept (p : Master) (m : Msg) (s : State) : HeadKept s (acceptMessage p m s) :=
  .ite (setPort_kept _ _ s) (.ite (putAnswer_kept _ _ _ s) (.refl s))

theorem takeByte_kept (p : Master) (b : Byte) (s : State) : HeadKept s (takeByte p b s) := by
  have hunts : HeadKept s (huntByte p b s) := .ite (setReceiver_kept _ _ s) (setReceiver_kept _ _ s)
  have finishes : ∀ l, HeadKept s (finishMessage p l s) := fun l => by
    unfold finishMessage
    extract_lets s1
    have h1 : HeadKept s s1 := setReceiver_kept _ _ s
    split
    · exact .ite (h1.trans (acceptMessage_kept _ _ _)) h1
    · exact h1
  unfold takeByte
  split
  · exact hunts
  · exact .ite (setReceiver_kept _ _ s) hunts
  · exact .ite (setReceiver_kept _ _ s) (finishes _)

theorem execInterByteTimeout_kept (p : Master) : KeptBy s (execInterByteTimeout p s) := by
  unfold execInterByteTimeout
  split
  · exact .next ((passTime_kept _ s).trans (setReceiver_kept _ _ _))
  · exact .next (.refl s)

theorem execMessageSent_kept (p : Master) : KeptBy s (execMessageSent p s) := by
  unfold execMessageSent
  extract_lets q
  split
  · exact .next (setPort_kept _ _ s)
  · exact .next (.refl s)

/-- Every command keeps the tables' form, the slots sound and decided, and the tier counts. -/
theorem exec_kept (c : Instr) (s : State) : KeptBy s (exec c s) := by
  cases c with
  | sourcePresenceLineChange n high => exact execSourcePresenceLineChange_kept n high
  | sourceQualificationExpiry n => exact execSourceQualificationExpiry_kept n
  | supplyLineChange line high => exact execSupplyLineChange_kept line high
  | supplyQualificationExpiry line => exact execSupplyQualificationExpiry_kept line
  | stepTimerExpiry n => exact execStepTimerExpiry_kept n
  | transmitCompletion => exact execTransmitCompletion_kept
  | frameReceived bytes stops => exact .ite (.ite (.next (receiveFrame_kept _ s)) (.next (.refl s))) (.fault _)
  | frameStreamTimeout => exact .ite (.next (receiveFrame_kept _ s)) (.next (.refl s))
  | replyTake => exact execReplyTake_kept
  | replyWindowExpiry => exact execReplyWindowExpiry_kept
  | pollDueTime b => exact .ite (.next (atSurveyTime_kept _ (fun u => setWatch_kept _ _ u) s)) (.fault _)
  | stationDeadline b => exact .ite (.next (atSurveyTime_kept _ (takeDeadline_kept b) s)) (.fault _)
  | recoveryDueTime b => exact .ite (.next (atSurveyTime_kept _ (fun u => setWatch_kept _ _ u) s)) (.fault _)
  | auditStepTimerExpiry => exact .next (atSurveyTime_kept _ (fun u => .of_records (by rfl)) s)
  | dwellExpiry r => exact execDwellExpiry_kept r
  | minuteTick => exact .next ((passTime_kept _ s).trans (takeTick_kept _))
  | sweepVisit => exact execSweepVisit_kept
  | messageReceived p kind tag body =>
    exact .ite (.next ((setReceiver_kept p .hunting s).trans (acceptMessage_kept _ _ _))) (.fault _)
  | interByteTimeout p => exact execInterByteTimeout_kept p
  | messageSent p => exact execMessageSent_kept p
  | unknownRequest p => exact .taken fun m u => putAnswer_kept p m _ u
  | subscriberAdd p => exact .request subscriberAdd_kept p _ _ _
  | subscriberChange p => exact .request subscriberChange_kept p _ _ _
  | subscriberRemove p => exact .request subscriberRemove_kept p _ _ _
  | purchase p => exact .request purchase_kept p _ _ _
  | purchaseCancel p => exact .request purchaseCancel_kept p _ _ _
  | clockSet p => exact .request clockSet_kept p _ _ _
  | rateSet p => exact .request (fun l u => .block_ite (.refl u) (setRates_kept l u)) p _ _ _
  | creditSet p => exact .request (fun _ u => .of_records (by rfl)) p _ _ _
  | cycleClose p => exact .taken (serveClose_kept p)
  | statementRead p => exact .request statementRead_kept p _ _ _
  | portLock p => exact .request (portLocking_kept true) p _ _ _
  | portUnlock p => exact .request (portLocking_kept false) p _ _ _
  | tapInstall p => exact .request tapInstall_kept p _ _ _
  | tapRemove p => exact .request tapRemove_kept p _ _ _
  | branchSet p => exact .request branchSet_kept p _ _ _
  | branchForce p => exact .request (branchForcing_kept true) p _ _ _
  | branchRelease p => exact .request (branchForcing_kept false) p _ _ _
  | carrierOn p => exact .request (fun _ u => carrierOn_kept u) p _ _ _
  | carrierOff p => exact .request (fun _ u => .of_records (by rfl)) p _ _ _
  | returnOn p => exact .request (fun _ u => returnOn_kept u) p _ _ _
  | returnOff p => exact .request (fun _ u => returnOff_kept u) p _ _ _
  | linkSet p => exact .request (fun _ u => .of_records (by rfl)) p _ _ _
  | tapQuery p => exact .request tapQuery_kept p _ _ _
  | tapEcho p => exact .request tapEcho_kept p _ _ _
  | stationQuery p => exact .request stationQuery_kept p _ _ _
  | monitorSet p => exact .request monitorSet_kept p _ _ _
  | alarmResurvey p => exact .request alarmResurvey_kept p _ _ _
  | restart p b => exact .taken fun m u => serveRestart_kept p m b u
  | slotSet p => exact .request slotSet_kept p _ _ _
  | eventSchedule p => exact .request eventSchedule_kept p _ _ _
  | eventCancel p => exact .request eventCancel_kept p _ _ _
  | sponsor p => exact .request (sponsoring_kept p true) p _ _ _
  | withdraw p => exact .request (sponsoring_kept p false) p _ _ _
  | audienceSet p => exact .request (fun _ u => .of_records (by rfl)) p _ _ _
  | alarmAck p => exact .request (alarmAck_kept p) p _ _ _
  | identify p => exact .request (fun _ u => .refl u) p _ _ _
  | slotRead p => exact .request (reading_kept _ _) p _ _ _
  | subscriberRead p => exact .request subscriberRead_kept p _ _ _
  | tapRead p => exact .request (reading_kept _ _) p _ _ _
  | branchRead p => exact .request (reading_kept _ _) p _ _ _
  | stationRead p => exact .request (reading_kept _ _) p _ _ _
  | alarmListRead p => exact .request (reading_kept _ _) p _ _ _
  | eventRead p => exact .request (reading_kept _ _) p _ _ _
  | billingRead p => exact .request (fun _ u => .refl u) p _ _ _
  | linkRead p => exact .request (fun _ u => .refl u) p _ _ _
  | restartLine intact b => exact .next (.ite (warmRestart_kept b s) (coldStart_kept b s))
  | startIndication a b c => exact .ite (.next (.of_records rfl)) (.next (.refl s))
  | masterPortByteReceived p byte stop => exact .ite (.next (takeByte_kept p byte s)) (.next (setReceiver_kept _ _ s))

/-- A step runs the front command on the queue's rest, or 1 ms passes. -/
theorem step_kept {t : State} (h : step s = .next t) : HeadKept s t := by
  unfold step at h
  split at h
  · exact HeadKept.trans (.of_records (by rfl)) (exec_kept _ _ t h)
  · injection h with h
    exact h ▸ passTime_kept 1 s

/-- Settles O52: each write of a table keeps its form, and every command is made of such writes. -/
theorem tablesStaySound : Obligations.TablesStaySound := by
  unfold Obligations.TablesStaySound
  exact fun s t hs h => (step_kept h).tables hs

/-- Settles O53: a command keeps every slot in its ranges, decides a slot with each act on it, and decides the tiers where
the act ends. -/
theorem slotsStaySoundAndDecided : Obligations.SlotsStaySoundAndDecided := by
  unfold Obligations.SlotsStaySoundAndDecided
  exact ⟨fun s t hs hr h => (step_kept h).slots hs hr, fun s t hs hd h => (step_kept h).decided hs hd,
    fun s t hs _ _ hc h => (step_kept h).counts hs hc⟩

end Requests

end Sys2Proof.Machine


namespace Sys2Proof.Machine

/-! ## What the level ramp engine leaves, field by field -/

section Fields
variable {s t : State}

theorem now_of_butSlots (h : t.butSlots = s.butSlots) : t.now = s.now := show t.butSlots.now = _ from h ▸ rfl
theorem subs_of_butSlots (h : t.butSlots = s.butSlots) : t.subs = s.subs := show t.butSlots.subs = _ from h ▸ rfl
theorem taps_of_butSlots (h : t.butSlots = s.butSlots) : t.taps = s.taps := show t.butSlots.taps = _ from h ▸ rfl
theorem branches_of_butSlots (h : t.butSlots = s.butSlots) : t.branches = s.branches :=
  show t.butSlots.branches = _ from h ▸ rfl
theorem engine_of_butSlots (h : t.butSlots = s.butSlots) : t.engine = s.engine :=
  show t.butSlots.engine = _ from h ▸ rfl

end Fields

/-! ## Source presence (R3, R4, R6) -/

section Presence
variable {s : State}

/-- R3, R4, R6: the source's record and its slots after the expiry of its qualification timer. -/
theorem qualifySource_slot (h : TablesSound s) (n k : Nat) (hk : wfSlot k = true) :
    (qualifySource n s).slot k =
      if (s.slot k).source = some n then
        { s.slot k with owed := (s.slot k).isOwed, sourceLost := (s.slot k).isOwed && !(s.source n).line }
      else s.slot k := by
  unfold qualifySource presenceChanged
  rw [decideTiers_slot, presenceTaken_slot (h.setSource n _), setSource_get_slot]
  simp only [hk, true_and]
  split
  · rename_i hn
    simp only [State.owedSlot, State.sourceIsLost, hn, source_setSource h.sources, if_pos]
  · rfl

/-- R3, R4: the taking of a presence is an act on its source and on the head end's slots. -/
theorem qualifySource_butSlots (n : Nat) (s : State) :
    (qualifySource n s).butSlots
      = (s.setSource n { s.source n with present := (s.source n).line, timer := none }).butSlots :=
  presenceChanged_butSlots n _

theorem qualifySource_source (h : TablesSound s) (n k : Nat) :
    (qualifySource n s).source k =
      if k = n then { s.source n with present := (s.source n).line, timer := none } else s.source k := by
  rw [State.source, sources_of_butSlots (qualifySource_butSlots n s)]
  exact source_setSource h.sources n k _

theorem advanceTo_now (w : Nat) (s : State) : (advanceTo w s).now = max s.now w := by
  simp only [advanceTo, passTime_now]; omega

/-- Settles O34, by what the expiry makes of each slot and each source. -/
theorem sourcePresenceIsQualified : Obligations.SourcePresenceIsQualified := by
  unfold Obligations.SourcePresenceIsQualified
  intro s n h1 h24
  have hwf : wfSource n = true := by simp [wfSource, h1, h24]
  refine ⟨fun high hne => ?_, fun w hw hs => ?_⟩
  · show execSourcePresenceLineChange n high s = _
    simp only [execSourcePresenceLineChange, hwf, if_true, if_neg hne]
    rfl
  · have tables : TablesSound (advanceTo w s) := (passTime_kept _ s).tables hs
    have slot : ∀ k, (advanceTo w s).slot k = s.slot k := fun k => by simp [State.slot, advanceTo]
    have source : ∀ k, (advanceTo w s).source k = s.source k := fun k => by simp [State.source, advanceTo]
    have frame := qualifySource_butSlots n (advanceTo w s)
    refine ⟨qualifySource n (advanceTo w s), ?_, ?_, ?_, fun k hk => ?_, fun k hk1 hk40 => ?_, ?_, ?_, ?_, ?_⟩
    · show execSourceQualificationExpiry n s = _
      simp only [execSourceQualificationExpiry, hwf, if_true, hw]
    · exact (now_of_butSlots frame).trans (advanceTo_now w s)
    · rw [qualifySource_source tables, if_pos rfl, source]
    · rw [qualifySource_source tables, if_neg hk, source]
    · rw [qualifySource_slot tables n k (by simp [wfSlot, hk1, hk40]), slot, source]
    · exact (subs_of_butSlots frame).trans (passTime_subs s _)
    · exact (taps_of_butSlots frame).trans (passTime_taps s _)
    · exact (branches_of_butSlots frame).trans (passTime_branches s _)
    · exact (engine_of_butSlots frame).trans (passTime_engine s _)

end Presence

/-! ## Sponsorship (R13 to R15) -/

section Sponsorship
variable {s : State}

/-- R1: the settings and the sponsors of a record. -/
def Slot.settings (r : Slot) : Slot :=
  { Slot.cold with
    source := r.source, tier := r.tier, sponsors := r.sponsors, target := r.target, floorLevel := r.floorLevel
    period := r.period, reserve := r.reserve, conserve := r.conserve, warm := r.warm }

theorem settings_eq_iff {r r' : Slot} :
    r.settings = r'.settings ↔ r.source = r'.source ∧ r.tier = r'.tier ∧ r.sponsors = r'.sponsors ∧
      r.target = r'.target ∧ r.floorLevel = r'.floorLevel ∧ r.period = r'.period ∧ r.reserve = r'.reserve ∧
      r.conserve = r'.conserve ∧ r.warm = r'.warm := by
  simp [Slot.settings]

theorem settings_of_core {r r' : Slot} (h : r'.core = r.core) : r'.settings = r.settings :=
  show r'.core.settings = _ from h ▸ rfl

theorem refreshSlot_core (h : TablesSound s) (n : Nat) :
    ((refreshSlot n s).slot n).core = ((s.owedSlot (s.slot n)).aimed s.power.mode).core := by
  have hd : TablesSound (decideOwed n s) := h.setSlot _ _
  rw [refreshSlot, decideTiers_slot, recomputeAim_core hd, decideOwed_slot h, if_pos rfl]
  rfl

/-- R12: the settings stand as they have been written. -/
theorem refreshSlot_settings (h : TablesSound s) (n : Nat) :
    ((refreshSlot n s).slot n).settings = (s.slot n).settings :=
  (settings_of_core (refreshSlot_core h n)).trans rfl

/-- R15: owed is decided. -/
theorem refreshSlot_owed (h : TablesSound s) (n : Nat) :
    ((refreshSlot n s).slot n).owed = ((refreshSlot n s).slot n).isOwed :=
  ((slotOwed_congr (refreshSlot_core h n)).2 (slotOwed_owedSlot s (s.slot n))).1

/-- R23: the aim is recomputed. -/
theorem refreshSlot_aimed (h : TablesSound s) (n : Nat) :
    SlotAimed s.power.mode ((refreshSlot n s).slot n) :=
  (slotAimed_congr (refreshSlot_core h n)).2 (slotAimed_aimed _ _)

theorem refreshSlot_slot_ne (h : TablesSound s) {n k : Nat} (hk : k ≠ n) : (refreshSlot n s).slot k = s.slot k := by
  have hd : TablesSound (decideOwed n s) := h.setSlot _ _
  rw [refreshSlot, decideTiers_slot, recomputeAim_slot_ne hd hk, decideOwed_slot h, if_neg hk]

theorem MasterSet.has_put (m : MasterSet) (p q : Master) (v : Bool) :
    (m.put p v).has q = if q = p then v else m.has q := by
  cases p <;> cases q <;> rfl

/-- The answer to a SPONSOR or a WITHDRAW. -/
theorem exec_sponsoring {p : Master} {m : Msg} {n : Nat} {v : Bool} (h : Asks s p (if v then 32 else 33) m)
    (hp : parse8 m.body = some n) :
    exec (if v then .sponsor p else .withdraw p) s
      = .next (putAnswer p m (sponsoring p v n (dropHead p s)).2 (sponsoring p v n (dropHead p s)).1) := by
  cases v
  · exact congrArg Host.Outcome.next (h.served hp (sponsoring p false))
  · exact congrArg Host.Outcome.next (h.served hp (sponsoring p true))

theorem dropHead_tables (p : Master) (h : TablesSound s) : TablesSound (dropHead p s) :=
  (setPort_kept p _ s).tables h

/-- R13, R14: the slot's sponsors are written; what its other settings were, they stay. -/
theorem setSponsor_settings (h : TablesSound s) (p : Master) (v : Bool) (n : Nat) :
    ((setSponsor p v n s).slot n).settings =
      ({ s.slot n with sponsors := (s.slot n).sponsors.put p v } : Slot).settings := by
  rw [setSponsor, refreshSlot_settings (h.setSlot n _), slot_setSlot h.slots, if_pos rfl]

theorem setSponsor_slot_ne (h : TablesSound s) (p : Master) (v : Bool) {n k : Nat} (hk : k ≠ n) :
    (setSponsor p v n s).slot k = s.slot k := by
  rw [setSponsor, refreshSlot_slot_ne (h.setSlot n _) hk, slot_setSlot h.slots, if_neg hk]

/-- Settles O30, by what the refresh of the slot leaves of its settings. -/
theorem sponsorAndWithdraw : Obligations.SponsorAndWithdraw := by
  unfold Obligations.SponsorAndWithdraw
  intro s p m n v c hask hparse
  have answer := exec_sponsoring hask hparse
  refine ⟨fun hout => ?_, fun hin hs => ?_⟩
  · rw [show sponsoring p v n (dropHead p s) = refused .outOfRange (dropHead p s) from
      if_neg (by simpa [within] using hout)] at answer
    exact answer
  · have tables := dropHead_tables p hs
    rw [show sponsoring p v n (dropHead p s) = answered (sponsorContent n) (setSponsor p v n (dropHead p s)) from
      if_pos (by simpa [within] using hin)] at answer
    have settings := setSponsor_settings tables p v n
    rw [dropHead_get_slot] at settings
    obtain ⟨source, tier, sponsors, target, floorLevel, -⟩ := settings_eq_iff.1 settings
    have owed := refreshSlot_owed (tables.setSlot n
      { (dropHead p s).slot n with sponsors := ((dropHead p s).slot n).sponsors.put p v }) n
    have aimed := refreshSlot_aimed (tables.setSlot n
      { (dropHead p s).slot n with sponsors := ((dropHead p s).slot n).sponsors.put p v }) n
    rw [setSlot_power, dropHead_power] at aimed
    refine ⟨_, answer, fun q => ?_, ?_, aimed.2, source, tier, target, floorLevel, fun k hk => ?_, ?_⟩
    · exact (congrArg (MasterSet.has · q) sponsors).trans (MasterSet.has_put _ p q v)
    · rw [← source]; exact owed
    · exact (setSponsor_slot_ne tables p v hk).trans (dropHead_get_slot p s k)
    · exact (refreshSlot_butSlots n _).trans (dropHead_butSlots p s)

end Sponsorship

end Sys2Proof.Machine


namespace Sys2Proof.Machine

/-! ## What the entry tests and a grant leave -/

section Grant
variable {s t : State}

/-- Every field but the ports, the alarm list, the taps and the sync set: what an entry test leaves. -/
def State.butSync (s : State) : State := { s.butAlarms with taps := [], syncSet := [] }

/-- Every field but those and the ones of the blocks that a grant takes part in. -/
def State.butCarrier (s : State) : State :=
  { s.butSync with
    engine := State.reset.engine, arbiter := State.reset.arbiter, broadcast := State.reset.broadcast
    techQ := State.reset.techQ, watches := [], survey := State.reset.survey, out := State.reset.out }

/-- What a grant leaves of the broadcast, the engine, the arbiter and the outputs (R64, R70, R84). -/
def State.beneathGrant (s : State) : State :=
  { State.reset with
    broadcast := { s.broadcast with revisionSent := 0 }
    engine := { s.engine with state := .idle, txn := none, window := none }
    arbiter := { s.arbiter with order := [] }
    out := { s.out with carrier := [] } }

theorem butSync_of_butAlarms (h : t.butAlarms = s.butAlarms) : t.butSync = s.butSync :=
  congrArg (fun u : State => { u with taps := [], syncSet := [] }) h

theorem butCarrier_of_butSync (h : t.butSync = s.butSync) : t.butCarrier = s.butCarrier :=
  congrArg (fun u : State =>
    { u with engine := State.reset.engine, arbiter := State.reset.arbiter, broadcast := State.reset.broadcast,
             techQ := State.reset.techQ, watches := [], survey := State.reset.survey, out := State.reset.out }) h

theorem beneathGrant_of_butTaps (h : t.butTaps = s.butTaps) : t.beneathGrant = s.beneathGrant :=
  show t.butTaps.beneathGrant = _ from h ▸ rfl

theorem setSync_butSync (n : Nat) (v : SyncStatus) (s : State) : (setSync n v s).butSync = s.butSync :=
  (butSync_of_butAlarms (postChange_butAlarms _ _ _ _ _)).trans rfl

theorem entryTest_butSync (n : Nat) (s : State) : (entryTest n s).butSync = s.butSync := by
  have enters : (enterSync n s).butSync = s.butSync := (setSync_butSync _ _ _).trans rfl
  have leaves : (leaveSync n s).butSync = s.butSync := (setSync_butSync _ _ _).trans rfl
  unfold entryTest
  extract_lets r
  split
  · split
    · split <;> [exact enters; rfl]
    · split <;> [rfl; exact leaves]
    · rfl
    · rfl
    · split <;> [exact enters; rfl]
  · rfl

theorem entryTestOf_butSync (n : Option Nat) (s : State) : (entryTestOf n s).butSync = s.butSync := by
  cases n with
  | none => rfl
  | some n => exact entryTest_butSync n s

theorem entryTestAll_butSync (s : State) : (entryTestAll s).butSync = s.butSync :=
  forEach_frame State.butSync _ _ entryTest_butSync s

theorem grantTo_butCarrier (r : Requester) (s : State) : (grantTo r s).butCarrier = s.butCarrier := by
  have marks : ∀ b, (markPolled b s).butCarrier = s.butCarrier := fun b => by
    unfold markPolled
    extract_lets w
    split <;> rfl
  cases r with
  | broadcast => rfl
  | technician => show (grantTechnician s).butCarrier = _; unfold grantTechnician; split <;> rfl
  | sync =>
    show (grantSync s).butCarrier = _
    unfold grantSync
    split
    · extract_lets sent _ g
      exact (show _ = g.butCarrier from rfl).trans (butCarrier_of_butSync (setSync_butSync _ _ _))
    · rfl
  | survey =>
    show (grantSurvey s).butCarrier = _
    unfold grantSurvey
    split
    · exact marks _
    · split <;> rfl

theorem arbitrate_butCarrier (s : State) : (arbitrate s).butCarrier = s.butCarrier := by
  unfold arbitrate
  split
  · split
    · exact grantTo_butCarrier _ _
    · rfl
  · rfl

theorem grantTo_beneathGrant (r : Requester) (s : State) : (grantTo r s).beneathGrant = s.beneathGrant := by
  cases r with
  | broadcast => rfl
  | technician => show (grantTechnician s).beneathGrant = _; unfold grantTechnician; split <;> rfl
  | sync =>
    show (grantSync s).beneathGrant = _
    unfold grantSync
    split
    · extract_lets sent _ g
      exact (show _ = g.beneathGrant from rfl).trans (beneathGrant_of_butTaps (setSync_butTaps _ _ _))
    · rfl
  | survey =>
    show (grantSurvey s).beneathGrant = _
    unfold grantSurvey
    split
    · unfold markPolled; extract_lets w; split <;> rfl
    · split <;> rfl

theorem arbitrate_beneathGrant (s : State) : (arbitrate s).beneathGrant = s.beneathGrant := by
  unfold arbitrate
  split
  · split
    · refine (grantTo_beneathGrant _ _).trans ?_
      simp only [State.beneathGrant, Arbiter.granted]
      split <;> rfl
    · rfl
  · rfl

end Grant

/-! ## Refusals of BRANCH SET and SLOT SET (R10, R123) -/

section Refusals
variable {s t : State} {m : Msg}

theorem ancestors_of_branches (h : t.branches = s.branches) (fuel n : Nat) :
    t.ancestors fuel n = s.ancestors fuel n := by
  induction fuel generalizing n with
  | zero => rfl
  | succ fuel ih => simp only [State.ancestors, State.branch, h, ih]

/-- R123: the checks of a parent read the branch records alone. -/
theorem parentRefusal_of_branches (h : t.branches = s.branches) (n p : Nat) :
    t.parentRefusal n p = s.parentRefusal n p := by
  simp only [State.parentRefusal, State.isBelow, State.depth, State.height, State.subtree, State.ancestorsOf,
    State.branch, ancestors_of_branches h, h]
  rfl

theorem exec_branchSet {a : BranchArgs} (h : Asks s .technician 15 m) (hp : parseBranch m.body = some a) :
    exec (.branchSet .technician) s = .next (putAnswer .technician m (branchSet a (dropHead .technician s)).2
      (branchSet a (dropHead .technician s)).1) :=
  congrArg Host.Outcome.next (h.served hp branchSet)

theorem exec_slotSet {a : SlotArgs} (h : Asks s .schedule 29 m) (hp : parseSlot m.body = some a) :
    exec (.slotSet .schedule) s = .next (putAnswer .schedule m (slotSet a (dropHead .schedule s)).2
      (slotSet a (dropHead .schedule s)).1) :=
  congrArg Host.Outcome.next (h.served hp slotSet)

/-- R123: a parent that its checks refuse is refused. -/
theorem branchSet_refused {a : BranchArgs} {c : AnswerCode} (hb : 1 ≤ a.branch ∧ a.branch ≤ 64)
    (hr : a.remove = false) (hq : a.parent.getD 0 ≤ 64) (hc : s.parentRefusal a.branch (a.parent.getD 0) = some c) :
    branchSet a s = refused c s := by
  simp [branchSet, branchChange, within, hb, hr, hq, hc]

/-- The parent of a BRANCH SET is not defined. -/
theorem parentRefusal_notFound {n q : Nat} (hq : 1 ≤ q) (hd : (s.branch q).defined = false) :
    s.parentRefusal n q = some .notFound := by
  simp [State.parentRefusal, hd]; omega

/-- The parent is the branch itself or below it, or the tree would be too deep. -/
theorem parentRefusal_conflict {n q : Nat} (hq : 1 ≤ q) (hd : (s.branch q).defined = true)
    (h : q = n ∨ n ∈ s.ancestorsOf q ∨ 8 < s.depth q + s.height n) : s.parentRefusal n q = some .conflict := by
  have h0 : q ≠ 0 := by omega
  by_cases hb : s.isBelow n q = true
  · simp [State.parentRefusal, h0, hd, hb]
  · have deep : 8 < s.depth q + s.height n := by
      rcases h with h | h | h
      · exact absurd (by simp [State.isBelow, h]) hb
      · exact absurd (by simp [State.isBelow, h]) hb
      · exact h
    simp [State.parentRefusal, h0, hd, hb, deep]

/-- R9: the slot of an event on the schedule. -/
theorem isEventSlot_of_live {e n : Nat} (hl : (s.event e).isLive) (hs : (s.event e).slot = some n) :
    s.isEventSlot n = true := by
  have listed : s.event e ≠ .cold := fun hc => by simp [hc, Event.isLive, Event.cold] at hl
  refine List.any_eq_true.2 ⟨_, mem_of_tabGet_ne listed, ?_⟩
  simpa [Event.isLive, State.event] using And.intro hs hl

/-- R10: a tier given to an event slot of tier 7 is a move off it unless it is 7. -/
theorem movesEventSlot_of_live {a : SlotArgs} {n : Nat} (hn : a.tier = some n) (h7 : n ≠ 7)
    (htier : (s.slot a.slot).tier = 7) (hevent : ∃ e, (s.event e).isLive ∧ (s.event e).slot = some a.slot) :
    s.movesEventSlot a = true := by
  obtain ⟨e, hl, hs⟩ := hevent
  simp [State.movesEventSlot, hn, isEventSlot_of_live hl hs, htier, h7]

/-- R10: the checks that OUT_OF_RANGE reports. -/
theorem slotSet_inRange {a : SlotArgs} (hslot : 1 ≤ a.slot ∧ a.slot ≤ 40) (hsource : ∀ n, a.source = some n → n ≤ 24)
    (htier : ∀ n, a.tier = some n → n ≤ 7) :
    (!within 1 40 a.slot || !within 0 24 (a.source.getD 0) || !within 0 7 (a.tier.getD 0)) = false := by
  have source : a.source.getD 0 ≤ 24 := by cases h : a.source <;> [exact Nat.zero_le _; exact hsource _ h]
  have tier : a.tier.getD 0 ≤ 7 := by cases h : a.tier <;> [exact Nat.zero_le _; exact htier _ h]
  simp [within, hslot, source, tier]

/-- Settles O28: each refusal is the first check of its block that fails. -/
theorem branchAndSlotSetRefusals : Obligations.BranchAndSlotSetRefusals := by
  unfold Obligations.BranchAndSlotSetRefusals
  intro s m
  refine ⟨fun a hask hparse hout => ?_, fun a q hask hparse hb hr hq => ⟨fun hlarge => ?_, fun h1 h64 hd => ?_,
    fun h1 h64 hd hbelow => ?_⟩, fun a hask hparse => ⟨fun hout => ?_, fun hin n hn h7 htier _ hevent => ?_⟩⟩
  · rw [exec_branchSet hask hparse, show branchSet a _ = refused .outOfRange _ from
      if_pos (by simp only [within, decide_eq_false hout]; rfl)]
    rfl
  · rw [exec_branchSet hask hparse, show branchSet a _ = refused .outOfRange _ from
      if_pos (by simp [within, hq]; omega)]
    rfl
  · rw [exec_branchSet hask hparse, branchSet_refused hb hr (by simpa [hq] using h64) (c := .notFound)
      (by rw [parentRefusal_of_branches (dropHead_branches _ _), hq]; exact parentRefusal_notFound h1 hd)]
    rfl
  · rw [exec_branchSet hask hparse, branchSet_refused hb hr (by simpa [hq] using h64) (c := .conflict)
      (by rw [parentRefusal_of_branches (dropHead_branches _ _), hq]; exact parentRefusal_conflict h1 hd hbelow)]
    rfl
  · have failed : (!within 1 40 a.slot || !within 0 24 (a.source.getD 0) || !within 0 7 (a.tier.getD 0)) = true := by
      rcases hout with h | ⟨n, hn, h⟩ | ⟨n, hn, h⟩
      · simp only [within, decide_eq_false h]; rfl
      · simp [within, hn]; omega
      · simp [within, hn]; omega
    rw [exec_slotSet hask hparse, show slotSet a _ = refused .outOfRange _ from if_pos failed]
    rfl
  · have inRange := slotSet_inRange (a := a) (by_contra fun h => hin (.inl h))
      (fun k hk => by_contra fun h => hin (.inr (.inl ⟨k, hk, by omega⟩)))
      (fun k hk => by_contra fun h => hin (.inr (.inr ⟨k, hk, by omega⟩)))
    have moves : (dropHead .schedule s).movesEventSlot a = true := movesEventSlot_of_live hn h7 htier hevent
    rw [exec_slotSet hask hparse, show slotSet a _ = refused .conflict _ from
      (if_neg (by simp [inRange])).trans (if_pos moves)]
    rfl

end Refusals

end Sys2Proof.Machine


namespace Sys2Proof.Machine

/-! ## SLOT SET (R8, R11, R12) -/

section Settings
variable {s t u : State}

/-! ### What the source selector has been sent -/

theorem out_of_butAlarms (h : t.butAlarms = s.butAlarms) : t.out = s.out :=
  show t.butAlarms.out = _ from h ▸ rfl

theorem rampPosted_out (n : Nat) (b : Bool) (s : State) : (rampPosted n b s).out = s.out := by
  have disturbed : (disturb n s).out = s.out := by
    unfold disturb
    split
    · split <;> rfl
    · rfl
  unfold rampPosted
  extract_lets s1
  split
  · exact (out_of_butAlarms (setJudgement_butAlarms _ _ _ _ _ _)).trans disturbed
  · exact disturbed

/-- R33: an aim's change is no change of a source. -/
theorem recomputeAim_selector (n : Nat) (s : State) : (recomputeAim n s).out.selector = s.out.selector := by
  have turned : ∀ u, (turnOn n u).out.selector = u.out.selector := fun u =>
    (congrArg Outputs.selector (rampPosted_out n true _)).trans rfl
  have aimed : ∀ u, (reAim n u).out.selector = u.out.selector := fun u => by
    unfold reAim
    extract_lets r
    split
    · rfl
    · exact (congrArg Outputs.selector (rampPosted_out n true _)).trans rfl
  rw [recomputeAim_eq]
  split
  · rfl
  · split
    · exact aimed _
    · split
      · rfl
      · exact turned _

theorem decideTiers_out (s : State) : (decideTiers s).out = s.out :=
  forEach_frame State.out tierNumbers decideTier (fun _ _ => rfl) s

theorem refreshSlot_selector (n : Nat) (s : State) : (refreshSlot n s).out.selector = s.out.selector := by
  rw [refreshSlot, decideTiers_out, recomputeAim_selector]
  rfl

/-! ### The posting of a revision -/

/-- Every field but those of the carrier's blocks: what a posted revision leaves. -/
theorem postRevision_butCarrier (s : State) : (postRevision s).butCarrier = s.butCarrier := by
  rw [postRevision, arbitrate_butCarrier, butCarrier_of_butSync (entryTestAll_butSync _), arbitrate_butCarrier]
  rfl

/-- R69: a posted revision reloads the broadcast, whatever the arbiter then grants. -/
theorem postRevision_beneathGrant (s : State) :
    (postRevision s).beneathGrant = (reloadBroadcast s).beneathGrant := by
  rw [postRevision, arbitrate_beneathGrant, beneathGrant_of_butTaps (entryTestAll_butTaps _), arbitrate_beneathGrant]

/-! ### The settings as they are written -/

/-- The state in which a SLOT SET has written its settings, before owed and the aim are decided. -/
def State.settingsWritten (s : State) (a : SlotArgs) : State :=
  let old := s.slot a.slot
  let new := old.withArgs a
  let s := s.setSlot a.slot new
  selectIfChanged a.slot old.source new.source (if old.tier = new.tier then s else raiseRevision s)

theorem setSlotSettings_eq (a : SlotArgs) (s : State) :
    setSlotSettings a s =
      if (s.slot a.slot).tier = ((s.slot a.slot).withArgs a).tier then refreshSlot a.slot (s.settingsWritten a)
      else postRevision (refreshSlot a.slot (s.settingsWritten a)) := rfl

/-- Every field but the slots, the revision and the outputs. -/
def State.butSettings (s : State) : State := { s with slots := [], revision := 1, out := State.reset.out }

theorem settingsWritten_butSettings (a : SlotArgs) (s : State) :
    (s.settingsWritten a).butSettings = s.butSettings := by
  unfold State.settingsWritten selectIfChanged
  extract_lets old new s1
  split <;> split <;> rfl

theorem settingsWritten_records (a : SlotArgs) (s : State) :
    (s.settingsWritten a).records = (s.setSlot a.slot ((s.slot a.slot).withArgs a)).records := by
  unfold State.settingsWritten selectIfChanged
  extract_lets old new s1
  split <;> split <;> rfl

theorem settingsWritten_slot (h : TablesSound s) (a : SlotArgs) (k : Nat) :
    (s.settingsWritten a).slot k = if k = a.slot then (s.slot a.slot).withArgs a else s.slot k :=
  (show (s.settingsWritten a).records.slot k = _ from settingsWritten_records a s ▸ rfl).trans
    (slot_setSlot h.slots a.slot k _)

/-- R8: a changed tier raises the revision. -/
theorem settingsWritten_revision (a : SlotArgs) (s : State) :
    (s.settingsWritten a).revision =
      if (s.slot a.slot).tier = ((s.slot a.slot).withArgs a).tier then s.revision else revisionAfter s.revision := by
  unfold State.settingsWritten selectIfChanged
  extract_lets old new s1
  by_cases ht : old.tier = new.tier
  · rw [if_pos ht, if_pos ht]; split <;> rfl
  · rw [if_neg ht, if_neg ht]; split <;> rfl

/-- R33: a changed source is sent. -/
theorem settingsWritten_selector (a : SlotArgs) (s : State) :
    (s.settingsWritten a).out.selector =
      s.out.selector ++ if ((s.slot a.slot).withArgs a).source = (s.slot a.slot).source then []
        else [⟨a.slot, ((s.slot a.slot).withArgs a).source.getD 0⟩] := by
  unfold State.settingsWritten selectIfChanged
  extract_lets old new s1
  by_cases hs : old.source = new.source
  · rw [if_pos hs, if_pos hs.symm, List.append_nil]; split <;> rfl
  · rw [if_neg hs, if_neg (Ne.symm hs)]; split <;> rfl

/-! ### The whole act -/

/-- What a SLOT SET leaves of the state, whatever its postings make the arbiter grant. -/
def State.beneathSettings (s : State) : State :=
  { s.butEvents with slots := [], revision := 1, monitor := State.reset.monitor }

theorem beneathSettings_of_butSettings (h : t.butSettings = s.butSettings) :
    t.beneathSettings = s.beneathSettings := show t.butSettings.beneathSettings = _ from h ▸ rfl
theorem beneathSettings_of_butSlots (h : t.butSlots = s.butSlots) : t.beneathSettings = s.beneathSettings :=
  show t.butSlots.beneathSettings = _ from h ▸ rfl
theorem beneathSettings_of_butCarrier (h : t.butCarrier = s.butCarrier) : t.beneathSettings = s.beneathSettings :=
  show t.butCarrier.beneathSettings = _ from h ▸ rfl

theorem slot_of_butCarrier (h : t.butCarrier = s.butCarrier) (k : Nat) : t.slot k = s.slot k :=
  show t.butCarrier.slot k = _ from h ▸ rfl
theorem revision_of_butCarrier (h : t.butCarrier = s.butCarrier) : t.revision = s.revision :=
  show t.butCarrier.revision = _ from h ▸ rfl
theorem subs_of_butCarrier (h : t.butCarrier = s.butCarrier) : t.subs = s.subs :=
  show t.butCarrier.subs = _ from h ▸ rfl
theorem events_of_butCarrier (h : t.butCarrier = s.butCarrier) : t.events = s.events :=
  show t.butCarrier.events = _ from h ▸ rfl
theorem revision_of_butSlots (h : t.butSlots = s.butSlots) : t.revision = s.revision :=
  show t.butSlots.revision = _ from h ▸ rfl
theorem selector_of_beneathGrant (h : t.beneathGrant = s.beneathGrant) : t.out.selector = s.out.selector :=
  show t.beneathGrant.out.selector = _ from h ▸ rfl
theorem broadcast_of_beneathGrant (h : t.beneathGrant = s.beneathGrant) :
    t.broadcast.wanted = s.broadcast.wanted ∧ t.broadcast.remaining = s.broadcast.remaining :=
  ⟨show t.beneathGrant.broadcast.wanted = _ from h ▸ rfl, show t.beneathGrant.broadcast.remaining = _ from h ▸ rfl⟩

/-- Every field but those of the slots and the outputs, and but the revision. -/
def State.besideSlots (s : State) : State := s.butSlots.butSettings

theorem besideSlots_of_butSlots (h : t.butSlots = s.butSlots) : t.besideSlots = s.besideSlots :=
  congrArg State.butSettings h
theorem besideSlots_of_butSettings (h : t.butSettings = s.butSettings) : t.besideSlots = s.besideSlots :=
  show t.butSettings.butSlots.butSettings = _ from h ▸ rfl
theorem refreshed_besideSlots (a : SlotArgs) (s : State) :
    (refreshSlot a.slot (s.settingsWritten a)).besideSlots = s.besideSlots :=
  (besideSlots_of_butSlots (refreshSlot_butSlots a.slot _)).trans
    (besideSlots_of_butSettings (settingsWritten_butSettings a s))

/-- What is beside the slots. -/
theorem fields_of_besideSlots (h : t.besideSlots = s.besideSlots) :
    t.broadcast = s.broadcast ∧ t.taps = s.taps ∧ t.link = s.link ∧ t.subs = s.subs ∧ t.events = s.events :=
  ⟨show t.besideSlots.broadcast = _ from h ▸ rfl, show t.besideSlots.taps = _ from h ▸ rfl,
    show t.besideSlots.link = _ from h ▸ rfl, show t.besideSlots.subs = _ from h ▸ rfl,
    show t.besideSlots.events = _ from h ▸ rfl⟩

theorem setSlotSettings_beneathSettings (a : SlotArgs) (s : State) :
    (setSlotSettings a s).beneathSettings = s.beneathSettings := by
  have refreshed := (beneathSettings_of_butSlots (refreshSlot_butSlots a.slot (s.settingsWritten a))).trans
    (beneathSettings_of_butSettings (settingsWritten_butSettings a s))
  rw [setSlotSettings_eq]
  split
  · exact refreshed
  · exact (beneathSettings_of_butCarrier (postRevision_butCarrier _)).trans refreshed

/-- A view that a posted revision leaves is as the refreshed slot leaves it. -/
theorem setSlotSettings_view {β : Type} (g : State → β) (hg : ∀ u, g (postRevision u) = g u) (a : SlotArgs)
    (s : State) : g (setSlotSettings a s) = g (refreshSlot a.slot (s.settingsWritten a)) := by
  rw [setSlotSettings_eq]
  split
  · rfl
  · exact hg _

theorem setSlotSettings_slot (a : SlotArgs) (s : State) (k : Nat) :
    (setSlotSettings a s).slot k = (refreshSlot a.slot (s.settingsWritten a)).slot k :=
  setSlotSettings_view (State.slot · k) (fun u => slot_of_butCarrier (postRevision_butCarrier u) k) a s

theorem setSlotSettings_settings (h : TablesSound s) (a : SlotArgs) :
    ((setSlotSettings a s).slot a.slot).settings = ((s.slot a.slot).withArgs a).settings := by
  have written : TablesSound (s.settingsWritten a) :=
    (HeadKept.of_records (settingsWritten_records a s)).tables (h.setSlot _ _)
  rw [setSlotSettings_slot, refreshSlot_settings written, settingsWritten_slot h, if_pos rfl]

theorem setSlotSettings_owed (h : TablesSound s) (a : SlotArgs) :
    ((setSlotSettings a s).slot a.slot).owed = ((setSlotSettings a s).slot a.slot).isOwed := by
  have written : TablesSound (s.settingsWritten a) :=
    (HeadKept.of_records (settingsWritten_records a s)).tables (h.setSlot _ _)
  rw [setSlotSettings_slot, refreshSlot_owed written]

theorem setSlotSettings_slot_ne (h : TablesSound s) (a : SlotArgs) {k : Nat} (hk : k ≠ a.slot) :
    (setSlotSettings a s).slot k = s.slot k := by
  have written : TablesSound (s.settingsWritten a) :=
    (HeadKept.of_records (settingsWritten_records a s)).tables (h.setSlot _ _)
  rw [setSlotSettings_slot, refreshSlot_slot_ne written hk, settingsWritten_slot h, if_neg hk]

theorem setSlotSettings_revision (a : SlotArgs) (s : State) :
    (setSlotSettings a s).revision =
      if (s.slot a.slot).tier = ((s.slot a.slot).withArgs a).tier then s.revision else revisionAfter s.revision := by
  rw [setSlotSettings_view State.revision (fun u => revision_of_butCarrier (postRevision_butCarrier u)),
    revision_of_butSlots (refreshSlot_butSlots _ _), settingsWritten_revision]

theorem setSlotSettings_selector (a : SlotArgs) (s : State) :
    (setSlotSettings a s).out.selector =
      s.out.selector ++ if ((s.slot a.slot).withArgs a).source = (s.slot a.slot).source then []
        else [⟨a.slot, ((s.slot a.slot).withArgs a).source.getD 0⟩] := by
  rw [setSlotSettings_view (fun u => u.out.selector)
    (fun u => (selector_of_beneathGrant (postRevision_beneathGrant u)).trans rfl), refreshSlot_selector,
    settingsWritten_selector]

/-- R37, R150: no subscriber and no event changes. -/
theorem setSlotSettings_records (a : SlotArgs) (s : State) :
    (setSlotSettings a s).subs = s.subs ∧ (setSlotSettings a s).events = s.events := by
  obtain ⟨-, -, -, subs, events⟩ := fields_of_besideSlots (refreshed_besideSlots a s)
  rw [setSlotSettings_view State.subs (fun u => subs_of_butCarrier (postRevision_butCarrier u)),
    setSlotSettings_view State.events (fun u => events_of_butCarrier (postRevision_butCarrier u))]
  exact ⟨subs, events⟩

/-- R8: a tier that stays leaves the broadcast and the taps. -/
theorem setSlotSettings_sameTier {a : SlotArgs} (ht : (s.slot a.slot).tier = ((s.slot a.slot).withArgs a).tier) :
    (setSlotSettings a s).broadcast = s.broadcast ∧ (setSlotSettings a s).taps = s.taps := by
  obtain ⟨broadcast, taps, -⟩ := fields_of_besideSlots (refreshed_besideSlots a s)
  rw [setSlotSettings_eq, if_pos ht]
  exact ⟨broadcast, taps⟩

/-- R8, R69: a changed tier reloads the broadcast. -/
theorem setSlotSettings_newTier {a : SlotArgs} (ht : (s.slot a.slot).tier ≠ ((s.slot a.slot).withArgs a).tier) :
    (setSlotSettings a s).broadcast.wanted = true ∧ (setSlotSettings a s).broadcast.remaining = s.link.repeats := by
  obtain ⟨-, -, link, -⟩ := fields_of_besideSlots (refreshed_besideSlots a s)
  rw [setSlotSettings_eq, if_neg ht, ← link]
  exact broadcast_of_beneathGrant (postRevision_beneathGrant _)

/-- Settles O29: the settings are written, then the slot is refreshed and a new revision posted. -/
theorem slotSetWritesTheSettings : Obligations.SlotSetWritesTheSettings := by
  unfold Obligations.SlotSetWritesTheSettings
  intro s m a hask hparse hs hslot hsource htier hmoves r
  have tables := dropHead_tables .schedule hs
  have reads : (dropHead .schedule s).slot a.slot = r := dropHead_get_slot _ _ _
  have served : slotSet a (dropHead .schedule s)
      = answered (slotSetContent a.slot) (setSlotSettings a (dropHead .schedule s)) :=
    (if_neg (by simp [slotSet_inRange hslot hsource htier])).trans (if_neg (Bool.eq_false_iff.1 hmoves))
  have answer := exec_slotSet hask hparse
  rw [served] at answer
  have settings := setSlotSettings_settings tables a
  rw [reads] at settings
  obtain ⟨source, tier, sponsors, target, floorLevel, period, reserve, conserve, warm⟩ := settings_eq_iff.1 settings
  have revision := setSlotSettings_revision a (dropHead .schedule s)
  have selector := setSlotSettings_selector a (dropHead .schedule s)
  rw [reads] at revision selector
  obtain ⟨subs, events⟩ := setSlotSettings_records a (dropHead .schedule s)
  refine ⟨_, answer, source, tier, target, ?_, period, reserve, conserve, warm, sponsors,
    setSlotSettings_owed tables a, fun k hk => ?_, fun ht => ?_, fun ht => ?_, ?_, subs, events, ?_⟩
  · rw [target]; exact floorLevel
  · exact (setSlotSettings_slot_ne tables a hk).trans (dropHead_get_slot _ _ _)
  · have same : r.tier = (r.withArgs a).tier := ht.symm.trans tier
    obtain ⟨broadcast, taps⟩ := setSlotSettings_sameTier (a := a) (s := dropHead .schedule s) (reads ▸ same)
    exact ⟨revision.trans (if_pos same), broadcast, taps⟩
  · have changed : r.tier ≠ (r.withArgs a).tier := fun h => ht (tier.trans h.symm)
    obtain ⟨wanted, remaining⟩ := setSlotSettings_newTier (a := a) (s := dropHead .schedule s) (reads ▸ changed)
    refine ⟨(revision.trans (if_neg changed)).trans ?_, wanted, remaining⟩
    show revisionAfter s.revision = _
    unfold revisionAfter
    split <;> split <;> omega
  · rw [source]; exact selector
  · exact (setSlotSettings_beneathSettings a _).trans rfl

end Settings

end Sys2Proof.Machine


namespace Sys2Proof.Machine

/-! ## What an act sends to the masters

`Told K s t` says that the ports of `t` are those of `s` with notices of the kinds `K` behind what they had to send, as far
as there was room (R172). -/

/-- A port that has got notices of the kinds `K`, and nothing else. -/
structure Port.Told (K : Byte → Prop) (q q' : Port) : Prop where
  frame : ({ q' with outQ := q.outQ, missed := q.missed } : Port) = q
  queue : ∃ rest, q'.outQ = q.outQ ++ rest ∧ ∀ x ∈ rest, x.tag = 0 ∧ K x.kind
  room : q'.outQ.length ≤ max 15 q.outQ.length
  missed : q'.missed = true → q.missed = true ∨ 15 ≤ q'.outQ.length

/-- Every port has got notices of the kinds `K`, and nothing else. -/
def Told (K : Byte → Prop) (s t : State) : Prop := ∀ p, Port.Told K (s.port p) (t.port p)

section Relation
variable {K : Byte → Prop} {s t u : State} {q q' q'' : Port}

theorem Port.Told.refl (q : Port) : Port.Told K q q :=
  ⟨rfl, ⟨[], by simp⟩, le_max_right _ _, .inl⟩

theorem Port.Told.trans (h : Port.Told K q q') (h' : Port.Told K q' q'') : Port.Told K q q'' := by
  obtain ⟨frame, ⟨rest, queue, kinds⟩, room, missed⟩ := h
  obtain ⟨frame', ⟨rest', queue', kinds'⟩, room', missed'⟩ := h'
  refine ⟨?_, ⟨rest ++ rest', by rw [queue', queue, List.append_assoc], fun x hx => ?_⟩, by omega, fun hm => ?_⟩
  · exact (congrArg (fun r : Port => ({ r with outQ := q.outQ, missed := q.missed } : Port)) frame').trans frame
  · exact (List.mem_append.1 hx).elim (kinds x) (kinds' x)
  · have longer : q'.outQ.length ≤ q''.outQ.length := by simp [queue']
    rcases missed' hm with h | h
    · exact (missed h).imp_right (le_trans · longer)
    · exact .inr h

theorem Told.refl (s : State) : Told K s s := fun p => .refl (s.port p)

theorem Told.trans (h : Told K s t) (h' : Told K t u) : Told K s u := fun p => (h p).trans (h' p)

/-- An act that leaves the ports. -/
theorem Told.of_ports (h : t.ports = s.ports) : Told K s t := fun p => by
  have same : t.port p = s.port p := by cases p <;> simp only [State.port, h]
  rw [same]
  exact .refl _

theorem Told.ite {c : Prop} [Decidable c] (h : Told K s t) (h' : Told K s u) : Told K s (if c then t else u) := by
  split <;> assumption

theorem forEach_told (l : List Nat) {f : Nat → State → State} (h : ∀ n s, Told K s (f n s)) (s : State) :
    Told K s (forEach l f s) :=
  forEach_keeps (P := Told K s) l f (fun n _ t ht => ht.trans (h n t)) s (.refl s)

theorem putNotice_told {k : Byte} (hk : K k) (p : Master) (b : List Byte) (s : State) :
    Port.Told K (s.port p) ((putNotice p k b s).port p) := by
  rw [putNotice_port]
  split
  · exact ⟨rfl, ⟨[⟨k, 0, b⟩], rfl, by simpa using hk⟩, by simp; omega, .inl⟩
  · exact ⟨rfl, ⟨[], by simp⟩, le_max_right _ _, fun _ => .inr (Nat.le_of_not_lt ‹_›)⟩

theorem noticeTo_told {k : Byte} (hk : K k) (a : MasterSet) (b : List Byte) (s : State) :
    Told K s (noticeTo a k b s) := fun p => by
  rw [noticeTo_port]
  split
  · exact putNotice_told hk p b s
  · exact .refl _

end Relation

/-! ## What the blocks send at a restart (R173) -/

/-- The notices of alarms, of events and of the mode. -/
def StartNotice (k : Byte) : Prop := k = 160 ∨ k = 161 ∨ k = 162 ∨ k = 164 ∨ k = 165

section Notices
variable {s t : State}

theorem alarmNotice_told (n : AlarmNotice) (r : AlarmRecord) (s : State) :
    Told StartNotice s (alarmNotice n r s) :=
  noticeTo_told (by cases n <;> simp [StartNotice, AlarmNotice.byte]) _ _ s

theorem newRecord_told (k : AlarmKind) (o : Nat) (s : State) : Told StartNotice s (newRecord k o s) := by
  have appended : ∀ l, Told StartNotice s (appendRecord k o l s) := fun l =>
    (Told.of_ports (by rfl)).trans (alarmNotice_told .raised _ _)
  exact .ite (appended _) (.ite (appended _) (.of_ports rfl))

theorem raiseAlarm_told (k : AlarmKind) (o : Nat) (s : State) : Told StartNotice s (raiseAlarm k o s) := by
  unfold raiseAlarm
  refine .ite ?_ (.refl s)
  split
  · exact newRecord_told k o s
  · exact .ite ((Told.of_ports (by rfl)).trans (alarmNotice_told .reopened _ _)) (.refl s)

theorem endAlarm_told (k : AlarmKind) (o : Nat) (s : State) : Told StartNotice s (endAlarm k o s) := by
  have retired : ∀ r u, Told StartNotice u (retire r u) := fun r u => .ite (.of_ports rfl) (.refl u)
  unfold endAlarm
  split
  · exact .ite (((Told.of_ports (by rfl)).trans (alarmNotice_told .cleared _ _)).trans (retired _ _)) (.refl s)
  · exact .refl s

theorem postChange_told (k : AlarmKind) (o : Nat) (b a : Bool) (s : State) :
    Told StartNotice s (postChange k o b a s) :=
  .ite (raiseAlarm_told k o s) (.ite (endAlarm_told k o s) (.refl s))

theorem clearUntrue_told (s : State) : Told StartNotice s (clearUntrue s) := by
  unfold clearUntrue
  generalize s.alarms.records = l
  induction l generalizing s with
  | nil => exact .refl s
  | cons r l ih =>
    rw [List.foldl_cons]
    exact Told.trans (.ite (.refl s) (endAlarm_told _ _ s)) (ih _)

/-! ### The head end -/

theorem presenceTaken_told (n : Nat) (s : State) : Told StartNotice s (presenceTaken n s) := by
  have posted : Told StartNotice s
      (if (s.source n).present then endAlarm .sourceLost n s else raiseAlarm .sourceLost n s) :=
    .ite (endAlarm_told _ _ s) (raiseAlarm_told _ _ s)
  have decides : ∀ k u, Told StartNotice u (if (u.slot k).source = some n then decideOwed k u else u) := fun _ u =>
    .ite (.of_ports rfl) (.refl u)
  exact posted.trans (forEach_told _ decides _)

theorem setJudgement_told (n : Nat) (j : Judgement) (l h c : Nat) (s : State) :
    Told StartNotice s (setJudgement n j l h c s) := by
  have posts : ∀ (f : AlarmKind → Nat → State → State), (∀ k o u, Told StartNotice u (f k o u)) →
      ∀ j u, Told StartNotice u (postJudgement f j n u) := fun f hf j u => by
    unfold postJudgement
    split
    · exact hf _ _ u
    · exact .refl u
  have written : ∀ v, Told StartNotice s (s.setSlot n v) := fun v => .of_ports rfl
  exact .ite (written _) ((written _).trans ((posts _ endAlarm_told _ _).trans (posts _ raiseAlarm_told _ _)))

theorem rampPosted_told (n : Nat) (b : Bool) (s : State) : Told StartNotice s (rampPosted n b s) := by
  have disturbed : Told StartNotice s (disturb n s) := by
    unfold disturb
    split
    · exact .ite (.of_ports rfl) (.refl s)
    · exact .refl s
  exact .ite (disturbed.trans (setJudgement_told _ _ _ _ _ _)) disturbed

theorem recomputeAim_told (n : Nat) (s : State) : Told StartNotice s (recomputeAim n s) := by
  have written : ∀ u v, Told StartNotice u (u.setSlot n v) := fun u v => .of_ports rfl
  have turned : ∀ u, Told StartNotice u (turnOn n u) := fun u =>
    (Told.of_ports (by rfl)).trans (rampPosted_told n true _)
  have aimed : ∀ u, Told StartNotice u (reAim n u) := fun u => by
    unfold reAim
    extract_lets r
    split
    · exact .refl u
    · exact (written u _).trans (rampPosted_told n true _)
  rw [recomputeAim_eq]
  exact .ite (written s _) (.ite ((written s _).trans (aimed _)) (.ite (written s _) ((written s _).trans (turned _))))

theorem announceMode_told (old new : PowerMode) (s : State) : Told StartNotice s (announceMode old new s) := by
  have posts : ∀ (f : AlarmKind → Nat → State → State), (∀ k o u, Told StartNotice u (f k o u)) →
      ∀ m u, Told StartNotice u (postPower f m u) := fun f hf m u => by
    unfold postPower
    split
    · exact hf _ _ u
    · exact .refl u
  exact ((posts _ endAlarm_told old s).trans (posts _ raiseAlarm_told new _)).trans
    (noticeTo_told (by simp [StartNotice]) _ _ _)

theorem restartHeadEnd_told (s : State) : Told StartNotice s (restartHeadEnd s) := by
  have source : ∀ n u, Told StartNotice u (takeSource n u) := fun n u =>
    Told.ite (.of_ports rfl) ((Told.of_ports (by rfl)).trans (presenceTaken_told n _))
  have sponsors : ∀ n u, Told StartNotice u (warmSponsors n u) := fun n u => by
    unfold warmSponsors
    extract_lets r
    split <;> exact .of_ports rfl
  have judged : ∀ n u, Told StartNotice u
      (setJudgement n .unjudged 0 0 0 (u.setSlot n { u.slot n with measured := none })) := fun n u =>
    (Told.of_ports (by rfl)).trans (setJudgement_told _ _ _ _ _ _)
  have monitor : ∀ u, Told StartNotice u (restartMonitor u) := fun u =>
    (Told.of_ports (by rfl)).trans (forEach_told _ judged _)
  have mode : ∀ u, Told StartNotice u (warmMode u) := fun u =>
    Told.ite (.of_ports rfl) ((Told.of_ports (by rfl)).trans (announceMode_told _ _ _))
  have drops : ∀ n u, Told StartNotice u (dropCarrier n u) := fun _ _ => .of_ports rfl
  exact (((forEach_told _ source s).trans (forEach_told _ sponsors _)).trans (monitor _)).trans
    (((forEach_told _ drops _).trans (mode _)).trans (forEach_told _ recomputeAim_told _))

/-! ### The plant -/

theorem restartPlant_told (s : State) : Told StartNotice s (restartPlant s) := by
  have turn : ∀ n (u : State), Told StartNotice u
      (if (u.tap n).sync = .failed ∨ u.outOfStepReported n then
        ({ u with syncSet := u.syncSet ++ [n] } : State).setTap n { u.tap n with sync := .queued }
      else u.setTap n { u.tap n with sync := .inStep }) := fun n u => .ite (.of_ports rfl) (.of_ports rfl)
  have rebuilt : ∀ u, Told StartNotice u (rebuildSync u) := fun u =>
    (Told.of_ports (by rfl)).trans (forEach_told _ turn _)
  exact ((Told.of_ports (by rfl)).trans (rebuilt _)).trans (.of_ports rfl)

theorem handOnBranch_told (old : Branch) (n : Nat) (s : State) : Told StartNotice s (handOnBranch old n s) := by
  have affected : ∀ u, Told StartNotice u (correlateAffected n u) := fun u =>
    forEach_told _ (endAlarm_told .tapUnreachable) u
  have unaffected : ∀ u, Told StartNotice u (correlateUnaffected n u) := fun u =>
    forEach_told _ (raiseAlarm_told .tapUnreachable) u
  have shadowed : ∀ u, Told StartNotice u (correlateShadowed n u) := fun u =>
    (endAlarm_told _ _ u).trans (endAlarm_told _ _ _)
  have unshadowed : ∀ u, Told StartNotice u (correlateUnshadowed n u) := fun u => by
    unfold correlateUnshadowed
    extract_lets u1
    have h : Told StartNotice u u1 := .ite (raiseAlarm_told _ _ u) (.refl u)
    exact .ite (h.trans (raiseAlarm_told _ _ _)) h
  unfold handOnBranch
  extract_lets new s1 s2 s3
  have h2 : Told StartNotice s s2 := (Told.of_ports (by rfl)).trans (postChange_told .branchOut n old.out new.out s1)
  have h3 : Told StartNotice s s3 := .ite (h2.trans (affected _)) (.ite (h2.trans (unaffected _)) h2)
  exact .ite (h3.trans (shadowed _)) (.ite (h3.trans (unshadowed _)) h3)

theorem decideTiers_told (s : State) : Told StartNotice s (decideTiers s) :=
  .of_ports (forEach_frame State.ports tierNumbers decideTier (fun _ _ => rfl) s)

theorem restartCorrelator_told (s : State) : Told StartNotice s (restartCorrelator s) := by
  have decided : ∀ u, Told StartNotice u (decideBranches u) := fun u => by
    unfold decideBranches
    extract_lets keys u1 u2
    have h : Told StartNotice u u2 :=
      (Told.of_ports (by rfl)).trans (forEach_told keys (fun _ _ => .of_ports (by rfl)) u1)
    exact h.trans (forEach_told keys (fun n v => handOnBranch_told (u.branch n) n v) u2)
  have recounts : ∀ n u, Told StartNotice u (recountTaps n u) := fun _ _ => .of_ports rfl
  unfold restartCorrelator
  exact ((forEach_told _ recounts s).trans (decided _)).trans (decideTiers_told _)

theorem setSync_told (n : Nat) (v : SyncStatus) (s : State) : Told StartNotice s (setSync n v s) :=
  (Told.of_ports (by rfl)).trans (postChange_told _ _ _ _ _)

theorem entryTest_told (n : Nat) (s : State) : Told StartNotice s (entryTest n s) := by
  have enters : Told StartNotice s (enterSync n s) := (Told.of_ports (by rfl)).trans (setSync_told n .queued _)
  have leaves : Told StartNotice s (leaveSync n s) := (Told.of_ports (by rfl)).trans (setSync_told n .inStep _)
  unfold entryTest
  extract_lets r
  refine .ite ?_ (.refl s)
  split
  · exact .ite enters (.refl s)
  · exact .ite (.refl s) leaves
  · exact .refl s
  · exact .refl s
  · exact .ite enters (.refl s)

/-! ### The events -/

theorem announceEvent_told (e : Nat) (old : EventState) (s : State) :
    Told StartNotice s (announceEvent id e old s) := by
  have tested : ∀ n u, Told StartNotice u (entryTestOf n u) := fun n u => by
    cases n with
    | none => exact .refl u
    | some n => exact entryTest_told n u
  exact ((forEach_told _ (fun n u => tested (u.sub n).tap u) s).trans (decideTiers_told _)).trans
    (noticeTo_told (by simp [StartNotice]) _ _ _)

theorem evaluateEvents_told (m : Nat) (s : State) : Told StartNotice s (evaluateEvents id m s) := by
  have starts : ∀ e u, Told StartNotice u (startEvent id e u) := fun e u =>
    (Told.of_ports (by rfl)).trans (announceEvent_told e .scheduled _)
  have mapped : ∀ e g u, Told StartNotice u (mapPurchases e g u) := fun e g u => by
    unfold mapPurchases
    refine forEach_told _ (fun n v => ?_) u
    exact .of_ports rfl
  have ends : ∀ e u, Told StartNotice u (endEvent id e u) := fun e u =>
    ((Told.of_ports (by rfl)).trans (mapped e _ _)).trans (announceEvent_told e .showing _)
  have showing : Told StartNotice s (endShowing id m s) := by
    unfold endShowing
    split
    · exact .ite (ends _ s) (.refl s)
    · exact .refl s
  have takes : ∀ e u, Told StartNotice u (takeStart id m e u) := fun e u =>
    .ite ((starts e u).trans (ends e _)) (starts e u)
  exact showing.trans (forEach_told _ takes _)

/-! ### The grant -/

theorem arbitrate_told (s : State) : Told StartNotice s (arbitrate s) := by
  have grants : ∀ r u, Told StartNotice u (grantTo r u) := fun r u => by
    cases r with
    | broadcast => exact .of_ports rfl
    | technician =>
      show Told StartNotice u (grantTechnician u)
      unfold grantTechnician
      split
      · exact .of_ports rfl
      · exact .refl u
    | sync =>
      show Told StartNotice u (grantSync u)
      unfold grantSync
      split
      · extract_lets sent _ g
        have h : Told StartNotice u g := (Told.of_ports (by rfl)).trans (setSync_told _ _ _)
        exact h.trans (.of_ports rfl)
      · exact .refl u
    | survey =>
      show Told StartNotice u (grantSurvey u)
      unfold grantSurvey
      split
      · unfold markPolled
        extract_lets w
        split <;> exact .of_ports rfl
      · split
        · exact .of_ports rfl
        · exact .refl u
  unfold arbitrate
  refine .ite ?_ (.refl s)
  split
  · exact (Told.of_ports (by rfl)).trans (grants _ _)
  · exact .refl s

/-- R173: what the blocks send behind the part-started notice of a warm restart. -/
theorem warmRestart_told (b : Straps) (s : State) :
    Told StartNotice (announceStart (countRestart (restartPorts b s))) (warmRestart b s) := by
  unfold warmRestart
  extract_lets s1 s2 s3
  have h2 : Told StartNotice s1 s2 :=
    ((restartHeadEnd_told s1).trans (restartPlant_told _)).trans (restartCorrelator_told _)
  have h3 : Told StartNotice s2 s3 := evaluateEvents_told _ s2
  have minute : ∀ u, Told StartNotice u (restartMinute u) := fun _ => .of_ports rfl
  have h4 : Told StartNotice s3 (restartMinute (clearUntrue s3)) := (clearUntrue_told s3).trans (minute _)
  generalize restartMinute (clearUntrue s3) = s4 at h4
  have resumed : ∀ u, Told StartNotice u (resumeMonitor u) := fun u => .ite (.of_ports rfl) (.refl u)
  exact ((h2.trans h3).trans h4).trans ((resumed s4).trans (arbitrate_told _))

end Notices

end Sys2Proof.Machine


namespace Sys2Proof.Machine

/-! ## The ports at a start (R167, R173, R175, R176) -/

section Ports
variable {K : Byte → Prop} {s t u : State} {b : Straps}

/-- The strap pins of a port. -/
def strapsOf (b : Straps) : Master → StrapPair
  | .office => b.office
  | .technician => b.technician
  | .schedule => b.schedule

/-- R175, R176: a port at a start, whose bytes sent are `sent`. -/
def Port.started (x : StrapPair) (sent : List (List Byte)) : Port :=
  { rx := .hunting, byteTimer := none, inQ := [], inProgress := none, outQ := [], missed := false
    straps := x, rate := strapRate x, sent := sent }

theorem restartPorts_port (b : Straps) (s : State) (p : Master) :
    (restartPorts b s).port p = .started (strapsOf b p) (s.port p).sent := by cases p <;> rfl

/-- What the ports held does not enter a start, but for what they have sent. -/
theorem restartPorts_sent (b : Straps) {q : Ports}
    (h : ∀ p, (({ s with ports := q } : State).port p).sent = (s.port p).sent) :
    restartPorts b { s with ports := q } = restartPorts b s := by
  have started : ∀ v : State, restartPorts b v = { v with ports := ⟨.started b.office (v.port .office).sent,
    .started b.technician (v.port .technician).sent, .started b.schedule (v.port .schedule).sent⟩ } := fun _ => rfl
  rw [started, started, h, h, h]

theorem warmRestart_sent (b : Straps) {q : Ports}
    (h : ∀ p, (({ s with ports := q } : State).port p).sent = (s.port p).sent) :
    warmRestart b { s with ports := q } = warmRestart b s := by
  rw [warmRestart, restartPorts_sent b h, warmRestart]

theorem coldStart_sent (b : Straps) {q : Ports}
    (h : ∀ p, (({ s with ports := q } : State).port p).sent = (s.port p).sent) :
    coldStart b { s with ports := q } = coldStart b s :=
  congrArg (fun v => raiseStanding (announceStart v)) (restartPorts_sent (s := coldTables s) b h)

/-- R167: the bit rate by the two straps, the first before the second. -/
theorem strapRate_eq (x : StrapPair) :
    strapRate x = if x.first then (if x.second then 57600 else 19200) else if x.second then 38400 else 9600 := by
  obtain ⟨first, second⟩ := x
  cases first <;> cases second <;> rfl

/-- A port after a start: its straps read, its queues emptied, and the part-started notice with body `body` in front of
notices of the kinds `K`. -/
def Port.Restarted (K : Byte → Prop) (x : StrapPair) (sent : List (List Byte)) (body : List Byte) (q : Port) : Prop :=
  (q.straps = x ∧ q.rate = if x.first then (if x.second then 57600 else 19200)
    else if x.second then 38400 else 9600) ∧
  q.rx = .hunting ∧ q.byteTimer = none ∧ q.inQ = [] ∧ q.inProgress = none ∧ q.sent = sent ∧
  ∃ rest, q.outQ = ⟨166, 0, body⟩ :: rest ∧ (∀ x ∈ rest, x.tag = 0 ∧ K x.kind) ∧
    rest.length ≤ 14 ∧ (q.missed = true → rest.length = 14)

theorem Port.Told.restarted {x : StrapPair} {sent : List (List Byte)} {body : List Byte} {q : Port}
    (h : Port.Told K { Port.started x sent with outQ := [⟨166, 0, body⟩] } q) :
    Port.Restarted K x sent body q := by
  obtain ⟨frame, ⟨rest, queue, kinds⟩, room, missed⟩ := h
  have length : q.outQ.length = rest.length + 1 := by simp [queue]
  have short : q.outQ.length ≤ 15 := by simpa using room
  refine ⟨⟨congrArg Port.straps frame, (congrArg Port.rate frame).trans (strapRate_eq x)⟩, congrArg Port.rx frame,
    congrArg Port.byteTimer frame, congrArg Port.inQ frame, congrArg Port.inProgress frame, congrArg Port.sent frame,
    rest, queue, kinds, by omega, fun hm => ?_⟩
  rcases missed hm with h | h
  · exact absurd h (by simp [Port.started])
  · omega

/-- R173: the part-started notice is the first message of every port. -/
theorem announceStart_port (hu : u.ports = (restartPorts b s).ports) (p : Master) :
    (announceStart u).port p = { Port.started (strapsOf b p) (s.port p).sent with
      outQ := [⟨166, 0, u.ident.stateByte ++ u16 u.ident.restarts⟩] } := by
  have port : u.port p = .started (strapsOf b p) (s.port p).sent :=
    (show u.port p = (restartPorts b s).port p by cases p <;> simp only [State.port, hu]).trans
      (restartPorts_port b s p)
  have everyone : allMasters.has p = true := by cases p <;> rfl
  rw [announceStart, noticeTo_port, if_pos everyone, putNotice_port, port]
  rfl

theorem restarted_of_told (hu : u.ports = (restartPorts b s).ports) (h : Told K (announceStart u) t) (p : Master) :
    Port.Restarted K (strapsOf b p) (s.port p).sent (u.ident.stateByte ++ u16 u.ident.restarts) (t.port p) :=
  Port.Told.restarted (announceStart_port hu p ▸ h p)

/-- R173, R175: the ports after a warm restart. -/
theorem warmRestart_ports (b : Straps) (s : State) (p : Master) :
    Port.Restarted StartNotice (strapsOf b p) (s.port p).sent
      ((if s.ident.coldStarted then 0 else 1) :: u16 (restartAfter s.ident.restarts)) ((warmRestart b s).port p) := by
  have told := restarted_of_told (u := countRestart (restartPorts b s)) rfl (warmRestart_told b s) p
  have byte : (s.ident.stateByte : List Byte) = [if s.ident.coldStarted then 0 else 1] := by
    unfold Ident.stateByte
    split <;> rfl
  have body : (countRestart (restartPorts b s)).ident.stateByte ++ u16 (countRestart (restartPorts b s)).ident.restarts
      = (if s.ident.coldStarted then 0 else 1) :: u16 (restartAfter s.ident.restarts) :=
    congrArg (· ++ u16 (restartAfter s.ident.restarts)) byte
  exact body ▸ told

/-! ### The commands of a start -/

theorem exec_restart {m : Msg} (h : Asks s .technician 28 m) (hm : m.body = []) :
    exec (.restart .technician b) s = .next (warmRestart b s) := by
  have taken : exec (.restart .technician b) s = .next (serveRestart .technician m b (dropHead .technician s)) := by
    show execRestart .technician b s = _
    unfold execRestart
    rw [h.takable (by simp)]
  have parsed : parseEmpty m.body = some () := by rw [hm]; rfl
  have served : serveRestart .technician m b (dropHead .technician s) = warmRestart b (dropHead .technician s) := by
    simp only [serveRestart, isTechnician, parsed]
    exact if_pos rfl
  rw [taken, served]
  exact congrArg Host.Outcome.next (warmRestart_sent b fun p => by cases p <;> rfl)

end Ports

/-! ## What a cold start leaves (R138, R176) -/

section Cold
variable {s t : State}

theorem alarms_of_butPorts (h : t.butPorts = s.butPorts) : t.alarms = s.alarms :=
  show t.butPorts.alarms = _ from h ▸ rfl

/-- An alarm list of at most `n` records, all ACTIVE. -/
def FreshAlarms (n : Nat) (s : State) : Prop :=
  (∀ r ∈ s.alarms.records, r.state = .active) ∧ s.alarms.records.length ≤ n

/-- R132: the new record and the state in which its notice is sent. -/
theorem appendRecord_eq (k : AlarmKind) (o : Nat) (l : List AlarmRecord) (s : State) :
    ∃ r s1, appendRecord k o l s = alarmNotice .raised r s1 ∧ (r.kind = k ∧ r.object = o ∧ r.state = .active) ∧
      s1.ports = s.ports ∧ s1.alarms.records = l ++ [r] :=
  ⟨_, _, rfl, ⟨rfl, rfl, rfl⟩, rfl, rfl⟩

/-- R132, R173: a condition posted as raised where every record is ACTIVE: a new record and its notice, or nothing. -/
theorem raiseAlarm_fresh {n : Nat} (k : AlarmKind) (o : Nat) (h : FreshAlarms n s) (hn : n < 128) :
    FreshAlarms (n + 1) (raiseAlarm k o s) ∧ Told (· = 160) s (raiseAlarm k o s) ∧
      (s.gateOpen k o = true → ((raiseAlarm k o s).alarm k o).isSome = true) := by
  obtain ⟨active, short⟩ := h
  have stays : FreshAlarms (n + 1) s := ⟨active, by omega⟩
  unfold raiseAlarm
  split
  · cases found : s.alarm k o with
    | some r =>
      have standing : r.state = .active := active r (List.mem_of_find?_eq_some found)
      simp only [standing, reduceCtorEq, if_false]
      exact ⟨stays, .refl s, fun _ => by simp [found]⟩
    | none =>
      obtain ⟨r, s1, made, ⟨kind, object, state⟩, ports, records⟩ := appendRecord_eq k o s.alarms.records s
      have new : newRecord k o s = alarmNotice .raised r s1 := (if_pos (by omega)).trans made
      have alarms : (alarmNotice .raised r s1).alarms = s1.alarms :=
        alarms_of_butPorts (alarmNotice_butPorts .raised r s1)
      simp only [new]
      refine ⟨⟨fun x hx => ?_, ?_⟩,
        (Told.of_ports ports).trans (noticeTo_told (K := (· = 160)) (k := 160) rfl _ _ _), fun _ => ?_⟩
      · rw [alarms, records] at hx
        rcases List.mem_append.1 hx with hx | hx
        · exact active x hx
        · rw [List.mem_singleton.1 hx, state]
      · rw [alarms, records, List.length_append, List.length_singleton]
        omega
      · rw [State.alarm, alarms, records, List.find?_isSome]
        exact ⟨r, by simp, by simp [kind, object]⟩
  · exact ⟨stays, .refl s, fun h => absurd h ‹_›⟩

/-- R5, R138: the lost sources are raised one by one. -/
theorem raiseLosts_fresh (l : List Nat) {n : Nat} (h : FreshAlarms n s) (hn : n + l.length ≤ 128) :
    FreshAlarms (n + l.length) (forEach l raiseLost s) ∧ Told (· = 160) s (forEach l raiseLost s) := by
  induction l generalizing s n with
  | nil => exact ⟨h, .refl s⟩
  | cons k l ih =>
    rw [List.length_cons] at hn
    have turn : FreshAlarms (n + 1) (raiseLost k s) ∧ Told (· = 160) s (raiseLost k s) := by
      unfold raiseLost
      split
      · exact ⟨⟨h.1, Nat.le_succ_of_le h.2⟩, .refl s⟩
      · obtain ⟨fresh, told, -⟩ := raiseAlarm_fresh .sourceLost k h (by omega)
        exact ⟨fresh, told⟩
    obtain ⟨fresh, told⟩ := ih turn.1 (by omega)
    rw [forEach_cons, List.length_cons, Nat.add_comm l.length, ← Nat.add_assoc]
    exact ⟨fresh, turn.2.trans told⟩

/-- R138: the standing conditions are raised on an empty list, and MONITOR_OFF is one of them. -/
theorem raiseStanding_fresh (h : s.alarms.records = []) :
    Told (· = 160) s (raiseStanding s) ∧ ((raiseStanding s).alarm .monitorOff 0).isSome = true := by
  have empty : FreshAlarms 0 s := by simp [FreshAlarms, h]
  obtain ⟨lost, toldLost⟩ := raiseLosts_fresh sourceNumbers empty (by decide)
  have power : FreshAlarms 25 (postPower raiseAlarm s.power.mode (forEach sourceNumbers raiseLost s)) ∧
      Told (· = 160) s (postPower raiseAlarm s.power.mode (forEach sourceNumbers raiseLost s)) := by
    unfold postPower
    split
    · obtain ⟨fresh, told, -⟩ := raiseAlarm_fresh _ 0 lost (by decide)
      exact ⟨fresh, toldLost.trans told⟩
    · exact ⟨⟨lost.1, Nat.le_succ_of_le lost.2⟩, toldLost⟩
  obtain ⟨-, told, raised⟩ := raiseAlarm_fresh .monitorOff 0 power.1 (by decide)
  exact ⟨power.2.trans told, raised rfl⟩

/-- R138: the alarm list is empty when the standing conditions are raised. -/
theorem startedCold_alarms (b : Straps) (s : State) :
    (announceStart (restartPorts b (coldTables s))).alarms.records = [] := by
  have alarms : (announceStart (restartPorts b (coldTables s))).alarms = (coldTables s).alarms :=
    alarms_of_butPorts (noticeTo_butPorts _ _ _ _)
  rw [alarms]
  rfl

/-- R173, R176: the ports after a cold start. -/
theorem coldStart_ports (b : Straps) (s : State) (p : Master) :
    Port.Restarted (· = 160) (strapsOf b p) (s.port p).sent [0, 0, 0] ((coldStart b s).port p) := by
  obtain ⟨told, -⟩ := raiseStanding_fresh (startedCold_alarms b s)
  have sent : ((coldTables s).port p).sent = (s.port p).sent := by cases p <;> rfl
  have body : (restartPorts b (coldTables s)).ident.stateByte ++ u16 (restartPorts b (coldTables s)).ident.restarts
      = [0, 0, 0] :=
    show State.reset.ident.stateByte ++ u16 State.reset.ident.restarts = _ by decide
  exact sent ▸ body ▸ restarted_of_told (s := coldTables s) (u := restartPorts b (coldTables s)) rfl told p

theorem coldStart_monitorOff (b : Straps) (s : State) : ((coldStart b s).alarm .monitorOff 0).isSome = true := by
  obtain ⟨-, raised⟩ := raiseStanding_fresh (startedCold_alarms b s)
  exact raised

/-- R176: beside the ports and the alarm list, a cold start leaves its tables. -/
theorem coldStart_butAlarms (b : Straps) (s : State) : (coldStart b s).butAlarms = (coldTables s).butAlarms := by
  rw [coldStart, raiseStanding_butAlarms, announceStart, butAlarms_of_butPorts (noticeTo_butPorts _ _ _ _)]
  rfl

/-- R176: what the tables of a cold start are. -/
theorem tables_of_cold (h : t.butAlarms = (coldTables s).butAlarms) :
    t.sources = tabMap .cold Source.started s.sources ∧ t.slots = [] ∧ t.subs = [] ∧ t.taps = [] ∧
    t.syncSet = [] ∧ t.watches = [] ∧ t.branches = [] ∧ t.tierCount = [] ∧ t.branchEpisodes = [] ∧
    t.tierEpisodes = [] ∧ t.events = [] ∧ t.snapshot = none :=
  ⟨congrArg State.sources h, congrArg State.slots h, congrArg State.subs h, congrArg State.taps h,
    congrArg State.syncSet h, congrArg State.watches h, congrArg State.branches h, congrArg State.tierCount h,
    congrArg State.branchEpisodes h, congrArg State.tierEpisodes h, congrArg State.events h,
    congrArg State.snapshot h⟩

/-- R176: what the settings and the records beside the tables are at a cold start. -/
theorem settings_of_cold (h : t.butAlarms = (coldTables s).butAlarms) :
    t.revision = 1 ∧ t.engine = State.reset.engine ∧ t.link = ⟨6, 2, 3, 5⟩ ∧
    t.broadcast.wanted = true ∧ t.broadcast.remaining = 3 ∧
    t.arbiter = ⟨.fixed, [.broadcast, .technician, .sync, .survey]⟩ ∧ t.techQ = ⟨[], none, 1⟩ ∧
    t.survey.clock = 0 ∧ t.monitor = ⟨false, .fine, 30, 10, 3, false, 1, none⟩ ∧
    t.ident = ⟨true, 0⟩ ∧ t.billing.clock = 0 ∧ t.billing.cycle = 1 ∧ t.billing.m = 0 ∧
    t.billing.tc = 30 ∧ t.billing.rates = [] ∧ t.billing.sweep = none :=
  ⟨congrArg State.revision h, (congrArg State.engine h).trans rfl, congrArg State.link h,
    congrArg (fun u : State => u.broadcast.wanted) h, congrArg (fun u : State => u.broadcast.remaining) h,
    congrArg State.arbiter h, congrArg State.techQ h, congrArg (fun u : State => u.survey.clock) h,
    congrArg State.monitor h, congrArg State.ident h, congrArg (fun u : State => u.billing.clock) h,
    congrArg (fun u : State => u.billing.cycle) h, congrArg (fun u : State => u.billing.m) h,
    congrArg (fun u : State => u.billing.tc) h, congrArg (fun u : State => u.billing.rates) h,
    congrArg (fun u : State => u.billing.sweep) h⟩

end Cold

end Sys2Proof.Machine


namespace Sys2Proof.Machine

/-! ## What a warm restart leaves of the blocks (R79, R92, R108, R121, R149, R175) -/

section Blocks
variable {s t : State}

/-- The carrier's blocks, the survey unit and the accrual engine, with the settings and the identity. -/
def State.blocks (s : State) : State :=
  { State.reset with
    now := s.now, revision := s.revision, link := s.link, snapshot := s.snapshot, ident := s.ident
    engine := s.engine, arbiter := s.arbiter, broadcast := s.broadcast, techQ := s.techQ
    watches := s.watches, survey := s.survey, billing := s.billing }

theorem blocks_of_butAlarms (h : t.butAlarms = s.butAlarms) : t.blocks = s.blocks :=
  show t.butAlarms.blocks = _ from h ▸ rfl
theorem blocks_of_butSync (h : t.butSync = s.butSync) : t.blocks = s.blocks :=
  show t.butSync.blocks = _ from h ▸ rfl

/-- What the restart of the head end leaves: those blocks and the records of the plant and of the events. -/
def State.plant (s : State) : State :=
  { s.blocks with subs := s.subs, taps := s.taps, branches := s.branches, events := s.events }

theorem plant_of_butSlots (h : t.butSlots = s.butSlots) : t.plant = s.plant :=
  show t.butSlots.plant = _ from h ▸ rfl
theorem plant_of_butAlarms (h : t.butAlarms = s.butAlarms) : t.plant = s.plant :=
  show t.butAlarms.plant = _ from h ▸ rfl
theorem blocks_of_plant (h : t.plant = s.plant) : t.blocks = s.blocks :=
  show t.plant.blocks = _ from h ▸ rfl

/-! ### The head end -/

theorem restartMonitor_plant (s : State) : (restartMonitor s).plant = s.plant :=
  (plant_of_butSlots (clearJudgements_butSlots _)).trans rfl

theorem warmSponsors_plant (n : Nat) (s : State) : (warmSponsors n s).plant = s.plant := by
  unfold warmSponsors
  extract_lets r
  split <;> rfl

theorem takeSource_plant (n : Nat) (s : State) : (takeSource n s).plant = s.plant := by
  unfold takeSource
  extract_lets r s1
  split
  · rfl
  · exact (plant_of_butSlots (presenceTaken_butSlots n s1)).trans rfl

theorem warmMode_plant (s : State) : (warmMode s).plant = s.plant := by
  unfold warmMode
  extract_lets s1 old new
  split
  · rfl
  · exact (plant_of_butAlarms (announceMode_butAlarms _ _ _)).trans rfl

theorem restartRamp_plant (s : State) : (restartRamp s).plant = s.plant := by
  rw [restartRamp, forEach_frame State.plant slotNumbers recomputeAim
    (fun n u => plant_of_butSlots (recomputeAim_butSlots n u)), warmMode_plant,
    forEach_frame State.plant slotNumbers dropCarrier (fun _ _ => rfl)]

theorem restartHeadEnd_plant (s : State) : (restartHeadEnd s).plant = s.plant := by
  rw [restartHeadEnd, restartRamp_plant, restartMonitor_plant,
    forEach_frame State.plant slotNumbers warmSponsors warmSponsors_plant,
    forEach_frame State.plant sourceNumbers takeSource takeSource_plant]

/-! ### The plant -/

theorem rebuildSync_butSync (s : State) : (rebuildSync s).butSync = s.butSync := by
  unfold rebuildSync
  refine (forEach_frame State.butSync _ _ (fun n u => ?_) _).trans rfl
  extract_lets r
  split <;> rfl

/-- Every field but the ports, the alarm list and those of the outage correlator. -/
def State.butCorrelator (s : State) : State := { s.butBranches with tierCount := [], tierEpisodes := [] }

theorem blocks_of_butCorrelator (h : t.butCorrelator = s.butCorrelator) : t.blocks = s.blocks :=
  show t.butCorrelator.blocks = _ from h ▸ rfl

theorem restartCorrelator_butCorrelator (s : State) : (restartCorrelator s).butCorrelator = s.butCorrelator := by
  have decided : ∀ u, (decideBranches u).butCorrelator = u.butCorrelator := fun u =>
    congrArg (fun v : State => { v with tierCount := [], tierEpisodes := [] }) (decideBranches_butBranches u)
  rw [restartCorrelator, decideTiers,
    forEach_frame State.butCorrelator tierNumbers decideTier (fun _ _ => rfl), decided,
    forEach_frame State.butCorrelator branchNumbers recountTaps (fun _ _ => rfl)]

/-- Every field but those that an evaluation of the events changes where the arbiter does not decide. -/
def State.butShow (s : State) : State :=
  { s.butSync with subs := [], events := [], tierCount := [], tierEpisodes := [] }

theorem blocks_of_butShow (h : t.butShow = s.butShow) : t.blocks = s.blocks :=
  show t.butShow.blocks = _ from h ▸ rfl
theorem butShow_of_butSync (h : t.butSync = s.butSync) : t.butShow = s.butShow :=
  congrArg (fun v : State => { v with subs := [], events := [], tierCount := [], tierEpisodes := [] }) h

theorem announceEvent_butShow (e : Nat) (o : EventState) (s : State) :
    (announceEvent id e o s).butShow = s.butShow := by
  have told : ∀ u, (eventNotice e o u).butShow = u.butShow := fun u =>
    butShow_of_butSync (butSync_of_butAlarms (butAlarms_of_butPorts (noticeTo_butPorts _ _ _ u)))
  rw [announceEvent, told, decideTiers, forEach_frame State.butShow tierNumbers decideTier (fun _ _ => rfl)]
  exact forEach_frame State.butShow _ _ (fun n u => butShow_of_butSync (entryTestOf_butSync (u.sub n).tap u)) s

theorem startEvent_butShow (e : Nat) (s : State) : (startEvent id e s).butShow = s.butShow :=
  (announceEvent_butShow e _ _).trans rfl

theorem endEvent_butShow (e : Nat) (s : State) : (endEvent id e s).butShow = s.butShow := by
  have mapped : ∀ g u, (mapPurchases e g u).butShow = u.butShow := fun g u => by
    unfold mapPurchases
    refine forEach_frame State.butShow _ _ (fun n v => ?_) u
    rfl
  unfold endEvent
  rw [announceEvent_butShow, mapped]
  rfl

theorem evaluateEvents_butShow (m : Nat) (s : State) : (evaluateEvents id m s).butShow = s.butShow := by
  have showing : (endShowing id m s).butShow = s.butShow := by
    unfold endShowing
    split
    · extract_lets r
      split
      · exact endEvent_butShow _ s
      · rfl
    · rfl
  have takes : ∀ e u, (takeStart id m e u).butShow = u.butShow := fun e u => by
    unfold takeStart
    extract_lets ends u1
    split
    · exact (endEvent_butShow e u1).trans (startEvent_butShow e u)
    · exact startEvent_butShow e u
  rw [evaluateEvents, forEach_frame State.butShow _ _ takes, showing]

/-! ### The whole restart -/

/-- R175: the state of a warm restart before its events are evaluated: the head end, the plant and the outage correlator
have restarted. -/
def restartedRecords (b : Straps) (s : State) : State :=
  restartCorrelator (restartPlant (restartHeadEnd (announceStart (countRestart (restartPorts b s)))))

/-- R175: the state of a warm restart when its last records have been written. -/
def restartedLists (b : Straps) (s : State) : State :=
  clearUntrue (evaluateEvents id (restartedRecords b s).billing.clock (restartedRecords b s))

theorem restartPlant_blocks (h : t.blocks = s.blocks) :
    (restartPlant t).blocks = (restartAccrual (restartSurvey (restartCarrier s))).blocks := by
  have synced := blocks_of_butSync (rebuildSync_butSync (restartCarrier t))
  have carrier : (restartCarrier t).blocks = (restartCarrier s).blocks :=
    show (restartCarrier t.blocks).blocks = _ from h ▸ rfl
  have after : ∀ u v : State, u.blocks = v.blocks →
      (restartAccrual (restartSurvey u)).blocks = (restartAccrual (restartSurvey v)).blocks := fun u v huv =>
    show (restartAccrual (restartSurvey u.blocks)).blocks = _ from huv ▸ rfl
  exact after _ _ (synced.trans carrier)

theorem restartStarted_plant (b : Straps) (s : State) :
    (announceStart (countRestart (restartPorts b s))).plant = (countRestart s).plant :=
  (plant_of_butAlarms (butAlarms_of_butPorts (noticeTo_butPorts _ _ _ _))).trans rfl

theorem restartedLists_blocks (b : Straps) (s : State) :
    (restartedLists b s).blocks = (restartAccrual (restartSurvey (restartCarrier (countRestart s)))).blocks := by
  rw [restartedLists, blocks_of_butAlarms (clearUntrue_butAlarms _), blocks_of_butShow (evaluateEvents_butShow _ _),
    restartedRecords, blocks_of_butCorrelator (restartCorrelator_butCorrelator _)]
  exact restartPlant_blocks (blocks_of_plant ((restartHeadEnd_plant _).trans (restartStarted_plant b s)))

/-! ### The level monitor -/

theorem monitor_of_butAlarms (h : t.butAlarms = s.butAlarms) : t.monitor = s.monitor :=
  show t.butAlarms.monitor = _ from h ▸ rfl
theorem monitor_of_butSync (h : t.butSync = s.butSync) : t.monitor = s.monitor :=
  show t.butSync.monitor = _ from h ▸ rfl
theorem monitor_of_butCorrelator (h : t.butCorrelator = s.butCorrelator) : t.monitor = s.monitor :=
  show t.butCorrelator.monitor = _ from h ▸ rfl
theorem monitor_of_butShow (h : t.butShow = s.butShow) : t.monitor = s.monitor :=
  show t.butShow.monitor = _ from h ▸ rfl

theorem setJudgement_monitor (n : Nat) (j : Judgement) (l h c : Nat) (s : State) :
    (setJudgement n j l h c s).monitor = s.monitor :=
  (monitor_of_butAlarms (setJudgement_butAlarms n j l h c s)).trans rfl

/-- R115: with no conversion in progress there is none to disturb. -/
theorem rampPosted_monitor (h : s.monitor.conversion = none) (n : Nat) (b : Bool) :
    (rampPosted n b s).monitor = s.monitor := by
  have still : disturb n s = s := by simp [disturb, h]
  unfold rampPosted
  extract_lets s1
  rw [show s1 = s from still]
  split
  · exact setJudgement_monitor _ _ _ _ _ s
  · rfl

theorem turnOn_monitor (h : s.monitor.conversion = none) (n : Nat) : (turnOn n s).monitor = s.monitor := by
  unfold turnOn
  extract_lets r s1
  exact (rampPosted_monitor (s := sendModulator n (some 100) s1) h n true).trans rfl

theorem reAim_monitor (h : s.monitor.conversion = none) (n : Nat) : (reAim n s).monitor = s.monitor := by
  unfold reAim
  extract_lets r
  split
  · rfl
  · exact (rampPosted_monitor (s := s.setSlot n _) h n true).trans rfl

theorem recomputeAim_monitor (h : s.monitor.conversion = none) (n : Nat) :
    (recomputeAim n s).monitor = s.monitor := by
  rw [recomputeAim_eq]
  split
  · rfl
  · split
    · exact reAim_monitor (s := s.setSlot n _) h n
    · split
      · rfl
      · exact turnOn_monitor (s := s.setSlot n _) h n

theorem presenceTaken_monitor (n : Nat) (s : State) : (presenceTaken n s).monitor = s.monitor := by
  unfold presenceTaken
  extract_lets s1
  have posted : s1.monitor = s.monitor := by
    show (if (s.source n).present then endAlarm .sourceLost n s else raiseAlarm .sourceLost n s).monitor = _
    split
    · exact monitor_of_butAlarms (endAlarm_butAlarms _ _ s)
    · exact monitor_of_butAlarms (raiseAlarm_butAlarms _ _ s)
  refine (forEach_frame State.monitor _ _ (fun k u => ?_) s1).trans posted
  split <;> rfl

/-- R121: the monitor's settings stand, it settles where it is ON, and no conversion is in progress. -/
def Monitor.warm (m : Monitor) : Monitor := { m with conversion := none, settling := m.enable, cursor := 1 }

theorem clearJudgements_monitor (s : State) : (clearJudgements s).monitor = s.monitor :=
  forEach_frame State.monitor slotNumbers
    (fun n v => setJudgement n .unjudged 0 0 0 (v.setSlot n { v.slot n with measured := none }))
    (fun _ _ => setJudgement_monitor _ _ _ _ _ _) s

theorem restartMonitor_monitor (s : State) : (restartMonitor s).monitor = s.monitor.warm :=
  clearJudgements_monitor _

theorem restartHeadEnd_monitor (s : State) : (restartHeadEnd s).monitor = s.monitor.warm := by
  have sources : (forEach sourceNumbers takeSource s).monitor = s.monitor :=
    forEach_frame State.monitor _ _ (fun n u => by
      unfold takeSource
      extract_lets r u1
      split
      · rfl
      · exact presenceTaken_monitor n u1) s
  have sponsors : ∀ u, (forEach slotNumbers warmSponsors u).monitor = u.monitor := fun u =>
    forEach_frame State.monitor _ _ (fun n v => by
      unfold warmSponsors
      extract_lets r
      split <;> rfl) u
  have restarted : ∀ u, (restartMonitor u).monitor = u.monitor.warm := restartMonitor_monitor
  have dropped : ∀ u, (forEach slotNumbers dropCarrier u).monitor = u.monitor := fun u =>
    forEach_frame State.monitor slotNumbers dropCarrier (fun _ _ => rfl) u
  have mode : ∀ u, (warmMode u).monitor = u.monitor := fun u => by
    unfold warmMode
    extract_lets u1 old new
    split
    · rfl
    · exact (monitor_of_butAlarms (announceMode_butAlarms _ _ _)).trans rfl
  have before : (warmMode (forEach slotNumbers dropCarrier (restartMonitor
      (forEach slotNumbers warmSponsors (forEach sourceNumbers takeSource s))))).monitor = s.monitor.warm :=
    (mode _).trans ((dropped _).trans ((restarted _).trans (congrArg Monitor.warm ((sponsors _).trans sources))))
  have idle : ∀ u : State, u.monitor = s.monitor.warm → u.monitor.conversion = none := fun u hu => hu ▸ rfl
  rw [restartHeadEnd, restartRamp]
  exact forEach_keeps (P := fun u => u.monitor = s.monitor.warm) slotNumbers recomputeAim
    (fun n _ u hu => (recomputeAim_monitor (idle u hu) n).trans hu) _ before

theorem restartedLists_monitor (b : Straps) (s : State) : (restartedLists b s).monitor = s.monitor.warm := by
  have started : (announceStart (countRestart (restartPorts b s))).monitor = s.monitor :=
    (monitor_of_butAlarms (butAlarms_of_butPorts (noticeTo_butPorts _ _ _ _))).trans rfl
  have plant : ∀ u, (restartPlant u).monitor = u.monitor := fun u =>
    (show _ = (rebuildSync (restartCarrier u)).monitor from rfl).trans
      ((monitor_of_butSync (rebuildSync_butSync _)).trans rfl)
  rw [restartedLists, monitor_of_butAlarms (clearUntrue_butAlarms _), monitor_of_butShow (evaluateEvents_butShow _ _),
    restartedRecords, monitor_of_butCorrelator (restartCorrelator_butCorrelator _), plant, restartHeadEnd_monitor,
    started]

end Blocks

end Sys2Proof.Machine


namespace Sys2Proof.Machine

/-! ## A warm restart's grant, and what stands of the settings (R82, R175) -/

section Grant
variable {s t : State}

theorem watches_of_butSync (h : t.butSync = s.butSync) :
    t.techQ = s.techQ ∧ t.survey = s.survey ∧ t.watches = s.watches :=
  ⟨show t.butSync.techQ = _ from h ▸ rfl, show t.butSync.survey = _ from h ▸ rfl,
    show t.butSync.watches = _ from h ▸ rfl⟩

/-- R98: a ready survey has a poll to make, where no audit step is due. -/
theorem choosePoll_of_ready (hd : s.survey.stepDue = false) (h : s.ready .survey = true) :
    ∃ b, s.choosePoll = some b := by
  simp only [State.ready, State.surveyReady, State.auditOfferable, hd, Bool.false_and, Bool.or_false,
    Bool.and_eq_true] at h
  exact Option.isSome_iff_exists.1 h.2

theorem markPolled_granted (b : Nat) (a : Arbiter) (s : State) :
    markPolled b { s with arbiter := a } = { markPolled b s with arbiter := a } := by
  have same : ({ s with arbiter := a } : State).watch b = s.watch b := rfl
  cases h : (s.watch b).state <;> simp only [markPolled, same, h] <;> rfl

theorem markPolled_beside (b : Nat) (s : State) :
    (markPolled b s).techQ = s.techQ ∧ (markPolled b s).survey = s.survey := by
  unfold markPolled
  extract_lets w
  split <;> exact ⟨rfl, rfl⟩

/-- R82: a grant, where no query waits and no audit step is due, leaves the technician queue and the survey unit, but for a
poll that it makes. -/
theorem arbitrate_offers (hq : s.techQ.waiting = []) (hd : s.survey.stepDue = false) :
    (arbitrate s).techQ = s.techQ ∧ (arbitrate s).survey = s.survey ∧
      ((arbitrate s).watches = s.watches ∨ ∃ b, (arbitrate s).watches = (markPolled b s).watches) := by
  unfold arbitrate
  split
  · cases hc : s.chosen with
    | none => exact ⟨rfl, rfl, .inl rfl⟩
    | some r =>
      have ready : s.ready r = true := List.find?_some hc
      cases r with
      | broadcast => exact ⟨rfl, rfl, .inl rfl⟩
      | technician => exact absurd ready (by simp [State.ready, hq])
      | sync =>
        simp only [grantTo, grantSync]
        split
        · obtain ⟨queue, survey, watches⟩ := watches_of_butSync (setSync_butSync _ .inFlight _)
          exact ⟨queue, survey, .inl watches⟩
        · exact ⟨rfl, rfl, .inl rfl⟩
      | survey =>
        obtain ⟨b, hb⟩ := choosePoll_of_ready hd ready
        have poll : ({ s with arbiter := s.arbiter.granted .survey } : State).choosePoll = some b := hb
        simp only [grantTo, grantSurvey, poll, markPolled_granted]
        exact ⟨(markPolled_beside b s).1, (markPolled_beside b s).2, .inr ⟨b, rfl⟩⟩
  · exact ⟨rfl, rfl, .inl rfl⟩

end Grant

section Settings
variable {s t : State}

/-- R175: the state of a warm restart when the arbiter decides. -/
def restartedAll (b : Straps) (s : State) : State := resumeMonitor (restartMinute (restartedLists b s))

theorem warmRestart_grant (b : Straps) (s : State) : warmRestart b s = arbitrate (restartedAll b s) := rfl

/-- Every field but the monitor's. -/
def State.besideMonitor (s : State) : State := { s with monitor := State.reset.monitor, out := State.reset.out }

theorem resumeMonitor_besideMonitor (s : State) : (resumeMonitor s).besideMonitor = s.besideMonitor := by
  unfold resumeMonitor
  split <;> rfl

theorem blocks_of_besideMonitor (h : t.besideMonitor = s.besideMonitor) : t.blocks = s.blocks :=
  show t.besideMonitor.blocks = _ from h ▸ rfl

/-- R149, R174: what the restart makes of the blocks. -/
def State.warmBlocks (s : State) : State :=
  restartMinute (restartAccrual (restartSurvey (restartCarrier (countRestart s))))

theorem restartedAll_blocks (b : Straps) (s : State) : (restartedAll b s).blocks = s.warmBlocks.blocks := by
  have minute : ∀ u w : State, u.blocks = w.blocks → (restartMinute u).blocks = (restartMinute w).blocks :=
    fun u w h => show (restartMinute u.blocks).blocks = _ from h ▸ rfl
  exact (blocks_of_besideMonitor (resumeMonitor_besideMonitor _)).trans (minute _ _ (restartedLists_blocks b s))

/-- The fields that `blocks` names. -/
theorem fields_of_blocks (h : t.blocks = s.blocks) :
    t.now = s.now ∧ t.ident = s.ident ∧ t.link = s.link ∧ t.revision = s.revision ∧ t.snapshot = s.snapshot ∧
    t.billing = s.billing ∧ t.arbiter = s.arbiter ∧ t.engine = s.engine ∧ t.broadcast = s.broadcast ∧
    t.techQ = s.techQ ∧ t.watches = s.watches ∧ t.survey = s.survey :=
  ⟨show t.blocks.now = _ from h ▸ rfl, show t.blocks.ident = _ from h ▸ rfl, show t.blocks.link = _ from h ▸ rfl,
    show t.blocks.revision = _ from h ▸ rfl, show t.blocks.snapshot = _ from h ▸ rfl,
    show t.blocks.billing = _ from h ▸ rfl, show t.blocks.arbiter = _ from h ▸ rfl,
    show t.blocks.engine = _ from h ▸ rfl, show t.blocks.broadcast = _ from h ▸ rfl,
    show t.blocks.techQ = _ from h ▸ rfl, show t.blocks.watches = _ from h ▸ rfl,
    show t.blocks.survey = _ from h ▸ rfl⟩

/-- R112, R121: the monitor resumed. -/
theorem resumeMonitor_monitor {m : Monitor} (h : s.monitor = m.warm) :
    (resumeMonitor (restartMinute s)).monitor = { m with
      settling := m.enable, cursor := 1
      conversion := if m.enable then some ⟨1, m.resolution,
        s.now + (if m.resolution = .fine then 25 else 10), false⟩ else none } := by
  have resumed : (resumeMonitor (restartMinute s)).monitor = if s.monitor.enable then
      { s.monitor with conversion := some ⟨1, s.monitor.resolution, s.now + s.monitor.resolution.dwell, false⟩ }
      else s.monitor := by
    unfold resumeMonitor
    rw [show (restartMinute s).monitor = s.monitor from rfl]
    split <;> rfl
  have dwell : ∀ r : Resolution, r.dwell = if r = .fine then 25 else 10 := fun r => by cases r <;> rfl
  rw [resumed, h, ← dwell]
  cases he : m.enable <;> simp [Monitor.warm, he]

theorem restartedLists_now (b : Straps) (s : State) : (restartedLists b s).now = s.now :=
  (fields_of_blocks (restartedLists_blocks b s)).1

theorem restartedAll_monitor (b : Straps) (s : State) :
    (restartedAll b s).monitor = { s.monitor with
      settling := s.monitor.enable, cursor := 1
      conversion := if s.monitor.enable then some ⟨1, s.monitor.resolution,
        s.now + (if s.monitor.resolution = .fine then 25 else 10), false⟩ else none } := by
  have resumed := resumeMonitor_monitor (restartedLists_monitor b s)
  rw [restartedLists_now] at resumed
  exact resumed

/-- What a grant leaves of the settings. -/
theorem fields_of_butCarrier (h : t.butCarrier = s.butCarrier) :
    t.ident = s.ident ∧ t.link = s.link ∧ t.revision = s.revision ∧ t.snapshot = s.snapshot ∧
    t.billing = s.billing ∧ t.monitor = s.monitor ∧ t.slots = s.slots ∧ t.branches = s.branches ∧
    t.subs = s.subs ∧ t.events = s.events :=
  ⟨show t.butCarrier.ident = _ from h ▸ rfl, show t.butCarrier.link = _ from h ▸ rfl,
    show t.butCarrier.revision = _ from h ▸ rfl, show t.butCarrier.snapshot = _ from h ▸ rfl,
    show t.butCarrier.billing = _ from h ▸ rfl, show t.butCarrier.monitor = _ from h ▸ rfl,
    show t.butCarrier.slots = _ from h ▸ rfl, show t.butCarrier.branches = _ from h ▸ rfl,
    show t.butCarrier.subs = _ from h ▸ rfl, show t.butCarrier.events = _ from h ▸ rfl⟩

/-- What a grant leaves of the arbiter, the engine and the broadcast. -/
theorem fields_of_beneathGrant (h : t.beneathGrant = s.beneathGrant) :
    t.arbiter.mode = s.arbiter.mode ∧ t.engine.carrierOn = s.engine.carrierOn ∧
    t.engine.returnOn = s.engine.returnOn ∧ t.engine.buffer = s.engine.buffer ∧
    t.engine.inFrame = s.engine.inFrame ∧ t.engine.noiseCount = s.engine.noiseCount ∧
    t.engine.noiseActive = s.engine.noiseActive ∧ t.broadcast.wanted = s.broadcast.wanted ∧
    t.broadcast.remaining = s.broadcast.remaining :=
  ⟨show t.beneathGrant.arbiter.mode = _ from h ▸ rfl, show t.beneathGrant.engine.carrierOn = _ from h ▸ rfl,
    show t.beneathGrant.engine.returnOn = _ from h ▸ rfl, show t.beneathGrant.engine.buffer = _ from h ▸ rfl,
    show t.beneathGrant.engine.inFrame = _ from h ▸ rfl, show t.beneathGrant.engine.noiseCount = _ from h ▸ rfl,
    show t.beneathGrant.engine.noiseActive = _ from h ▸ rfl, broadcast_of_beneathGrant h⟩

theorem warmBlocks_settings (s : State) :
    s.warmBlocks.ident = { s.ident with restarts := restartAfter s.ident.restarts } ∧ s.warmBlocks.link = s.link ∧
    s.warmBlocks.revision = s.revision ∧ s.warmBlocks.snapshot = s.snapshot ∧
    s.warmBlocks.billing = { s.billing with
      sweep := none, tickPending := false, closeWaiting := false, minuteTimer := s.now + 60000 } :=
  by simp [State.warmBlocks, restartMinute, minuteMs, restartAccrual, restartSurvey, restartCarrier, countRestart]

/-- The settings after a grant, as the restart leaves them. -/
theorem settings_of_warm {v : State} (hv : v.blocks = s.warmBlocks.blocks) (ht : t.butCarrier = v.butCarrier) :
    t.ident = { s.ident with restarts := restartAfter s.ident.restarts } ∧ t.link = s.link ∧
    t.revision = s.revision ∧ t.snapshot = s.snapshot ∧
    t.billing = { s.billing with
      sweep := none, tickPending := false, closeWaiting := false, minuteTimer := s.now + 60000 } := by
  obtain ⟨ident, link, revision, snapshot, billing, -⟩ := fields_of_butCarrier ht
  obtain ⟨-, ident', link', revision', snapshot', billing', -⟩ := fields_of_blocks hv
  rw [ident, ident', link, link', revision, revision', snapshot, snapshot', billing, billing']
  exact warmBlocks_settings s

/-- The carrier's blocks after a grant, as the restart leaves them. -/
theorem carrier_of_warm {v : State} (hv : v.blocks = s.warmBlocks.blocks) (ht : t.beneathGrant = v.beneathGrant) :
    t.arbiter.mode = s.arbiter.mode ∧ t.engine.carrierOn = s.engine.carrierOn ∧
    t.engine.returnOn = s.engine.returnOn ∧ t.engine.buffer = [] ∧ t.engine.inFrame = false ∧
    t.engine.noiseCount = 0 ∧ t.engine.noiseActive = s.engine.noiseActive ∧
    t.broadcast.wanted = s.broadcast.wanted ∧ t.broadcast.remaining = s.broadcast.remaining := by
  have granted := fields_of_beneathGrant ht
  obtain ⟨-, -, -, -, -, -, arbiter, engine, broadcast, -⟩ := fields_of_blocks hv
  rw [arbiter, engine, broadcast] at granted
  exact granted

theorem warmBlocks_survey (s : State) :
    s.warmBlocks.techQ = ⟨[], none, 1⟩ ∧
    s.warmBlocks.survey = { s.survey with
      cursor := 1, stepDue := false, auditInFlight := none
      auditTimer := s.survey.clock + s.link.auditInterval * 1000 } := ⟨rfl, rfl⟩

/-- R92, R98, R108: the queries are abandoned, and the survey unit stands as it has restarted, but for a poll. -/
theorem survey_of_warm {v : State} (hv : v.blocks = s.warmBlocks.blocks) :
    (arbitrate v).techQ = ⟨[], none, 1⟩ ∧
    (arbitrate v).survey = { s.survey with
      cursor := 1, stepDue := false, auditInFlight := none
      auditTimer := s.survey.clock + s.link.auditInterval * 1000 } ∧
    ((arbitrate v).watches = v.watches ∨ ∃ n, (arbitrate v).watches = (markPolled n v).watches) := by
  obtain ⟨-, -, -, -, -, -, -, -, -, queue, -, survey⟩ := fields_of_blocks hv
  obtain ⟨emptied, begun⟩ := warmBlocks_survey s
  have none : v.techQ.waiting = [] := by rw [queue, emptied]
  have notDue : v.survey.stepDue = false := by rw [survey, begun]
  obtain ⟨queue', survey', watches⟩ := arbitrate_offers none notDue
  exact ⟨queue'.trans (queue.trans emptied), survey'.trans (survey.trans begun), watches⟩

end Settings

/-! ## The watches (R108) -/

section Watches
variable {s t : State}

theorem markPolled_watch (h : TablesSound s) (b n : Nat) :
    (markPolled b s).watch n = s.watch n ∨
    ((s.watch n).state = .pollDue ∧ (markPolled b s).watch n = { s.watch n with state := .polled }) ∨
    ((s.watch n).state = .silent ∧ (markPolled b s).watch n = { s.watch n with recovery := .polled }) := by
  unfold markPolled
  extract_lets w
  by_cases hn : n = b
  · subst hn
    split
    · exact .inr (.inl ⟨‹_›, by rw [watch_setWatch h.watches, if_pos rfl]⟩)
    · exact .inr (.inr ⟨‹_›, by rw [watch_setWatch h.watches, if_pos rfl]⟩)
    · exact .inl rfl
  · split <;> exact .inl (by simp [watch_setWatch h.watches, hn])

/-- R108: a watch that a warm restart leaves: one that is watched is heard from now, a SILENT one has its recovery poll due or
granted. -/
def Watch.Restarted (w : Watch) (clock : Nat) (w' : Watch) : Prop :=
  (w.state = .unwatched → w' = w) ∧
  (w.state = .silent → ∃ v, (v = .due ∨ v = .polled) ∧ w' = { w with recovery := v, recoveryDue := some clock }) ∧
  (w.state ≠ .unwatched → w.state ≠ .silent → w' = { w with
    state := .watching, lastGood := some clock, due := some (clock + 3 * w.interval / 4 * 1000)
    deadline := some (clock + w.interval * 1000), deadlinePassed := false, recovery := .noPoll, recoveryDue := none })

theorem Watch.Restarted.warm (w : Watch) (clock : Nat) : Watch.Restarted w clock (w.warm clock) := by
  unfold Watch.Restarted Watch.warm
  refine ⟨fun h => ?_, fun h => ⟨.due, .inl rfl, ?_⟩, fun h h' => ?_⟩
  · simp [h]
  · simp [h]
  · cases hs : w.state with
    | unwatched => exact absurd hs h
    | silent => exact absurd hs h'
    | watching => rfl
    | pollDue => rfl
    | polled => rfl

/-- R98: no restarted watch is POLL_DUE, so a grant polls a SILENT one or none. -/
theorem Watch.warm_state (w : Watch) (clock : Nat) :
    (w.warm clock).state ≠ .pollDue ∧ ((w.warm clock).state = .silent → w.state = .silent) := by
  unfold Watch.warm
  cases hs : w.state <;> simp [Watch.restarted, hs]

theorem Watch.Restarted.polled {w : Watch} {clock : Nat} (h : w.state = .silent) :
    Watch.Restarted w clock { w.warm clock with recovery := .polled } := by
  unfold Watch.Restarted Watch.warm
  refine ⟨fun h' => by simp [h] at h', fun _ => ⟨.polled, .inr rfl, by simp [h]⟩, fun _ h' => absurd h h'⟩

/-- R108: the watches after a warm restart. -/
theorem watch_of_warm {v : State} (hv : TablesSound v)
    (hw : ∀ n, v.watch n = (s.watch n).warm s.survey.clock)
    (ht : t.watches = v.watches ∨ ∃ b, t.watches = (markPolled b v).watches) (n : Nat) :
    Watch.Restarted (s.watch n) s.survey.clock (t.watch n) := by
  have kept : t.watch n = v.watch n → Watch.Restarted (s.watch n) s.survey.clock (t.watch n) := fun e => by
    rw [e, hw]
    exact .warm _ _
  rcases ht with e | ⟨b, e⟩
  · exact kept (by simp only [State.watch, e])
  · have read : t.watch n = (markPolled b v).watch n := by simp only [State.watch, e]
    rcases markPolled_watch hv b n with same | ⟨due, -⟩ | ⟨silent, polled⟩
    · exact kept (read.trans same)
    · exact absurd (hw n ▸ due) (Watch.warm_state _ _).1
    · rw [read, polled, hw]
      exact .polled ((Watch.warm_state _ _).2 (hw n ▸ silent))

end Watches

end Sys2Proof.Machine


namespace Sys2Proof.Machine

/-! ## The tables through a warm restart

`Stands g s t`: the tables keep their form, and what `g` reads of each record stands. -/

/-- The tables keep their form, and what `g` reads of each number stands. -/
def Stands {β : Type} (g : State → Nat → β) (s t : State) : Prop :=
  TablesSound s → TablesSound t ∧ ∀ k, g t k = g s k

section Stands
variable {β : Type} {g : State → Nat → β} {s t u : State}

theorem Stands.refl (s : State) : Stands g s s := fun h => ⟨h, fun _ => rfl⟩

theorem Stands.trans (h : Stands g s t) (h' : Stands g t u) : Stands g s u := fun hs =>
  have ⟨tables, same⟩ := h hs
  have ⟨tables', same'⟩ := h' tables
  ⟨tables', fun k => (same' k).trans (same k)⟩

theorem Stands.of_kept (h : HeadKept s t) (hg : ∀ k, g t k = g s k) : Stands g s t := fun hs => ⟨h.tables hs, hg⟩

theorem Stands.ite {c : Prop} [Decidable c] (h : Stands g s t) (h' : Stands g s u) :
    Stands g s (if c then t else u) := by split <;> assumption

theorem forEach_stands (l : List Nat) {f : Nat → State → State} (h : ∀ n s, Stands g s (f n s)) (s : State) :
    Stands g s (forEach l f s) :=
  forEach_keeps (P := Stands g s) l f (fun n _ t ht => ht.trans (h n t)) s (.refl s)

end Stands

/-! ### The taps (R57, R58) -/

section Taps
variable {s t : State}

/-- What a tap reports, and its place: all but the port synchroniser's own part of the record. -/
def Tap.unsynced (r : Tap) : Tap := { r with sync := .inStep, lastSent := none }

/-- What the taps report. -/
def State.reports (s : State) (k : Nat) : Tap := (s.tap k).unsynced

theorem reports_of_taps (h : t.taps = s.taps) (k : Nat) : t.reports k = s.reports k := by
  simp only [State.reports, State.tap, h]

theorem taps_of_butAlarms (h : t.butAlarms = s.butAlarms) : t.taps = s.taps :=
  show t.butAlarms.taps = _ from h ▸ rfl

theorem setTap_reports {n : Nat} {v : Tap} (hv : v.unsynced = (s.tap n).unsynced) :
    Stands State.reports s (s.setTap n v) := fun h =>
  ⟨h.setTap n v, fun k => by
    simp only [State.reports, tap_setTap h.taps]
    split
    · subst k; exact hv
    · rfl⟩

theorem setSync_reports (n : Nat) (v : SyncStatus) (s : State) : Stands State.reports s (setSync n v s) := by
  have written : Stands State.reports s (s.setTap n { s.tap n with sync := v }) := setTap_reports rfl
  exact written.trans (.of_kept (postChange_kept _ _ _ _ _)
    (reports_of_taps (taps_of_butAlarms (postChange_butAlarms _ _ _ _ _))))

theorem entryTest_reports (n : Nat) (s : State) : Stands State.reports s (entryTest n s) := by
  have listed : ∀ l, Stands State.reports s ({ s with syncSet := l } : State) := fun _ =>
    .of_kept (.of_records rfl) fun _ => rfl
  have enters : Stands State.reports s (enterSync n s) := (listed _).trans (setSync_reports n .queued _)
  have leaves : Stands State.reports s (leaveSync n s) := (listed _).trans (setSync_reports n .inStep _)
  unfold entryTest
  extract_lets r
  refine .ite ?_ (.refl s)
  split
  · exact .ite enters (.refl s)
  · exact .ite (.refl s) leaves
  · exact .refl s
  · exact .refl s
  · exact .ite enters (.refl s)

theorem rebuildSync_reports (s : State) : Stands State.reports s (rebuildSync s) := by
  have listed : ∀ u l, Stands State.reports u ({ u with syncSet := l } : State) := fun _ _ =>
    .of_kept (.of_records rfl) fun _ => rfl
  have turn : ∀ n (u : State), Stands State.reports u
      (if (u.tap n).sync = .failed ∨ u.outOfStepReported n then
        ({ u with syncSet := u.syncSet ++ [n] } : State).setTap n { u.tap n with sync := .queued }
      else u.setTap n { u.tap n with sync := .inStep }) := fun n u =>
    .ite ((listed u _).trans (setTap_reports (s := { u with syncSet := u.syncSet ++ [n] }) (by rfl)))
      (setTap_reports rfl)
  exact (listed s []).trans (forEach_stands _ turn _)

theorem evaluateEvents_reports (m : Nat) (s : State) : Stands State.reports s (evaluateEvents id m s) := by
  have tested : ∀ n u, Stands State.reports u (entryTestOf n u) := fun n u => by
    cases n with
    | none => exact .refl u
    | some n => exact entryTest_reports n u
  have tiers : ∀ u, Stands State.reports u (decideTiers u) := fun u =>
    fun h => ⟨decideTiers_tables h,
      reports_of_taps (forEach_frame State.taps tierNumbers decideTier (fun _ _ => rfl) u)⟩
  have told : ∀ a k b u, Stands State.reports u (noticeTo a k b u) := fun a k b u =>
    .of_kept (noticeTo_kept a k b u)
      (reports_of_taps (taps_of_butAlarms (butAlarms_of_butPorts (noticeTo_butPorts a k b u))))
  have announced : ∀ e o u, Stands State.reports u (announceEvent id e o u) := fun e o u =>
    ((forEach_stands _ (fun n v => tested (v.sub n).tap v) u).trans (tiers _)).trans (told _ _ _ _)
  have written : ∀ e v u, Stands State.reports u (setEventState e v u) := fun e v u =>
    fun h => ⟨h.setEvent _ _, fun _ => rfl⟩
  have mapped : ∀ e p u, Stands State.reports u (mapPurchases e p u) := fun e p u => by
    unfold mapPurchases
    refine forEach_stands _ (fun n v => ?_) u
    exact .of_kept (setSub_kept n _ v) fun _ => rfl
  have starts : ∀ e u, Stands State.reports u (startEvent id e u) := fun e u =>
    (written e _ u).trans (announced e .scheduled _)
  have ends : ∀ e u, Stands State.reports u (endEvent id e u) := fun e u =>
    ((written e _ u).trans (mapped e _ _)).trans (announced e .showing _)
  have showing : Stands State.reports s (endShowing id m s) := by
    unfold endShowing
    split
    · exact .ite (ends _ s) (.refl s)
    · exact .refl s
  have takes : ∀ e u, Stands State.reports u (takeStart id m e u) := fun e u =>
    .ite ((starts e u).trans (ends e _)) (starts e u)
  exact showing.trans (forEach_stands _ takes _)

theorem markPolled_taps (b : Nat) (s : State) : (markPolled b s).taps = s.taps := by
  unfold markPolled
  extract_lets w
  split <;> rfl

theorem grantTo_reports (r : Requester) (s : State) : Stands State.reports s (grantTo r s) := by
  cases r with
  | broadcast => exact .of_kept (grantTo_kept .broadcast s) fun _ => rfl
  | technician =>
    refine .of_kept (grantTo_kept .technician s) (reports_of_taps ?_)
    show (grantTechnician s).taps = _
    unfold grantTechnician
    split <;> rfl
  | sync =>
    show Stands State.reports s (grantSync s)
    have listed : ∀ l, Stands State.reports s ({ s with syncSet := l } : State) := fun _ =>
      .of_kept (.of_records rfl) fun _ => rfl
    have sent : ∀ n l v, Stands State.reports { s with syncSet := l }
        (({ s with syncSet := l } : State).setTap n { s.tap n with lastSent := v }) := fun _ _ _ => setTap_reports rfl
    have taken : ∀ u r c a q, Stands State.reports u (takeTransaction r c a q u) := fun _ _ _ _ _ =>
      .of_kept (.of_records rfl) fun _ => rfl
    unfold grantSync
    split
    · exact (((listed _).trans (sent _ _ _)).trans (setSync_reports _ .inFlight _)).trans (taken _ _ _ _ _)
    · exact .refl s
  | survey =>
    refine .of_kept (grantTo_kept .survey s) (reports_of_taps ?_)
    show (grantSurvey s).taps = _
    unfold grantSurvey
    split
    · exact markPolled_taps _ s
    · split <;> rfl

theorem arbitrate_reports (s : State) : Stands State.reports s (arbitrate s) := by
  have moved : ∀ a, Stands State.reports s ({ s with arbiter := a } : State) := fun _ =>
    .of_kept (.of_records rfl) fun _ => rfl
  unfold arbitrate
  refine .ite ?_ (.refl s)
  split
  · exact (moved _).trans (grantTo_reports _ _)
  · exact .refl s

end Taps

end Sys2Proof.Machine


namespace Sys2Proof.Machine

/-! ### The branches (R128) -/

section Branches
variable {s t : State}

/-- R122: the settings of a branch, and what has been posted to it. -/
def Branch.inputs (r : Branch) : Branch :=
  { Branch.cold with
    defined := r.defined, parent := r.parent, station := r.station, interval := r.interval
    forced := r.forced, silent := r.silent, supplyFailed := r.supplyFailed }

/-- The settings of the branches. -/
def State.branchInputs (s : State) (k : Nat) : Branch := (s.branch k).inputs

theorem branchInputs_of_branches (h : t.branches = s.branches) (k : Nat) : t.branchInputs k = s.branchInputs k := by
  simp only [State.branchInputs, State.branch, h]

theorem setBranch_inputs {n : Nat} {v : Branch} (hv : v.inputs = (s.branch n).inputs) :
    Stands State.branchInputs s (s.setBranch n v) := fun h =>
  ⟨h.setBranch n v, fun k => by
    simp only [State.branchInputs, branch_setBranch h.branches]
    split
    · subst k; exact hv
    · rfl⟩

theorem handOnBranch_branches (old : Branch) (n : Nat) (s : State) : (handOnBranch old n s).branches = s.branches := by
  have posted : ∀ {u v : State}, v.butAlarms = u.butAlarms → v.branches = u.branches := fun {u v} h =>
    show v.butAlarms.branches = _ from h ▸ rfl
  unfold handOnBranch
  extract_lets new s1 s2 s3
  have h2 : s2.branches = s.branches := (posted (postChange_butAlarms _ _ _ _ s1)).trans rfl
  have h3 : s3.branches = s.branches := by
    show (if new.affected && !old.affected then correlateAffected n s2
      else if old.affected && !new.affected then correlateUnaffected n s2 else s2).branches = _
    split
    · exact (posted (correlateAffected_butAlarms n s2)).trans h2
    · split
      · exact (posted (correlateUnaffected_butAlarms n s2)).trans h2
      · exact h2
  split
  · exact (posted (correlateShadowed_butAlarms n s3)).trans h3
  · split
    · exact (posted (correlateUnshadowed_butAlarms n s3)).trans h3
    · exact h3

theorem decideBranches_inputs (s : State) : Stands State.branchInputs s (decideBranches s) := by
  have decided : Stands State.branchInputs s { s with branches := tabMap .cold Branch.decided s.branches } := fun h =>
    ⟨by simp_all [TablesSound, tabWf_tabMap], fun k => by
      simp only [State.branchInputs, State.branch]
      rw [tabGet_tabMap (by rfl) h.branches]
      rfl⟩
  have flags : ∀ n u, Stands State.branchInputs u (decideFlags n u) := fun n u => setBranch_inputs rfl
  have handed : ∀ old n u, Stands State.branchInputs u (handOnBranch old n u) := fun old n u =>
    .of_kept (handOnBranch_kept old n u) (branchInputs_of_branches (handOnBranch_branches old n u))
  exact (decided.trans (forEach_stands _ flags _)).trans (forEach_stands _ (fun n u => handed (s.branch n) n u) _)

theorem restartCorrelator_inputs (s : State) : Stands State.branchInputs s (restartCorrelator s) := by
  have recounts : ∀ n u, Stands State.branchInputs u (recountTaps n u) := fun n u => setBranch_inputs rfl
  have tiers : ∀ u, Stands State.branchInputs u (decideTiers u) := fun u h =>
    ⟨decideTiers_tables h,
      branchInputs_of_branches (forEach_frame State.branches tierNumbers decideTier (fun _ _ => rfl) u)⟩
  exact ((forEach_stands _ recounts s).trans (decideBranches_inputs _)).trans (tiers _)

end Branches

/-! ### The slots (R2, R35, R121) -/

section Slots
variable {s t : State}

/-- The settings and the sponsors of the slots. -/
def State.slotSettings (s : State) (k : Nat) : Slot := (s.slot k).settings

/-- The settings of the slots, and the sponsors that a warm restart gives them. -/
def State.warmSettings (s : State) (k : Nat) : Slot := (s.slot k).warmed.settings

theorem Slot.warmed_settings (r : Slot) : r.warmed.settings = r.settings.warmed := by
  unfold Slot.warmed
  rw [show r.settings.warm = r.warm from rfl]
  split <;> rfl

theorem Slot.warmed_warmed (r : Slot) : r.warmed.warmed = r.warmed := by
  cases h : r.warm <;> simp [Slot.warmed, h]

/-- A slot that has its sponsors of a warm restart keeps them at another. -/
theorem owedWarmed_settings (s : State) (r : Slot) :
    (s.owedSlot r.warmed).warmed.settings = r.warmed.settings := by
  rw [Slot.warmed_settings, show (s.owedSlot r.warmed).settings = r.warmed.settings from rfl, ← Slot.warmed_settings,
    Slot.warmed_warmed]

theorem slotSettings_of_slots (h : t.slots = s.slots) (k : Nat) : t.slotSettings k = s.slotSettings k := by
  simp only [State.slotSettings, State.slot, h]

theorem setSlot_settings {n : Nat} {v : Slot} (hv : v.settings = (s.slot n).settings) :
    Stands State.slotSettings s (s.setSlot n v) := fun h =>
  ⟨h.setSlot n v, fun k => by
    simp only [State.slotSettings, slot_setSlot h.slots]
    split
    · subst k; exact hv
    · rfl⟩

theorem slots_of_butAlarms (h : t.butAlarms = s.butAlarms) : t.slots = s.slots :=
  show t.butAlarms.slots = _ from h ▸ rfl

theorem takeSource_settings (n : Nat) (s : State) : Stands State.slotSettings s (takeSource n s) := by
  have taken : ∀ u, Stands State.slotSettings u (presenceTaken n u) := fun u h =>
    ⟨presenceTaken_tables n h, fun k => by
      simp only [State.slotSettings, presenceTaken_slot h]
      split <;> rfl⟩
  have written : ∀ v, Stands State.slotSettings s (s.setSource n v) := fun v h => ⟨h.setSource n v, fun _ => rfl⟩
  exact .ite (written _) ((written _).trans (taken _))

/-- R2: the sponsors that a warm restart gives, slot by slot. -/
theorem warmSponsors_settings (h : TablesSound s) :
    (∀ k, (forEach slotNumbers warmSponsors s).warmSettings k = s.warmSettings k) ∧
    ∀ k, wfSlot k = true → (forEach slotNumbers warmSponsors s).slotSettings k = s.warmSettings k := by
  have turn : ∀ n u, Stands State.warmSettings u (warmSponsors n u) := fun n u hu =>
    ⟨warmSponsors_tables hu n, fun k => by
      simp only [State.warmSettings, warmSponsors_slot hu]
      split
      · subst k; exact owedWarmed_settings u _
      · rfl⟩
  have stands := (forEach_stands slotNumbers turn s h).2
  have given := forEach_each (P := TablesSound) (Q := fun k u => u.slotSettings k = u.warmSettings k) slotNumbers
    (fun n u hu => warmSponsors_tables hu n)
    (fun n u hu => by
      simp only [State.slotSettings, State.warmSettings, warmSponsors_slot hu, if_true]
      exact (owedWarmed_settings u _).symm)
    (fun n k u hu hk => by
      simp only [State.slotSettings, State.warmSettings, warmSponsors_slot hu] at hk ⊢
      split
      · exact (owedWarmed_settings u _).symm
      · exact hk) h
  exact ⟨stands, fun k hk => (given k (.inl (mem_slotNumbers.2 hk))).trans (stands k)⟩

theorem setJudgement_settings (n : Nat) (j : Judgement) (l h c : Nat) (s : State) :
    Stands State.slotSettings s (setJudgement n j l h c s) := by
  have written : Stands State.slotSettings s (s.setSlot n { s.slot n with
      judgement := j, lowCount := l, highCount := h, clearCount := c }) := setSlot_settings rfl
  have same := setJudgement_butAlarms n j l h c s
  exact written.trans (.of_kept (.of_butAlarms same) (slotSettings_of_slots (slots_of_butAlarms same)))

theorem clearJudgements_settings (s : State) : Stands State.slotSettings s (clearJudgements s) := by
  have turn : ∀ n u, Stands State.slotSettings u
      (setJudgement n .unjudged 0 0 0 (u.setSlot n { u.slot n with measured := none })) := fun n u =>
    (setSlot_settings (v := { u.slot n with measured := none }) rfl).trans (setJudgement_settings _ _ _ _ _ _)
  exact forEach_stands slotNumbers turn s

theorem restartMonitor_settings (s : State) : Stands State.slotSettings s (restartMonitor s) := by
  have stopped : Stands State.slotSettings s ({ s with monitor := s.monitor.warm } : State) :=
    .of_kept (.of_records rfl) fun _ => rfl
  exact stopped.trans (clearJudgements_settings { s with monitor := s.monitor.warm })

theorem warmMode_slots (s : State) : (warmMode s).slots = s.slots := by
  unfold warmMode
  extract_lets s1 old new
  split
  · rfl
  · exact (slots_of_butAlarms (announceMode_butAlarms _ _ _)).trans rfl

theorem restartRamp_settings (s : State) : Stands State.slotSettings s (restartRamp s) := by
  have drops : ∀ n u, Stands State.slotSettings u (dropCarrier n u) := fun n u =>
    (setSlot_settings (s := u) (n := n) (v := { u.slot n with
      carrierOn := false, level := none, ramp := .steady, stepTimer := none, aim := .off, aimLevel := 100 }) rfl).trans
      (.of_kept (.of_records rfl) fun _ => rfl)
  have mode : ∀ u, Stands State.slotSettings u (warmMode u) := fun u h =>
    ⟨(warmMode_owedKept u).tables h, slotSettings_of_slots (warmMode_slots u)⟩
  have aims : ∀ n u, Stands State.slotSettings u (recomputeAim n u) := fun n u h =>
    ⟨recomputeAim_tables n h, fun k => by
      by_cases hk : k = n
      · subst k; exact (settings_of_core (recomputeAim_core h n)).trans rfl
      · simp only [State.slotSettings, recomputeAim_slot_ne h hk]⟩
  exact ((forEach_stands _ drops s).trans (mode _)).trans (forEach_stands _ aims _)

/-- R2: the settings of the slots after the head end's restart. -/
theorem restartHeadEnd_settings (h : TablesSound s) :
    (∀ k, (restartHeadEnd s).warmSettings k = s.warmSettings k) ∧
    ∀ k, wfSlot k = true → (restartHeadEnd s).slotSettings k = s.warmSettings k := by
  have warmOf : ∀ {u v : State} {k}, u.slotSettings k = v.slotSettings k → u.warmSettings k = v.warmSettings k :=
    fun {u v k} e => (Slot.warmed_settings _).trans ((congrArg Slot.warmed e).trans (Slot.warmed_settings _).symm)
  obtain ⟨tables, sources⟩ := forEach_stands sourceNumbers takeSource_settings s h
  obtain ⟨warm, given⟩ := warmSponsors_settings tables
  have sponsored : TablesSound (forEach slotNumbers warmSponsors (forEach sourceNumbers takeSource s)) :=
    forEach_keeps (P := TablesSound) _ _ (fun n _ _ h => warmSponsors_tables h n) _ tables
  obtain ⟨-, rest⟩ := (restartMonitor_settings _).trans (restartRamp_settings _) sponsored
  rw [restartHeadEnd]
  exact ⟨fun k => (warmOf (rest k)).trans ((warm k).trans (warmOf (sources k))),
    fun k hk => (rest k).trans ((given k hk).trans (warmOf (sources k)))⟩

/-! ### The judgements (R121) -/

/-- R110, R121: a slot UNJUDGED, with zero counts and no measured level. -/
def Slot.Unjudged (r : Slot) : Prop :=
  r.judgement = .unjudged ∧ r.lowCount = 0 ∧ r.highCount = 0 ∧ r.clearCount = 0 ∧ r.measured = none

theorem clearJudgement_slot (h : TablesSound s) (n k : Nat) :
    (setJudgement n .unjudged 0 0 0 (s.setSlot n { s.slot n with measured := none })).slot k =
      if k = n then { s.slot n with
        measured := none, judgement := .unjudged, lowCount := 0, highCount := 0, clearCount := 0 } else s.slot k := by
  rw [setJudgement_slot (h.setSlot n _), slot_setSlot h.slots, slot_setSlot h.slots, if_pos rfl]
  split <;> rfl

theorem clearJudgements_unjudged (h : TablesSound s) (k : Nat) (hk : wfSlot k = true) :
    ((clearJudgements s).slot k).Unjudged :=
  forEach_each (P := TablesSound) (Q := fun k u => (u.slot k).Unjudged) slotNumbers
    (f := fun n s => setJudgement n .unjudged 0 0 0 (s.setSlot n { s.slot n with measured := none }))
    (fun n u hu => (setJudgement_settings n .unjudged 0 0 0 _ (hu.setSlot n _)).1)
    (fun n u hu => by
      rw [clearJudgement_slot hu, if_pos rfl]
      exact ⟨rfl, rfl, rfl, rfl, rfl⟩)
    (fun n k u hu hq => by
      rw [clearJudgement_slot hu]
      split
      · exact ⟨rfl, rfl, rfl, rfl, rfl⟩
      · exact hq)
    h k (.inl (mem_slotNumbers.2 hk))

theorem restartMonitor_unjudged (h : TablesSound s) (k : Nat) (hk : wfSlot k = true) :
    ((restartMonitor s).slot k).Unjudged :=
  clearJudgements_unjudged (s := { s with monitor := s.monitor.warm }) h k hk

theorem Slot.Unjudged.rejudged {r : Slot} (h : r.Unjudged) (on : Bool) : (r.rejudged on).Unjudged := by
  obtain ⟨-, -, -, -, measured⟩ := id h
  unfold Slot.rejudged
  split
  · exact ⟨rfl, rfl, rfl, rfl, measured⟩
  · exact h

theorem restartRamp_unjudged (h : TablesSound s) (k : Nat) (hq : (s.slot k).Unjudged) :
    ((restartRamp s).slot k).Unjudged := by
  have dropped := forEach_keeps (P := fun u => TablesSound u ∧ (u.slot k).Unjudged) slotNumbers dropCarrier
    (fun n _ u ⟨hu, hk⟩ => ⟨(dropCarrier_owedKept n u).tables hu, by
      show ((u.setSlot n _).slot k).Unjudged
      rw [slot_setSlot hu.slots]
      split
      · subst k; exact hk
      · exact hk⟩) s ⟨h, hq⟩
  have mode : ∀ u : State, (warmMode u).slot k = u.slot k := fun u => by simp only [State.slot, warmMode_slots]
  rw [restartRamp]
  refine (forEach_keeps (P := fun u => TablesSound u ∧ (u.slot k).Unjudged) slotNumbers recomputeAim
    (fun n _ u ⟨hu, hk⟩ => ⟨recomputeAim_tables n hu, ?_⟩) _
    ⟨(warmMode_owedKept _).tables dropped.1, (mode _).symm ▸ dropped.2⟩).2
  by_cases hn : k = n
  · subst k
    rcases recomputeAim_slot_self hu n with ⟨e, -⟩ | ⟨e, -⟩ | e <;> rw [e]
    · exact hk
    · exact Slot.Unjudged.rejudged (r := ((u.slot n).aimed u.power.mode).ramped u.now) hk _
    · exact Slot.Unjudged.rejudged (r := ((u.slot n).aimed u.power.mode).turnedOn u.now) hk _
  · rwa [recomputeAim_slot_ne hu hn]

theorem restartHeadEnd_unjudged (h : TablesSound s) (k : Nat) (hk : wfSlot k = true) :
    ((restartHeadEnd s).slot k).Unjudged := by
  obtain ⟨tables, -⟩ := forEach_stands sourceNumbers takeSource_settings s h
  have sponsored : TablesSound (forEach slotNumbers warmSponsors (forEach sourceNumbers takeSource s)) :=
    forEach_keeps (P := TablesSound) _ _ (fun n _ _ h => warmSponsors_tables h n) _ tables
  obtain ⟨monitored, -⟩ := restartMonitor_settings _ sponsored
  rw [restartHeadEnd]
  exact restartRamp_unjudged monitored k (restartMonitor_unjudged sponsored k hk)

end Slots

end Sys2Proof.Machine


namespace Sys2Proof.Machine

/-! ### The events (R152) -/

section Events
variable {s t : State}

/-- R152: sound events are left by an evaluation against the clock as it stands. -/
theorem evaluateEvents_sound (h : TablesSound s) (he : EventsSound s) (f : State → State) :
    evaluateEvents f s.billing.clock s = s := by
  obtain ⟨-, -, scheduled, showing⟩ := he
  have stays : endShowing f s.billing.clock s = s := by
    unfold endShowing
    split
    · rename_i e hshow
      have listed := (mem_tabWhere h.events).1 (List.mem_of_mem_head? hshow)
      obtain ⟨from', till⟩ := showing e (by simpa [State.event] using listed.2)
      exact if_neg (by simp only [State.startOf] at from'; omega)
    · rfl
  have none : s.dueEvents s.billing.clock = [] := by
    have waits : s.events.filter (fun e => decide (e.2.state = .scheduled) &&
        decide (e.2.start.getD 0 ≤ s.billing.clock)) = [] := by
      refine List.filter_eq_nil_iff.2 fun e hmem hdue => ?_
      have read : s.event e.1 = e.2 := tabGet_of_mem h.events hmem
      simp only [Bool.and_eq_true, decide_eq_true_eq] at hdue
      have later := scheduled e.1 (read ▸ hdue.1)
      rw [State.startOf, read] at later
      omega
    rw [State.dueEvents, waits]
    rfl
  rw [evaluateEvents, stays, none]
  rfl

theorem eventsSound_congr (he : t.events = s.events) (hc : t.billing.clock = s.billing.clock) (h : EventsSound s) :
    EventsSound t := by
  simpa only [EventsSound, State.startOf, State.event, he, hc] using h

end Events

/-! ## The records of a warm restart, put together (R175) -/

section Records
variable {s t : State}

theorem restartStarted_kept (b : Straps) (s : State) :
    HeadKept s (announceStart (countRestart (restartPorts b s))) :=
  (restartPorts_kept b s).trans ((HeadKept.of_records (by rfl)).trans (announceStart_kept _))

theorem restartStarted_slots (b : Straps) (s : State) :
    (announceStart (countRestart (restartPorts b s))).slots = s.slots :=
  (slots_of_butAlarms (butAlarms_of_butPorts (noticeTo_butPorts _ _ _ _))).trans rfl

theorem fields_of_plant (h : t.plant = s.plant) :
    t.subs = s.subs ∧ t.taps = s.taps ∧ t.branches = s.branches ∧ t.events = s.events :=
  ⟨show t.plant.subs = _ from h ▸ rfl, show t.plant.taps = _ from h ▸ rfl,
    show t.plant.branches = _ from h ▸ rfl, show t.plant.events = _ from h ▸ rfl⟩

theorem fields_of_butSync (h : t.butSync = s.butSync) :
    t.slots = s.slots ∧ t.subs = s.subs ∧ t.branches = s.branches ∧ t.events = s.events :=
  ⟨show t.butSync.slots = _ from h ▸ rfl, show t.butSync.subs = _ from h ▸ rfl,
    show t.butSync.branches = _ from h ▸ rfl, show t.butSync.events = _ from h ▸ rfl⟩

theorem fields_of_butCorrelator (h : t.butCorrelator = s.butCorrelator) :
    t.slots = s.slots ∧ t.subs = s.subs ∧ t.taps = s.taps ∧ t.events = s.events :=
  ⟨show t.butCorrelator.slots = _ from h ▸ rfl, show t.butCorrelator.subs = _ from h ▸ rfl,
    show t.butCorrelator.taps = _ from h ▸ rfl, show t.butCorrelator.events = _ from h ▸ rfl⟩

theorem fields_of_butShow (h : t.butShow = s.butShow) : t.slots = s.slots ∧ t.branches = s.branches :=
  ⟨show t.butShow.slots = _ from h ▸ rfl, show t.butShow.branches = _ from h ▸ rfl⟩

theorem fields_of_butAlarms (h : t.butAlarms = s.butAlarms) :
    t.slots = s.slots ∧ t.branches = s.branches ∧ t.subs = s.subs ∧ t.taps = s.taps ∧ t.events = s.events :=
  ⟨show t.butAlarms.slots = _ from h ▸ rfl, show t.butAlarms.branches = _ from h ▸ rfl,
    show t.butAlarms.subs = _ from h ▸ rfl, show t.butAlarms.taps = _ from h ▸ rfl,
    show t.butAlarms.events = _ from h ▸ rfl⟩

theorem restartPlant_records (s : State) :
    (restartPlant s).slots = s.slots ∧ (restartPlant s).subs = s.subs ∧ (restartPlant s).branches = s.branches ∧
    (restartPlant s).events = s.events := by
  have surveyed : ∀ u, (restartAccrual (restartSurvey u)).butSync.slots = u.slots ∧
      (restartAccrual (restartSurvey u)).subs = u.subs ∧ (restartAccrual (restartSurvey u)).branches = u.branches ∧
      (restartAccrual (restartSurvey u)).events = u.events := fun _ => ⟨rfl, rfl, rfl, rfl⟩
  obtain ⟨slots, subs, branches, events⟩ := fields_of_butSync (rebuildSync_butSync (restartCarrier s))
  obtain ⟨slots', subs', branches', events'⟩ := surveyed (rebuildSync (restartCarrier s))
  exact ⟨slots'.trans slots, subs'.trans subs, branches'.trans branches, events'.trans events⟩

theorem restartPlant_reports (s : State) : Stands State.reports s (restartPlant s) := fun h =>
  ⟨(restartPlant_kept s).tables h, (rebuildSync_reports (restartCarrier s) h).2⟩

theorem restartPlant_inputs (s : State) : Stands State.branchInputs s (restartPlant s) :=
  .of_kept (restartPlant_kept s) (branchInputs_of_branches (restartPlant_records s).2.2.1)

theorem restartCorrelator_tables (h : TablesSound s) : TablesSound (restartCorrelator s) :=
  (restartCorrelator_inputs s h).1

theorem restartHeadEnd_stands {β : Type} {g : State → Nat → β} (hg : ∀ k, g (restartHeadEnd s) k = g s k) :
    Stands g s (restartHeadEnd s) := fun h => ⟨(restartHeadEnd_slotsKept s).tables h, hg⟩

/-! ### Before the events are evaluated -/

theorem restartedRecords_reports (b : Straps) (s : State) : Stands State.reports s (restartedRecords b s) := by
  have started : Stands State.reports s (announceStart (countRestart (restartPorts b s))) :=
    .of_kept (restartStarted_kept b s) (reports_of_taps (fields_of_plant (restartStarted_plant b s)).2.1)
  have correlated : ∀ u, Stands State.reports u (restartCorrelator u) := fun u h =>
    ⟨restartCorrelator_tables h,
      reports_of_taps (fields_of_butCorrelator (restartCorrelator_butCorrelator u)).2.2.1⟩
  exact ((started.trans (restartHeadEnd_stands
    (reports_of_taps (fields_of_plant (restartHeadEnd_plant _)).2.1))).trans (restartPlant_reports _)).trans
    (correlated _)

theorem restartedRecords_inputs (b : Straps) (s : State) : Stands State.branchInputs s (restartedRecords b s) := by
  have started : Stands State.branchInputs s (announceStart (countRestart (restartPorts b s))) :=
    .of_kept (restartStarted_kept b s) (branchInputs_of_branches (fields_of_plant (restartStarted_plant b s)).2.2.1)
  exact ((started.trans (restartHeadEnd_stands
    (branchInputs_of_branches (fields_of_plant (restartHeadEnd_plant _)).2.2.1))).trans (restartPlant_inputs _)).trans
    (restartCorrelator_inputs _)

theorem restartedRecords_slots (b : Straps) (s : State) :
    (restartedRecords b s).slots = (restartHeadEnd (announceStart (countRestart (restartPorts b s)))).slots := by
  rw [restartedRecords, (fields_of_butCorrelator (restartCorrelator_butCorrelator _)).1, (restartPlant_records _).1]

/-- No subscriber and no event changes before the events are evaluated. -/
theorem restartedRecords_events (b : Straps) (s : State) :
    (restartedRecords b s).subs = s.subs ∧ (restartedRecords b s).events = s.events := by
  obtain ⟨-, subs, -, events⟩ := fields_of_butCorrelator (restartCorrelator_butCorrelator
    (restartPlant (restartHeadEnd (announceStart (countRestart (restartPorts b s))))))
  obtain ⟨-, subs', -, events'⟩ :=
    restartPlant_records (restartHeadEnd (announceStart (countRestart (restartPorts b s))))
  obtain ⟨subs'', -, -, events''⟩ := fields_of_plant ((restartHeadEnd_plant _).trans (restartStarted_plant b s))
  exact ⟨subs.trans (subs'.trans subs''), events.trans (events'.trans events'')⟩

theorem restartedRecords_blocks (b : Straps) (s : State) :
    (restartedRecords b s).blocks = (restartAccrual (restartSurvey (restartCarrier (countRestart s)))).blocks := by
  rw [restartedRecords, blocks_of_butCorrelator (restartCorrelator_butCorrelator _)]
  exact restartPlant_blocks (blocks_of_plant ((restartHeadEnd_plant _).trans (restartStarted_plant b s)))

/-- R152: with sound events the evaluation of a warm restart changes nothing. -/
theorem restartedLists_events (b : Straps) (h : TablesSound s) (he : EventsSound s) :
    (restartedLists b s).subs = s.subs ∧ (restartedLists b s).events = s.events := by
  obtain ⟨subs, events⟩ := restartedRecords_events b s
  obtain ⟨-, -, -, -, -, billing, -⟩ := fields_of_blocks (restartedRecords_blocks b s)
  have clock : (restartedRecords b s).billing.clock = s.billing.clock := by rw [billing]; rfl
  have still := evaluateEvents_sound (restartedRecords_inputs b s h).1 (eventsSound_congr events clock he) id
  obtain ⟨-, -, subs', -, events'⟩ := fields_of_butAlarms (clearUntrue_butAlarms (restartedRecords b s))
  rw [restartedLists, still]
  exact ⟨subs'.trans subs, events'.trans events⟩

/-! ### The whole restart -/

theorem restartedLists_records (b : Straps) (s : State) :
    (restartedLists b s).slots = (restartedRecords b s).slots ∧
    (restartedLists b s).branches = (restartedRecords b s).branches := by
  obtain ⟨slots, branches⟩ := fields_of_butShow
    (evaluateEvents_butShow (restartedRecords b s).billing.clock (restartedRecords b s))
  obtain ⟨slots', branches', -⟩ := fields_of_butAlarms (clearUntrue_butAlarms
    (evaluateEvents id (restartedRecords b s).billing.clock (restartedRecords b s)))
  exact ⟨slots'.trans slots, branches'.trans branches⟩

theorem restartedLists_reports (b : Straps) (s : State) : Stands State.reports s (restartedLists b s) := by
  have cleared : ∀ u, Stands State.reports u (clearUntrue u) := fun u =>
    .of_kept (.of_butAlarms (clearUntrue_butAlarms u)) (reports_of_taps (taps_of_butAlarms (clearUntrue_butAlarms u)))
  exact ((restartedRecords_reports b s).trans (evaluateEvents_reports _ _)).trans (cleared _)

/-- The end of the restart writes the minute timer and the monitor alone. -/
theorem resumed_records (s : State) :
    (resumeMonitor (restartMinute s)).slots = s.slots ∧ (resumeMonitor (restartMinute s)).branches = s.branches ∧
    (resumeMonitor (restartMinute s)).subs = s.subs ∧ (resumeMonitor (restartMinute s)).taps = s.taps ∧
    (resumeMonitor (restartMinute s)).events = s.events := by
  unfold resumeMonitor
  split <;> exact ⟨rfl, rfl, rfl, rfl, rfl⟩

theorem restartedAll_reports (b : Straps) (s : State) : Stands State.reports s (restartedAll b s) := by
  have resumed : ∀ u, Stands State.reports u (resumeMonitor (restartMinute u)) := fun u =>
    .of_kept ((restartMinute_kept u).trans (.ite (beginConversion_kept 1 _) (.refl _)))
      (reports_of_taps (resumed_records u).2.2.2.1)
  exact (restartedLists_reports b s).trans (resumed _)

theorem warmRestart_reports (b : Straps) (s : State) : Stands State.reports s (warmRestart b s) := by
  rw [warmRestart_grant]
  exact (restartedAll_reports b s).trans (arbitrate_reports _)

theorem warmRestart_records (b : Straps) (s : State) :
    (warmRestart b s).slots = (restartHeadEnd (announceStart (countRestart (restartPorts b s)))).slots ∧
    (warmRestart b s).branches = (restartedRecords b s).branches := by
  obtain ⟨-, -, -, -, -, -, slots, branches, -⟩ := fields_of_butCarrier (arbitrate_butCarrier (restartedAll b s))
  obtain ⟨slots', branches', -⟩ := resumed_records (restartedLists b s)
  obtain ⟨slots'', branches''⟩ := restartedLists_records b s
  exact ⟨slots.trans (slots'.trans (slots''.trans (restartedRecords_slots b s))),
    branches.trans (branches'.trans branches'')⟩

/-- R155: with sound events the subscriber records and the event records stand. -/
theorem warmRestart_events (b : Straps) (h : TablesSound s) (he : EventsSound s) :
    (warmRestart b s).subs = s.subs ∧ (warmRestart b s).events = s.events := by
  obtain ⟨-, -, -, -, -, -, -, -, subs, events⟩ := fields_of_butCarrier (arbitrate_butCarrier (restartedAll b s))
  obtain ⟨-, -, subs', -, events'⟩ := resumed_records (restartedLists b s)
  obtain ⟨subs'', events''⟩ := restartedLists_events b h he
  exact ⟨subs.trans (subs'.trans subs''), events.trans (events'.trans events'')⟩

end Records

end Sys2Proof.Machine


namespace Sys2Proof.Machine

/-! ## The restarts (R175, R176) -/

section Restarts
variable {s t : State}

/-! ### The slots, the branches and the watches of a warm restart -/

theorem Slot.warmed_fields (r : Slot) :
    r.warmed.source = r.source ∧ r.warmed.tier = r.tier ∧ r.warmed.target = r.target ∧
    r.warmed.floorLevel = r.floorLevel ∧ r.warmed.period = r.period ∧ r.warmed.reserve = r.reserve ∧
    r.warmed.conserve = r.conserve ∧ r.warmed.warm = r.warm ∧
    r.warmed.sponsors = if r.warm = .all then ⟨true, true, true⟩ else r.sponsors := by
  cases h : r.warm <;> simp [Slot.warmed, h, allMasters]

/-- R1: records of the same warm settings have the same settings, but for the sponsors. -/
theorem fields_of_warmed {r r' : Slot} (h : r'.warmed.settings = r.warmed.settings) :
    r'.source = r.source ∧ r'.tier = r.tier ∧ r'.target = r.target ∧ r'.floorLevel = r.floorLevel ∧
    r'.period = r.period ∧ r'.reserve = r.reserve ∧ r'.conserve = r.conserve ∧ r'.warm = r.warm := by
  obtain ⟨source, tier, -, target, floorLevel, period, reserve, conserve, warm⟩ := settings_eq_iff.1 h
  have fields := r.warmed_fields
  have fields' := r'.warmed_fields
  simp_all

theorem warmRestart_slots (b : Straps) (h : TablesSound s) :
    (∀ k, (warmRestart b s).warmSettings k = s.warmSettings k) ∧
    (∀ k, wfSlot k = true → (warmRestart b s).slotSettings k = s.warmSettings k) ∧
    ∀ k, wfSlot k = true → ((warmRestart b s).slot k).Unjudged := by
  have tables := (restartStarted_kept b s).tables h
  have slots := (warmRestart_records b s).1
  have read : ∀ k, (warmRestart b s).slot k
      = (restartHeadEnd (announceStart (countRestart (restartPorts b s)))).slot k := fun k => by
    simp only [State.slot, slots]
  have started : ∀ k, (announceStart (countRestart (restartPorts b s))).slot k = s.slot k := fun k => by
    simp only [State.slot, restartStarted_slots]
  obtain ⟨warm, given⟩ := restartHeadEnd_settings tables
  refine ⟨fun k => ?_, fun k hk => ?_, fun k hk => ?_⟩
  · have := warm k
    rwa [State.warmSettings, State.warmSettings, started, ← read] at this
  · have := given k hk
    rwa [State.slotSettings, State.warmSettings, started, ← read] at this
  · rw [read]
    exact restartHeadEnd_unjudged tables k hk

theorem warmRestart_sponsors (b : Straps) (h : TablesSound s) {n : Nat} (hn : wfSlot n = true) :
    ((warmRestart b s).slot n).sponsors
      = if (s.slot n).warm = .all then ⟨true, true, true⟩ else (s.slot n).sponsors := by
  obtain ⟨-, -, sponsors, -⟩ := settings_eq_iff.1 ((warmRestart_slots b h).2.1 n hn)
  obtain ⟨-, -, -, -, -, -, -, -, given⟩ := (s.slot n).warmed_fields
  exact sponsors.trans given

theorem warmRestart_branch (b : Straps) (h : TablesSound s) (n : Nat) :
    ((warmRestart b s).branch n).defined = (s.branch n).defined ∧
    ((warmRestart b s).branch n).parent = (s.branch n).parent ∧
    ((warmRestart b s).branch n).station = (s.branch n).station ∧
    ((warmRestart b s).branch n).interval = (s.branch n).interval ∧
    ((warmRestart b s).branch n).forced = (s.branch n).forced ∧
    ((warmRestart b s).branch n).silent = (s.branch n).silent ∧
    ((warmRestart b s).branch n).supplyFailed = (s.branch n).supplyFailed := by
  have inputs : (warmRestart b s).branchInputs n = s.branchInputs n :=
    (branchInputs_of_branches (warmRestart_records b s).2 n).trans ((restartedRecords_inputs b s h).2 n)
  simpa [State.branchInputs, Branch.inputs] using inputs

theorem warmRestart_watch (b : Straps) (h : TablesSound s) (n : Nat) :
    Watch.Restarted (s.watch n) s.survey.clock ((warmRestart b s).watch n) := by
  obtain ⟨-, -, -, -, -, -, -, -, -, -, watches, -⟩ := fields_of_blocks (restartedAll_blocks b s)
  have begun : s.warmBlocks.watches = tabMap .cold (fun w => w.warm s.survey.clock) s.watches := by
    simp [State.warmBlocks, restartMinute, restartAccrual, restartSurvey, restartCarrier, countRestart]
  have read : ∀ k, (restartedAll b s).watch k = (s.watch k).warm s.survey.clock := fun k => by
    rw [State.watch, watches, begun]
    exact tabGet_tabMap (by rfl) h.watches k
  have polled := (survey_of_warm (restartedAll_blocks b s)).2.2
  rw [← warmRestart_grant] at polled
  exact watch_of_warm (restartedAll_reports b s h).1 read polled n

theorem warmRestart_survey (b : Straps) (s : State) :
    (warmRestart b s).techQ = ⟨[], none, 1⟩ ∧
    (warmRestart b s).survey = { s.survey with
      cursor := 1, stepDue := false, auditInFlight := none
      auditTimer := s.survey.clock + s.link.auditInterval * 1000 } := by
  obtain ⟨queue, survey, -⟩ := survey_of_warm (restartedAll_blocks b s)
  rw [warmRestart_grant]
  exact ⟨queue, survey⟩

theorem warmRestart_monitor (b : Straps) (s : State) :
    (warmRestart b s).monitor = { s.monitor with
      settling := s.monitor.enable, cursor := 1
      conversion := if s.monitor.enable then some ⟨1, s.monitor.resolution,
        s.now + (if s.monitor.resolution = .fine then 25 else 10), false⟩ else none } := by
  obtain ⟨-, -, -, -, -, monitor, -⟩ := fields_of_butCarrier (arbitrate_butCarrier (restartedAll b s))
  rw [warmRestart_grant, monitor, restartedAll_monitor]

theorem warmRestart_settings (b : Straps) (s : State) :
    (warmRestart b s).ident = { s.ident with restarts := restartAfter s.ident.restarts } ∧
    (warmRestart b s).link = s.link ∧ (warmRestart b s).revision = s.revision ∧
    (warmRestart b s).snapshot = s.snapshot ∧
    (warmRestart b s).billing = { s.billing with
      sweep := none, tickPending := false, closeWaiting := false, minuteTimer := s.now + 60000 } := by
  rw [warmRestart_grant]
  exact settings_of_warm (restartedAll_blocks b s) (arbitrate_butCarrier _)

theorem warmRestart_carrier (b : Straps) (s : State) :
    (warmRestart b s).arbiter.mode = s.arbiter.mode ∧ (warmRestart b s).engine.carrierOn = s.engine.carrierOn ∧
    (warmRestart b s).engine.returnOn = s.engine.returnOn ∧ (warmRestart b s).engine.buffer = [] ∧
    (warmRestart b s).engine.inFrame = false ∧ (warmRestart b s).engine.noiseCount = 0 ∧
    (warmRestart b s).engine.noiseActive = s.engine.noiseActive ∧
    (warmRestart b s).broadcast.wanted = s.broadcast.wanted ∧
    (warmRestart b s).broadcast.remaining = s.broadcast.remaining := by
  rw [warmRestart_grant]
  exact carrier_of_warm (restartedAll_blocks b s) (arbitrate_beneathGrant _)

/-- R174: the restart count goes from 65,535 to 0. -/
theorem restartAfter_eq (n : Nat) : restartAfter n = if n < 65535 then n + 1 else 0 := by
  unfold restartAfter
  split <;> split <;> omega

/-- R176: the restart line, with the store intact or lost. -/
theorem exec_restartLine (intact : Bool) (b : Straps) (s : State) :
    exec (.restartLine intact b) s = .next (if intact then warmRestart b s else coldStart b s) := rfl

/-! ### The obligation -/

/-- Settles O27, by what each block makes of its part at a start and what the blocks after it leave. -/
theorem restartsAreTaken : Obligations.RestartsAreTaken := by
  unfold Obligations.RestartsAreTaken
  intro s b pair reads
  have port : ∀ {K : Byte → Prop} {body : List Byte} {t : State},
      (∀ p, Port.Restarted K (strapsOf b p) (s.port p).sent body (t.port p)) →
      ∀ p, reads (t.port p) (pair p) ∧ (t.port p).rx = .hunting ∧ (t.port p).byteTimer = none ∧
        (t.port p).inQ = [] ∧ (t.port p).inProgress = none ∧ (t.port p).sent = (s.port p).sent ∧
        ∃ rest, (t.port p).outQ = ⟨166, 0, body⟩ :: rest ∧ (∀ x ∈ rest, x.tag = 0 ∧ K x.kind) ∧
          rest.length ≤ 14 ∧ ((t.port p).missed = true → rest.length = 14) :=
    fun h p => by cases p <;> exact h _
  refine ⟨fun m hask hbody => exec_restart hask hbody,
    (exec_restartLine true b s).trans (congrArg Host.Outcome.next (if_pos rfl)),
    (exec_restartLine false b s).trans (congrArg Host.Outcome.next (if_neg Bool.false_ne_true)), ?_, ?_⟩
  · obtain ⟨ident, link, revision, snapshot, billing⟩ := warmRestart_settings b s
    obtain ⟨mode, carrierOn, returnOn, buffer, inFrame, noiseCount, noiseActive, wanted, remaining⟩ :=
      warmRestart_carrier b s
    obtain ⟨queue, survey⟩ := warmRestart_survey b s
    have restarts : (warmRestart b s).ident.restarts =
        if s.ident.restarts < 65535 then s.ident.restarts + 1 else 0 := by
      rw [ident, ← restartAfter_eq]
    refine ⟨restarts, by rw [ident], link, revision, snapshot, mode, carrierOn, returnOn, buffer, inFrame, noiseCount,
      noiseActive, queue, wanted, remaining, warmRestart_monitor b s, billing, warmRestart_events b, fun hs => ?_,
      fun q hq => warmRestart_sent b hq, port (K := StartNotice) ?_⟩
    · obtain ⟨warm, -, unjudged⟩ := warmRestart_slots b hs
      have inRange : ∀ {n}, 1 ≤ n → n ≤ 40 → wfSlot n = true := fun h1 h40 => by simp [wfSlot, h1, h40]
      exact ⟨fun n => fields_of_warmed (warm n), fun n h1 h40 => unjudged n (inRange h1 h40),
        fun n h1 h40 => warmRestart_sponsors b hs (inRange h1 h40), warmRestart_branch b hs, survey,
        warmRestart_watch b hs, (warmRestart_reports b s hs).2⟩
    · rw [restarts, ← restartAfter_eq]
      exact warmRestart_ports b s
  · have tables := coldStart_butAlarms b s
    obtain ⟨sources, slots, subs, taps, syncSet, watches, branches, tierCount, branchEpisodes, tierEpisodes, events,
      snapshot⟩ := tables_of_cold tables
    obtain ⟨revision, engine, link, wanted, remaining, arbiter, techQ, survey, monitor, ident, clock, cycle, m, tc, rates,
      sweep⟩ := settings_of_cold tables
    exact ⟨sources, slots, subs, taps, syncSet, watches, branches, tierCount, branchEpisodes, tierEpisodes, events,
      snapshot, revision, engine, link, wanted, remaining, arbiter, techQ, survey, monitor, ident, clock, cycle, m, tc,
      rates, sweep, coldStart_monitorOff b s, fun q hq => coldStart_sent b hq, port (coldStart_ports b s)⟩

end Restarts

end Sys2Proof.Machine


namespace Sys2Proof.Machine

/-! ## The supply lines and the power mode (R19, R20) -/

section Supply
variable {s t u : State}

/-! ### Notices behind notices -/

/-- What is told after an act that has only told the masters something is told after the state before that act. -/
theorem Noticed.of_told {K : Byte → Prop} {p : Master} {k : Byte} {l : List (List Byte)} (h : Told K s u)
    (h' : Noticed u t p k l) : Noticed s t p k l := by
  obtain ⟨-, ⟨rest, queue, -⟩, -, -⟩ := h p
  refine h'.imp_left fun told => List.Sublist.trans ?_ told
  rw [queue]
  exact (List.sublist_append_left _ _).append (.refl _)

theorem noticeTo_noticed {a : MasterSet} {p : Master} (h : a.has p = true) (k : Byte) (b : List Byte) (s : State) :
    Noticed s (noticeTo a k b s) p k [b] := by
  rw [Noticed, noticeTo_port, if_pos h]
  exact putNotice_noticed p k b s

theorem postPower_told (f : AlarmKind → Nat → State → State) (hf : ∀ k o u, Told StartNotice u (f k o u))
    (m : PowerMode) (s : State) : Told StartNotice s (postPower f m s) := by
  unfold postPower
  split
  · exact hf _ _ s
  · exact .refl s

/-- R20, R173: all three masters are told the new mode and the one it replaced. -/
theorem announceMode_noticed (old new : PowerMode) (p : Master) (s : State) :
    Noticed s (announceMode old new s) p 165 [u8 new.code ++ u8 old.code] :=
  .of_told ((postPower_told _ endAlarm_told old s).trans (postPower_told _ raiseAlarm_told new _))
    (noticeTo_noticed (by cases p <;> rfl) 165 _ _)

/-! ### The mode -/

/-- R20: the mode is written. -/
def State.withMode (s : State) (m : PowerMode) : State := { s with power := { s.power with mode := m } }

/-- R20: a mode is taken and every slot's aim is recomputed for it. -/
def retune (m : PowerMode) (s : State) : State :=
  forEach slotNumbers (fun n u => decideTiers (recomputeAim n u)) (s.withMode m)

theorem retune_butSlots (m : PowerMode) (s : State) : (retune m s).butSlots = (s.withMode m).butSlots :=
  forEach_frame State.butSlots slotNumbers _ (fun n u => by simp) _

theorem retune_told (m : PowerMode) (s : State) : Told StartNotice s (retune m s) :=
  (Told.of_ports (by rfl)).trans
    (forEach_told slotNumbers (fun n u => (recomputeAim_told n u).trans (decideTiers_told _)) (s.withMode m))

/-- R20: the mode that the qualified states give. -/
def State.givenMode (s : State) : PowerMode := powerModeOf s.power.mainsQ s.power.reserveQ

theorem decideMode_same (h : s.givenMode = s.power.mode) : decideMode s = s := if_pos h

theorem decideMode_changed (h : s.givenMode ≠ s.power.mode) :
    decideMode s = announceMode s.power.mode s.givenMode (retune s.givenMode s) := if_neg h

/-- R20: the mode is decided by an act on the head end's slots. -/
theorem decideMode_butSlots (s : State) : (decideMode s).butSlots = (s.withMode s.givenMode).butSlots := by
  by_cases h : s.givenMode = s.power.mode
  · rw [decideMode_same h, h]; rfl
  · rw [decideMode_changed h]
    exact (butSlots_of_butAlarms (announceMode_butAlarms _ _ _)).trans (retune_butSlots _ s)

theorem decideMode_power (s : State) : (decideMode s).power = { s.power with mode := s.givenMode } :=
  power_of_butSlots (decideMode_butSlots s)

theorem decideMode_noticed (h : s.givenMode ≠ s.power.mode) (p : Master) :
    Noticed s (decideMode s) p 165 [u8 s.givenMode.code ++ u8 s.power.mode.code] := by
  rw [decideMode_changed h]
  exact .of_told (retune_told _ s) (announceMode_noticed _ _ p _)

/-! ### The expiry of a qualification timer -/

/-- R19: the state of the part at the expiry at `w` of a timer that leaves the supply's qualified states as in `q`. -/
def State.qualified (s : State) (w : Nat) (q : Power) : State := { passTime (w - s.now) s with power := q }

/-- R20: what the mode's decision makes of the part when a line has been qualified: the mode that the qualified states
give, and either nothing else or the notice of the change. -/
theorem decideMode_qualified (s : State) (w : Nat) {q : Power} (hq : q.mode = s.power.mode) :
    let t := decideMode (s.qualified w q)
    t.power = { q with mode := powerModeOf q.mainsQ q.reserveQ } ∧
      (t.power.mode = s.power.mode → t = { passTime (w - s.now) s with power := t.power }) ∧
      (t.power.mode ≠ s.power.mode → ∀ p, Noticed s t p 165 [u8 t.power.mode.code ++ u8 s.power.mode.code]) ∧
      t.subs = s.subs ∧ t.taps = s.taps ∧ t.engine = s.engine := by
  intro t
  have power : t.power = { q with mode := (s.qualified w q).givenMode } := decideMode_power _
  have frame := decideMode_butSlots (s.qualified w q)
  have told : Told StartNotice s (s.qualified w q) := .of_ports (passTime_ports s _)
  refine ⟨power, fun same => ?_, fun changed p => ?_, ?_, ?_, ?_⟩
  · rw [power, ← hq] at same
    have unmoved : t = s.qualified w q := decideMode_same same
    rw [unmoved]
    rfl
  · rw [power, ← hq] at changed ⊢
    exact .of_told told (decideMode_noticed changed p)
  · exact (subs_of_butSlots frame).trans (passTime_subs s _)
  · exact (taps_of_butSlots frame).trans (passTime_taps s _)
  · exact (engine_of_butSlots frame).trans (passTime_engine s _)

theorem exec_mainsExpiry {w : Nat} (h : s.power.mainsTimer = some w) :
    exec (.supplyQualificationExpiry .mainsGood) s = .next (decideMode
      (s.qualified w { s.power with mainsQ := s.power.mainsLine, mainsTimer := none })) := by
  show execSupplyQualificationExpiry .mainsGood s = _
  simp only [execSupplyQualificationExpiry, h, qualifyMains, advanceTo, passTime_power, State.qualified]

theorem exec_reserveExpiry {w : Nat} (h : s.power.reserveTimer = some w) :
    exec (.supplyQualificationExpiry .reserveLow) s = .next (decideMode
      (s.qualified w { s.power with reserveQ := s.power.reserveLine, reserveTimer := none })) := by
  show execSupplyQualificationExpiry .reserveLow s = _
  simp only [execSupplyQualificationExpiry, h, qualifyReserve, advanceTo, passTime_power, State.qualified]

/-- Settles O35, by what the mode's decision makes of a state whose line has been qualified. -/
theorem supplyLinesDecideTheMode : Obligations.SupplyLinesDecideTheMode := by
  unfold Obligations.SupplyLinesDecideTheMode
  intro s high w
  refine ⟨fun change => if_neg change, fun change => if_neg change, fun timer => ?_, fun timer => ?_⟩
  · exact ⟨_, exec_mainsExpiry timer, decideMode_qualified s w rfl⟩
  · exact ⟨_, exec_reserveExpiry timer, decideMode_qualified s w rfl⟩

end Supply

end Sys2Proof.Machine


namespace Sys2Proof.Machine

/-! ## A step of a ramp (R27, R28) -/

section RampStep
variable {s : State}

/-- R27: a step goes 5 toward the aim level, or the rest of the way. -/
theorem stepLevel_eq (l a : Nat) : stepLevel l a = if l < a then min a (l + 5) else max a (l - 5) := by
  unfold stepLevel
  (repeat' split) <;> omega

/-! ### The record of the slot -/

/-- R27: the record of a slot whose ramp goes on from the level it has reached. -/
def Slot.rampsOn (r : Slot) (now : Nat) : Slot :=
  { r with level := some r.nextLevel, stepTimer := some (now + 10 * r.period) }

/-- R27: the record of a slot that has reached its aim level. -/
def Slot.arrived (r : Slot) : Slot := { r with level := some r.nextLevel, ramp := .steady, stepTimer := none }

/-- R28: the record of a slot that goes OFF. -/
def Slot.turnedOff (r : Slot) : Slot :=
  { r with carrierOn := false, level := none, ramp := .steady, stepTimer := none }

/-- R27, R28: the record after a step of its ramp. -/
def Slot.stepped (r : Slot) (now : Nat) (enable : Bool) : Slot :=
  if r.nextLevel = r.aimLevel then
    if r.aim = .off then r.turnedOff.rejudged enable else r.arrived
  else r.rampsOn now

/-- R27, R32: the new level of slot `n` is sent to the modulator bank where it changed. -/
def Slot.levelMessages (r : Slot) (n : Nat) : List ModulatorMsg :=
  if r.nextLevel = r.level.getD 0 then [] else [⟨n, some r.nextLevel⟩]

/-- R27, R28, R32: what a step of the ramp of slot `n` sends to the modulator bank. -/
def Slot.stepMessages (r : Slot) (n : Nat) : List ModulatorMsg :=
  if r.nextLevel = r.aimLevel ∧ r.aim = .off then [⟨n, none⟩] else r.levelMessages n

section Record
variable {r : Slot} (now : Nat) (enable : Bool)

theorem Slot.stepped_onward (h : r.nextLevel ≠ r.aimLevel) : r.stepped now enable = r.rampsOn now := if_neg h

theorem Slot.stepped_arrived (h : r.nextLevel = r.aimLevel) (ha : r.aim ≠ .off) :
    r.stepped now enable = r.arrived := (if_pos h).trans (if_neg ha)

theorem Slot.stepped_off (h : r.nextLevel = r.aimLevel) (ha : r.aim = .off) :
    r.stepped now enable = r.turnedOff.rejudged enable := (if_pos h).trans (if_pos ha)

/-- R28: a slot that goes OFF keeps its settings and its decisions. -/
theorem Slot.rejudged_turnedOff (r : Slot) :
    let v := r.turnedOff.rejudged enable
    v.carrierOn = false ∧ v.level = none ∧ v.ramp = .steady ∧ v.stepTimer = none ∧ v.target = r.target ∧
      v.aim = r.aim ∧ v.owed = r.owed := by
  cases enable <;> exact ⟨rfl, rfl, rfl, rfl, rfl, rfl, rfl⟩

end Record

/-! ### The act -/

/-- R27, R32: the record `v` is written and its slot's new level is sent, where it changed. -/
def moveSlot (n : Nat) (v : Slot) (s : State) : State :=
  sendIfMoved n ((s.slot n).level.getD 0) (s.slot n).nextLevel (s.setSlot n v)

theorem takeStep_onward {n : Nat} (h : (s.slot n).nextLevel ≠ (s.slot n).aimLevel) :
    takeStep n s = moveSlot n ((s.slot n).rampsOn s.now) s := if_neg h

theorem takeStep_arrived {n : Nat} (h : (s.slot n).nextLevel = (s.slot n).aimLevel) (ha : (s.slot n).aim ≠ .off) :
    takeStep n s = rampPosted n false (moveSlot n (s.slot n).arrived s) := (if_pos h).trans (if_neg ha)

theorem takeStep_off {n : Nat} (h : (s.slot n).nextLevel = (s.slot n).aimLevel) (ha : (s.slot n).aim = .off) :
    takeStep n s = turnOff n s := (if_pos h).trans (if_pos ha)

theorem moveSlot_slot (h : TablesSound s) (n k : Nat) (v : Slot) :
    (moveSlot n v s).slot k = if k = n then v else s.slot k := by
  rw [← slot_setSlot h.slots n k v]
  unfold moveSlot sendIfMoved
  split <;> rfl

theorem moveSlot_out (n : Nat) (v : Slot) (s : State) :
    (moveSlot n v s).out = { s.out with modulator := s.out.modulator ++ (s.slot n).levelMessages n } := by
  unfold moveSlot sendIfMoved Slot.levelMessages
  split
  · rw [List.append_nil]; rfl
  · rfl

theorem turnOff_slot (h : TablesSound s) (n k : Nat) :
    (turnOff n s).slot k = if k = n then (s.slot n).turnedOff.rejudged s.monitor.enable else s.slot k := by
  have tables : TablesSound (sendModulator n none (s.setSlot n (s.slot n).turnedOff)) := h.setSlot n _
  have written : ∀ k, (sendModulator n none (s.setSlot n (s.slot n).turnedOff)).slot k =
      if k = n then (s.slot n).turnedOff else s.slot k := fun k => slot_setSlot h.slots n k _
  refine (decideTiers_slot _ k).trans ((rampPosted_slot tables n true k).trans ?_)
  rw [written, written, if_pos rfl]
  split <;> rfl

theorem turnOff_out (n : Nat) (s : State) :
    (turnOff n s).out = { s.out with modulator := s.out.modulator ++ [⟨n, none⟩] } :=
  (decideTiers_out _).trans (rampPosted_out n true _)

theorem takeStep_slot (h : TablesSound s) (n k : Nat) :
    (takeStep n s).slot k = if k = n then (s.slot n).stepped s.now s.monitor.enable else s.slot k := by
  by_cases haim : (s.slot n).nextLevel = (s.slot n).aimLevel
  · by_cases hoff : (s.slot n).aim = .off
    · rw [takeStep_off haim hoff, Slot.stepped_off _ _ haim hoff, turnOff_slot h]
    · rw [takeStep_arrived haim hoff, Slot.stepped_arrived _ _ haim hoff]
      exact (disturb_slot n k _).trans (moveSlot_slot h n k _)
  · rw [takeStep_onward haim, Slot.stepped_onward _ _ haim, moveSlot_slot h]

theorem takeStep_out (n : Nat) (s : State) :
    (takeStep n s).out = { s.out with modulator := s.out.modulator ++ (s.slot n).stepMessages n } := by
  unfold Slot.stepMessages
  by_cases haim : (s.slot n).nextLevel = (s.slot n).aimLevel
  · by_cases hoff : (s.slot n).aim = .off
    · rw [takeStep_off haim hoff, turnOff_out, if_pos ⟨haim, hoff⟩]
    · rw [takeStep_arrived haim hoff, rampPosted_out, moveSlot_out, if_neg fun h => hoff h.2]
  · rw [takeStep_onward haim, moveSlot_out, if_neg fun h => haim h.1]

/-- Settles O36, by what a step makes of the slot's record and sends. -/
theorem rampStepMovesTheLevel : Obligations.RampStepMovesTheLevel := by
  unfold Obligations.RampStepMovesTheLevel
  intro s n w l h1 h40 htimer hlevel hs r next
  have hnext : next = r.nextLevel := by rw [Slot.nextLevel, hlevel, stepLevel_eq]; rfl
  have tables : TablesSound (advanceTo w s) := (passTime_kept _ s).tables hs
  have slot : ∀ k, (advanceTo w s).slot k = s.slot k := fun k => by simp [State.slot, advanceTo]
  have frame := takeStep_butSlots n (advanceTo w s)
  have now : (takeStep n (advanceTo w s)).now = max s.now w := (now_of_butSlots frame).trans (advanceTo_now w s)
  have record : (takeStep n (advanceTo w s)).slot n = r.stepped (max s.now w) (advanceTo w s).monitor.enable := by
    rw [takeStep_slot tables, if_pos rfl, slot, advanceTo_now]
  rw [hnext]
  refine ⟨takeStep n (advanceTo w s), ?_, now, fun haim => ?_, fun haim hon => ?_, fun haim hoff => ?_,
    fun k hk => ?_, ?_, frame⟩
  · show execStepTimerExpiry n s = _
    simp only [execStepTimerExpiry, wfSlot, h1, h40, and_self, decide_true, if_true, htimer]
  · rw [record, Slot.stepped_onward _ _ haim]; rfl
  · rw [record, Slot.stepped_arrived _ _ haim hon]; rfl
  · rw [record, Slot.stepped_off _ _ haim hoff]
    exact Slot.rejudged_turnedOff _ r
  · rw [takeStep_slot tables, if_neg hk, slot]
  · rw [takeStep_out, slot, advanceTo, passTime_out, Slot.stepMessages, Slot.levelMessages, hlevel]
    rfl

end RampStep

end Sys2Proof.Machine


namespace Sys2Proof.Machine

/-! ## The state right after reset (R176)

Every table is empty there, so that a read of any record computes to the cold one, and the invariants of the records are
facts of those; the alarm list alone holds a record, that of the monitor, which is off. -/

@[simp] theorem reset_heldCount (t : Nat) : State.reset.heldCount t = 0 := rfl
@[simp] theorem reset_slotImpaired (n : Nat) : State.reset.slotImpaired n = false := rfl
@[simp] theorem reset_event (n : Nat) : State.reset.event n = .cold := rfl

/-! ### The head end -/

theorem reset_slotsSound : SlotsSound .reset := fun _ => slotSound_cold

theorem reset_decidedSound : DecidedSound .reset := fun _ _ => ⟨rfl, rfl, rfl, rfl⟩

theorem reset_tierCountsSound : TierCountsSound .reset := fun t _ => by simp [State.impairedIn]

/-! ### The alarm list -/

/-- R110, R138: the only condition that holds is that the monitor is off. -/
theorem reset_conditionTrue (k : AlarmKind) (o : Nat) :
    State.reset.conditionTrue k o = decide (k = .monitorOff) := by
  cases k <;> rfl

theorem reset_alarm (k : AlarmKind) (o : Nat) :
    State.reset.alarm k o = if k = .monitorOff ∧ o = 0 then State.reset.alarms.records.head? else none := by
  by_cases h : k = .monitorOff ∧ o = 0
  · obtain ⟨rfl, rfl⟩ := h
    rfl
  · rw [if_neg h]
    refine List.find?_eq_none.2 fun r hr => ?_
    obtain rfl : r = _ := List.mem_singleton.1 hr
    rw [Bool.and_eq_true, decide_eq_true_eq, decide_eq_true_eq]
    exact fun ⟨sameKind, sameObject⟩ => h ⟨sameKind.symm, sameObject.symm⟩

theorem reset_alarmsSound : AlarmsSound .reset := by
  refine ⟨by decide, by decide, by decide, by decide, fun r hr => ?_⟩
  obtain rfl : r = _ := List.mem_singleton.1 hr
  exact ⟨by decide, fun p => by cases p <;> decide, by decide⟩

theorem reset_conditionsSound : ConditionsSound .reset := by
  intro k o ho
  rw [reset_conditionTrue, reset_alarm]
  by_cases h : k = .monitorOff
  · subst k
    obtain rfl : o = 0 := List.mem_singleton.1 ho
    exact ⟨fun _ => .inl ⟨_, rfl, rfl⟩, fun closed => absurd closed (by decide)⟩
  · simp [h]

/-! ### The taps and the plant -/

theorem reset_syncSound : SyncSound .reset :=
  ⟨.nil, fun _ => ⟨fun h => (by cases h), fun h => (by cases h)⟩, fun _ h => (by cases h), fun _ _ => rfl⟩

theorem reset_stepsSound : StepsSound .reset := fun _ h => by cases h

theorem reset_engineSound : EngineSound .reset :=
  ⟨by decide, by decide, by decide, by decide, fun _ h => (by cases h), by decide, fun _ => ⟨rfl, rfl⟩⟩

theorem reset_watchesSound : WatchesSound .reset := fun _ =>
  ⟨⟨fun _ => rfl, fun _ => rfl⟩, rfl, fun _ => rfl, ⟨fun h => (by cases h), fun h => (by cases h)⟩, rfl,
    fun h => (by cases h), fun _ => ⟨rfl, rfl⟩, fun _ watched => absurd rfl watched, fun h => (by cases h)⟩

theorem reset_branchesSound : BranchesSound .reset := fun _ => ⟨rfl, rfl, rfl⟩

theorem reset_branchCountsSound : BranchCountsSound .reset := fun _ => ⟨rfl, rfl⟩

theorem episodeSound_cold : EpisodeSound .cold false := ⟨rfl, fun h => (by cases h), fun _ => rfl⟩

theorem reset_episodesSound : EpisodesSound .reset := ⟨fun _ => episodeSound_cold, fun _ _ => episodeSound_cold⟩

/-! ### The records of the office -/

theorem reset_countersSound : CountersSound .reset :=
  ⟨by decide, fun h => (by cases h), fun _ => ⟨fun _ => rfl, rfl, fun _ => ⟨Nat.le_refl 0, Nat.le_refl 0, Nat.zero_le 240⟩⟩⟩

theorem reset_claimsSound : ClaimsSound .reset :=
  ⟨fun _ h => (by cases h), fun _ _ h => (by cases h)⟩

theorem reset_eventsSound : EventsSound .reset := by
  simp [EventsSound, Event.isLive, Event.cold]

theorem reset_purchasesSound : PurchasesSound .reset := 
  ⟨fun _ => ⟨Nat.zero_le 4, .nil, .nil, fun _ => rfl, fun _ h => (by cases h)⟩,
    fun _ => ⟨rfl, Nat.le_refl 0, fun _ => rfl, fun _ => rfl⟩, fun _ _ h => (by cases h)⟩

/-! ### The ports, the arbiter and the settings -/

theorem reset_portsSound : PortsSound .reset := fun p => by cases p <;> exact ⟨by decide, by decide, by decide⟩

theorem reset_arbiterRests : ArbiterRests .reset := fun _ h => by cases h

/-- Settles O60, by each invariant's own fact of the reset state. -/
theorem resetMeetsEveryInvariant : Obligations.ResetMeetsEveryInvariant :=
  ⟨.refl _, reset_arbiterRests, by unfold SettingsSound; decide, reset_portsSound, by unfold TablesSound; decide,
    reset_slotsSound, reset_decidedSound, reset_tierCountsSound, reset_alarmsSound, reset_conditionsSound,
    reset_engineSound, reset_syncSound, reset_stepsSound, reset_watchesSound, reset_branchesSound,
    reset_branchCountsSound, reset_episodesSound, reset_countersSound, reset_claimsSound, reset_eventsSound,
    reset_purchasesSound⟩

end Sys2Proof.Machine


namespace Sys2Proof.Machine

/-! ## Taps, records and what they ask

What a tap's record reads after each operation of the port synchroniser, and what the desired masks are made from. -/

section Sorted
variable {α : Type} [DecidableEq α] {d : α}

/-- The numbers that a test picks from a canonical table rise. -/
theorem tabWhere_sorted {t : Table α} (h : tabWf d t = true) (f : Nat → α → Bool) :
    (tabWhere f t).Pairwise (· < ·) := by
  have rising : (t.map Prod.fst).Pairwise (· < ·) := by
    induction t with
    | nil => exact .nil
    | cons e t ih =>
      exact .cons (fun k hk => by obtain ⟨x, hx, rfl⟩ := List.mem_map.1 hk; exact tabWf_above h x hx)
        (ih (tabWf_tail h))
  exact rising.sublist (List.filter_sublist.map Prod.fst)

/-- The first number of a rising list is its least. -/
theorem head_sorted {l : List Nat} (sorted : l.Pairwise (· < ·)) {n : Nat} :
    l.head? = some n ↔ n ∈ l ∧ ∀ k ∈ l, n ≤ k := by
  cases l with
  | nil => simp
  | cons a l =>
    have least : ∀ k ∈ a :: l, a ≤ k := fun k hk => by
      rcases List.mem_cons.1 hk with rfl | hk
      · exact le_rfl
      · exact (List.rel_of_pairwise_cons sorted hk).le
    constructor
    · intro hn
      obtain rfl : a = n := by simpa using hn
      exact ⟨List.mem_cons_self, least⟩
    · rintro ⟨hn, hle⟩
      have : a = n := le_antisymm (least n hn) (hle a List.mem_cons_self)
      simp [this]

/-- The first number picked is the least that passes the test. -/
theorem head_tabWhere {t : Table α} (h : tabWf d t = true) {f : Nat → α → Bool} {n : Nat} :
    (tabWhere f t).head? = some n ↔ n ∈ tabWhere f t ∧ ∀ k ∈ tabWhere f t, n ≤ k :=
  head_sorted (tabWhere_sorted h f)

end Sorted

section Claims
variable {s t : State}

/-- The record is ACTIVE and names tap `k`. -/
def Subscriber.names (r : Subscriber) (k : Nat) : Prop := r.status = .active ∧ r.tap = some k

/-- What an ACTIVE record asks for: its tap and port, its W and its lock. Another asks nothing. -/
def Subscriber.claim (r : Subscriber) : Subscriber :=
  if r.status = .active then
    { Subscriber.cold with status := .active, tap := r.tap, port := r.port, w := r.w, locked := r.locked }
  else .cold

theorem Subscriber.claim_active {r : Subscriber} (h : r.status = .active) : r.claim =
    { Subscriber.cold with status := .active, tap := r.tap, port := r.port, w := r.w, locked := r.locked } := if_pos h

theorem Subscriber.claim_inactive {r : Subscriber} (h : r.status ≠ .active) : r.claim = .cold := if_neg h

/-- Two records ask the same exactly where both are ACTIVE and agree, or neither is. -/
theorem Subscriber.claim_eq {r v : Subscriber} (h : v.claim = r.claim) :
    (v.status = .active ↔ r.status = .active) ∧
    (r.status = .active → v.tap = r.tap ∧ v.port = r.port ∧ v.w = r.w ∧ v.locked = r.locked) := by
  by_cases hv : v.status = .active <;> by_cases hr : r.status = .active <;>
    simp [claim, hv, hr, Subscriber.cold] at h ⊢
  exact h

theorem Subscriber.names_of_claim {r v : Subscriber} (h : v.claim = r.claim) (k : Nat) : v.names k ↔ r.names k := by
  obtain ⟨status, fields⟩ := claim_eq h
  unfold names
  rw [status]
  exact and_congr_right fun hr => by rw [(fields hr).1]

/-- What record `n` asks for. -/
def State.claim (s : State) (n : Nat) : Subscriber := (s.sub n).claim

/-- The numbers that claim port `p` of tap `k` are those of the records that name both. -/
theorem mem_claimants (h : tabWf .cold s.subs = true) {k p n : Nat} :
    n ∈ tabWhere (fun _ r => decide (r.status = .active) && decide (r.tap = some k) && decide (r.port = some p)) s.subs
      ↔ (s.sub n).names k ∧ (s.sub n).port = some p := by
  rw [mem_tabWhere h]
  refine ⟨fun hn => by simpa [Subscriber.names, State.sub, and_assoc] using hn.2, fun hn => ⟨fun hcold => ?_, ?_⟩⟩
  · have free : (s.sub n).status = .free := congrArg Subscriber.status hcold
    exact absurd (free.symm.trans hn.1.1) (by decide)
  · simpa [Subscriber.names, State.sub, and_assoc] using hn

/-- R38: the claimant of a port is the first ACTIVE record that names it. -/
theorem claimant_eq_some (h : tabWf .cold s.subs = true) {k p n : Nat} : s.claimant k p = some n ↔
    ((s.sub n).names k ∧ (s.sub n).port = some p) ∧
      ∀ j, (s.sub j).names k → (s.sub j).port = some p → n ≤ j := by
  unfold State.claimant
  rw [head_tabWhere h, mem_claimants h]
  exact and_congr_right fun _ => ⟨fun hle j hk hp => hle j ((mem_claimants h).2 ⟨hk, hp⟩),
    fun hle j hj => hle j ((mem_claimants h).1 hj).1 ((mem_claimants h).1 hj).2⟩

theorem claimant_eq_none (h : tabWf .cold s.subs = true) {k p : Nat} :
    s.claimant k p = none ↔ ∀ n, (s.sub n).names k → (s.sub n).port ≠ some p := by
  unfold State.claimant
  rw [List.head?_eq_none_iff, List.eq_nil_iff_forall_not_mem]
  simp only [mem_claimants h, not_and, ne_eq]

/-- A claimant is ACTIVE and names the tap. -/
theorem claimant_names (h : tabWf .cold s.subs = true) {k p n : Nat} (hn : s.claimant k p = some n) :
    (s.sub n).names k := ((claimant_eq_some h).1 hn).1.1

/-- Where the records that name a tap ask the same, its ports have the same claimants. -/
theorem claimant_congr (hs : tabWf .cold s.subs = true) (ht : tabWf .cold t.subs = true) {k : Nat}
    (h : ∀ n, (s.sub n).names k ∨ (t.sub n).names k → t.claim n = s.claim n) (p : Nat) :
    t.claimant k p = s.claimant k p := by
  have same : ∀ n, ((t.sub n).names k ∧ (t.sub n).port = some p) ↔ ((s.sub n).names k ∧ (s.sub n).port = some p) := by
    intro n
    by_cases hn : (s.sub n).names k ∨ (t.sub n).names k
    · have names := Subscriber.names_of_claim (h n hn) k
      rw [names]
      exact and_congr_right fun hr => by rw [((Subscriber.claim_eq (h n hn)).2 hr.1).2.1]
    · rw [not_or] at hn
      simp [hn.1, hn.2]
  refine Option.ext fun n => ?_
  rw [claimant_eq_some hs, claimant_eq_some ht, same]
  exact and_congr_right fun _ => forall_congr' fun j => by
    rw [← and_imp, ← and_imp, same]

/-- R38: a port's desired mask is what the records that name its tap ask, and whether they hold a purchase of the
SHOWING event. -/
theorem desiredMask_congr (hs : tabWf .cold s.subs = true) (ht : tabWf .cold t.subs = true) {k : Nat}
    (h : ∀ n, (s.sub n).names k ∨ (t.sub n).names k →
      t.claim n = s.claim n ∧ t.holdsShowing (t.sub n) = s.holdsShowing (s.sub n)) (p : Nat) :
    t.desiredMask k p = s.desiredMask k p := by
  unfold State.desiredMask
  rw [claimant_congr hs ht (fun n hn => (h n hn).1)]
  split
  · rename_i n hn
    have names := claimant_names hs hn
    obtain ⟨claim, holds⟩ := h n (.inl names)
    obtain ⟨-, -, w, locked⟩ := (Subscriber.claim_eq claim).2 names.1
    rw [State.wantedMask, State.wantedMask, holds, w, locked]
  · rfl

/-- Whether a record holds a purchase of the SHOWING event, by the events it has bought. -/
theorem holdsShowing_eq (s : State) (r : Subscriber) : s.holdsShowing r =
    (r.purchases.map Purchase.event).any fun e => decide ((s.event e).state = .showing) := by
  simp [State.holdsShowing, List.any_map, Function.comp_def]

/-- The numbers of the records that have bought event `e`. -/
theorem mem_buyersOf (h : tabWf .cold s.subs = true) {e n : Nat} :
    n ∈ s.buyersOf e ↔ e ∈ (s.sub n).purchases.map Purchase.event := by
  unfold State.buyersOf
  rw [mem_tabWhere h]
  refine ⟨fun hn => by simpa [State.sub] using hn.2, fun hn => ⟨fun hcold => ?_, by simpa [State.sub] using hn⟩⟩
  rw [show (s.sub n).purchases = [] from congrArg Subscriber.purchases hcold] at hn
  simp at hn

end Claims

end Sys2Proof.Machine


namespace Sys2Proof.Machine

/-! ## The port synchroniser's operations on a tap (R47, R49, R51) -/

section Taps
variable {s t : State}

theorem syncSet_of_butAlarms (h : t.butAlarms = s.butAlarms) : t.syncSet = s.syncSet :=
  show t.butAlarms.syncSet = _ from h ▸ rfl

theorem setSync_syncSet (n : Nat) (v : SyncStatus) (s : State) : (setSync n v s).syncSet = s.syncSet :=
  (syncSet_of_butAlarms (postChange_butAlarms _ _ _ _ _)).trans rfl

theorem setSync_tap (h : TablesSound s) (n : Nat) (v : SyncStatus) (k : Nat) :
    (setSync n v s).tap k = if k = n then { s.tap n with sync := v } else s.tap k := by
  have taps : (setSync n v s).taps = (s.setTap n { s.tap n with sync := v }).taps :=
    taps_of_butAlarms (postChange_butAlarms _ _ _ _ _)
  rw [State.tap, taps]
  exact tap_setTap h.taps n k _

theorem enterSync_tap (h : TablesSound s) (n k : Nat) :
    (enterSync n s).tap k = if k = n then { s.tap n with sync := .queued } else s.tap k :=
  setSync_tap (s := { s with syncSet := s.syncSet ++ [n] }) h n .queued k

theorem leaveSync_tap (h : TablesSound s) (n k : Nat) :
    (leaveSync n s).tap k = if k = n then { s.tap n with sync := .inStep } else s.tap k :=
  setSync_tap (s := { s with syncSet := s.syncSet.erase n }) h n .inStep k

theorem enterSync_syncSet (n : Nat) (s : State) : (enterSync n s).syncSet = s.syncSet ++ [n] := setSync_syncSet _ _ _
theorem leaveSync_syncSet (n : Nat) (s : State) : (leaveSync n s).syncSet = s.syncSet.erase n := setSync_syncSet _ _ _
theorem enterSync_butSync (n : Nat) (s : State) : (enterSync n s).butSync = s.butSync := (setSync_butSync _ _ _).trans rfl
theorem leaveSync_butSync (n : Nat) (s : State) : (leaveSync n s).butSync = s.butSync := (setSync_butSync _ _ _).trans rfl

/-- R47: the sync status that the entry test gives a tap. -/
def State.testedSync (s : State) (n : Nat) : SyncStatus :=
  if (s.tap n).installed then
    match (s.tap n).sync with
    | .inStep => if s.outOfStepReported n then .queued else .inStep
    | .queued => if s.outOfStepReported n then .queued else .inStep
    | .inFlight => .inFlight
    | .failed => .failed
    | .mismatch => if s.outOfStepSent n then .queued else .mismatch
  else (s.tap n).sync

/-- R47: what the entry test does: the tap stays as it is, or enters the set, or leaves it. -/
theorem entryTest_cases (n : Nat) (s : State) :
    (entryTest n s = s ∧ s.testedSync n = (s.tap n).sync) ∨
    (entryTest n s = enterSync n s ∧ s.testedSync n = .queued ∧ (s.tap n).installed = true ∧
      (s.tap n).sync ≠ .queued) ∨
    (entryTest n s = leaveSync n s ∧ s.testedSync n = .inStep ∧ (s.tap n).installed = true ∧
      (s.tap n).sync = .queued) := by
  unfold entryTest State.testedSync
  cases hi : (s.tap n).installed
  · exact .inl (by simp [hi])
  · cases hv : (s.tap n).sync
    case inFlight | failed => exact .inl (by simp [hi, hv])
    case inStep =>
      cases s.outOfStepReported n
      · exact .inl (by simp [hi, hv])
      · exact .inr (.inl (by simp [hi, hv]))
    case queued =>
      cases s.outOfStepReported n
      · exact .inr (.inr (by simp [hi, hv]))
      · exact .inl (by simp [hi, hv])
    case mismatch =>
      cases s.outOfStepSent n
      · exact .inl (by simp [hi, hv])
      · exact .inr (.inl (by simp [hi, hv]))

theorem entryTest_tap (h : TablesSound s) (n k : Nat) :
    (entryTest n s).tap k = if k = n then { s.tap n with sync := s.testedSync n } else s.tap k := by
  rcases entryTest_cases n s with ⟨same, status⟩ | ⟨enters, status, -⟩ | ⟨leaves, status, -⟩
  · rw [same, status]
    split
    · subst k; rfl
    · rfl
  · rw [enters, status]; exact enterSync_tap h n k
  · rw [leaves, status]; exact leaveSync_tap h n k

/-! ### Whether a tap stands as its test says -/

/-- R47, R48: tap `k`, where it is installed and IN_STEP, is not out of step by what it reports, nor, where it is MISMATCH, by
what was last sent to it. -/
def TapStands (s : State) (k : Nat) : Prop :=
  (s.tap k).installed = true →
    ((s.tap k).sync = .inStep → s.outOfStepReported k = false) ∧
    ((s.tap k).sync = .mismatch → s.outOfStepSent k = false)

theorem StepsSound.stands (h : StepsSound s) (k : Nat) : TapStands s k := h k
theorem StepsSound.of_stands (h : ∀ k, TapStands s k) : StepsSound s := h

/-- What is desired of tap `k` has not changed. -/
def SameDesire (s t : State) (k : Nat) : Prop := t.revision = s.revision ∧ ∀ p, t.desiredMask k p = s.desiredMask k p

theorem SameDesire.refl (s : State) (k : Nat) : SameDesire s s k := ⟨rfl, fun _ => rfl⟩

theorem SameDesire.of_butSync (h : t.butSync = s.butSync) (k : Nat) : SameDesire s t k :=
  ⟨show t.butSync.revision = _ from h ▸ rfl, fun p => show t.butSync.desiredMask k p = _ from h ▸ rfl⟩

theorem SameDesire.masks {k : Nat} (h : SameDesire s t k) : t.desiredMasks k = s.desiredMasks k := by
  simp only [State.desiredMasks, Quad.of, h.2]

/-- What the entry test reads of a tap's record, but for the sync status. -/
def Tap.measured (r : Tap) : Tap := { r with branch := none, reach := .unknown, housingOpen := false, sync := .inStep }

theorem Tap.measured_eq {r v : Tap} (h : v.measured = r.measured) :
    v.installed = r.installed ∧ v.heldRev = r.heldRev ∧ v.reported = r.reported ∧ v.lastSent = r.lastSent :=
  ⟨show v.measured.installed = _ from h ▸ rfl, show v.measured.heldRev = _ from h ▸ rfl,
    show v.measured.reported = _ from h ▸ rfl, show v.measured.lastSent = _ from h ▸ rfl⟩

theorem outOfStepReported_congr {k : Nat} (hd : SameDesire s t k) (ht : (t.tap k).measured = (s.tap k).measured) :
    t.outOfStepReported k = s.outOfStepReported k := by
  obtain ⟨-, heldRev, reported, -⟩ := Tap.measured_eq ht
  simp only [State.outOfStepReported, hd.masks, hd.1, heldRev, reported]

theorem outOfStepSent_congr {k : Nat} (hd : SameDesire s t k) (ht : (t.tap k).measured = (s.tap k).measured) :
    t.outOfStepSent k = s.outOfStepSent k := by
  obtain ⟨-, -, -, lastSent⟩ := Tap.measured_eq ht
  simp only [State.outOfStepSent, hd.masks, hd.1, lastSent]

/-- A tap whose record and whose desire stand, stands. -/
theorem TapStands.congr {k : Nat} (h : TapStands s k) (hd : SameDesire s t k)
    (ht : (t.tap k).measured = (s.tap k).measured) (hv : (t.tap k).sync = (s.tap k).sync) : TapStands t k := by
  intro hi
  rw [(Tap.measured_eq ht).1] at hi
  rw [hv, outOfStepReported_congr hd ht, outOfStepSent_congr hd ht]
  exact h hi

theorem TapStands.of_tap {k : Nat} (h : TapStands s k) (hd : SameDesire s t k) (ht : t.tap k = s.tap k) : TapStands t k :=
  h.congr hd (by rw [ht]) (by rw [ht])

/-- A tap that waits, is in flight or has failed stands. -/
theorem TapStands.of_sync {k : Nat} (h : (s.tap k).sync ≠ .inStep) (h' : (s.tap k).sync ≠ .mismatch) : TapStands s k :=
  fun _ => ⟨fun hv => absurd hv h, fun hv => absurd hv h'⟩

theorem TapStands.of_removed {k : Nat} (h : (s.tap k).installed = false) : TapStands s k :=
  fun hi => absurd (h.symm.trans hi) (by decide)

/-- A status written to another tap. -/
theorem TapStands.setSync (hs : TablesSound s) {n k : Nat} (hk : k ≠ n) (v : SyncStatus) (h : TapStands s k) :
    TapStands (setSync n v s) k :=
  h.of_tap (.of_butSync (setSync_butSync n v s) k) (by rw [setSync_tap hs, if_neg hk])

theorem TapStands.enterSync (hs : TablesSound s) (n : Nat) {k : Nat} (h : k ≠ n → TapStands s k) :
    TapStands (enterSync n s) k := by
  by_cases hk : k = n
  · subst k
    exact .of_sync (by simp [enterSync_tap hs]) (by simp [enterSync_tap hs])
  · exact (h hk).of_tap (.of_butSync (enterSync_butSync n s) k) (by rw [enterSync_tap hs, if_neg hk])

/-- R47: the entry test leaves its own tap standing, and every other as it was. -/
theorem TapStands.entryTest (hs : TablesSound s) (n : Nat) {k : Nat} (h : k ≠ n → TapStands s k) :
    TapStands (entryTest n s) k := by
  have same : SameDesire s (Machine.entryTest n s) k := .of_butSync (entryTest_butSync n s) k
  by_cases hk : k = n
  · subst k
    have read : (Machine.entryTest n s).tap n = { s.tap n with sync := s.testedSync n } := by rw [entryTest_tap hs, if_pos rfl]
    have measured : ((Machine.entryTest n s).tap n).measured = (s.tap n).measured := by rw [read]; rfl
    intro hi
    rw [read] at hi
    rw [outOfStepReported_congr same measured, outOfStepSent_congr same measured, read]
    simp only [State.testedSync, if_pos hi]
    cases hv : (s.tap n).sync <;> cases hr : s.outOfStepReported n <;> cases hl : s.outOfStepSent n <;> simp
  · exact (h hk).of_tap same (by rw [entryTest_tap hs, if_neg hk])

theorem TapStands.entryTestOf (hs : TablesSound s) (o : Option Nat) {k : Nat} (h : o ≠ some k → TapStands s k) :
    TapStands (entryTestOf o s) k := by
  cases o with
  | none => exact h (by simp)
  | some n => exact .entryTest hs n fun hk => h fun he => hk (Option.some.inj he).symm

/-- R48: a run of entry tests leaves every tap it tests standing, and every other as it was. -/
theorem stepsSound_of_tests {g : Nat → State → Option Nat} (hg : ∀ n o u, g n (entryTestOf o u) = g n u)
    (l : List Nat) (s : State) (hs : TablesSound s) (h : ∀ k, (∃ n ∈ l, g n s = some k) ∨ TapStands s k) :
    StepsSound (forEach l (fun n u => entryTestOf (g n u) u) s) := by
  induction l generalizing s with
  | nil => exact fun k => (h k).resolve_left (by simp)
  | cons n l ih =>
    refine ih (entryTestOf (g n s) s) ((entryTestOf_kept _ s).tables hs) fun k => ?_
    rcases h k with ⟨m, hm, hk⟩ | hk
    · rcases List.mem_cons.1 hm with rfl | hm
      · exact .inr (.entryTestOf hs _ fun hne => absurd hk hne)
      · exact .inl ⟨m, hm, by rw [hg]; exact hk⟩
    · exact .inr (.entryTestOf hs _ fun _ => hk)

/-! ### A reply is taken in (R51) -/

theorem subs_of_butSync (h : t.butSync = s.butSync) : t.subs = s.subs := show t.butSync.subs = _ from h ▸ rfl

theorem taps_of_butBranches (h : t.butBranches = s.butBranches) : t.taps = s.taps := show t.butBranches.taps = _ from h ▸ rfl
theorem syncSet_of_butBranches (h : t.butBranches = s.butBranches) : t.syncSet = s.syncSet :=
  show t.butBranches.syncSet = _ from h ▸ rfl
theorem subs_of_butBranches (h : t.butBranches = s.butBranches) : t.subs = s.subs := show t.butBranches.subs = _ from h ▸ rfl

theorem postReachability_butBranches (n : Nat) (o : Reach) (s : State) :
    (postReachability n o s).butBranches = s.butBranches :=
  (butBranches_of_butAlarms (postChange_butAlarms _ _ _ _ _)).trans (postReach_butBranches _ _ _ _)

theorem setReach_butBranches (n : Nat) (v : Reach) (s : State) :
    (setReach n v s).butBranches = (s.setTap n { s.tap n with reach := v }).butBranches := postReachability_butBranches _ _ _

theorem setReach_tap (h : TablesSound s) (n : Nat) (v : Reach) (k : Nat) :
    (setReach n v s).tap k = if k = n then { s.tap n with reach := v } else s.tap k := by
  rw [State.tap, taps_of_butBranches (setReach_butBranches n v s)]
  exact tap_setTap h.taps n k _

/-- R51, items 1, 2 and 4: a tap's record with a tap status taken in. -/
def Tap.taken (r : Tap) (m : Quad TierSet) (rev : Nat) (housing : Bool) : Tap :=
  { r with reach := .reachable, heldRev := some rev, housingOpen := housing,
           reported := ⟨some m.p1, some m.p2, some m.p3, some m.p4⟩ }

/-- The state with a tap status written to its tap and to the records it serves, before the changes are posted. -/
def statusWritten (n : Nat) (m : Quad TierSet) (rev : Nat) (housing : Bool) (s : State) : State :=
  confirmTiers n m (s.setTap n ((s.tap n).taken m rev housing))

theorem takeStatus_butBranches (n : Nat) (m : Quad TierSet) (rev : Nat) (housing : Bool) (s : State) :
    (takeStatus n m rev housing s).butBranches = (statusWritten n m rev housing s).butBranches :=
  (butBranches_of_butAlarms (postChange_butAlarms _ _ _ _ _)).trans (postReachability_butBranches _ _ _)

/-- Every field but the subscriber records. -/
def State.butSubs (s : State) : State := { s with subs := [] }

theorem confirmTiers_butSubs (n : Nat) (m : Quad TierSet) (s : State) : (confirmTiers n m s).butSubs = s.butSubs := by
  unfold confirmTiers
  refine forEach_frame State.butSubs _ _ (fun _ _ => ?_) s
  rfl

/-- What a fold that writes each record of a list from what it read gives. -/
theorem forEach_setSub {f : Subscriber → Subscriber} (l : List Nat) (hl : l.Nodup) {s : State} (h : tabWf .cold s.subs = true)
    (k : Nat) : (forEach l (fun n u => u.setSub n (f (u.sub n))) s).sub k = if k ∈ l then f (s.sub k) else s.sub k := by
  induction l generalizing s with
  | nil => simp
  | cons n l ih =>
    obtain ⟨hn, hl⟩ := List.nodup_cons.1 hl
    rw [forEach_cons, ih hl (tabWf_tabPut n _ h)]
    simp only [sub_setSub h, List.mem_cons]
    by_cases hk : k = n
    · subst k; simp [hn]
    · simp [hk]

/-- R51, item 3: C of the records that a tap serves is what the tap says of their ports. -/
theorem confirmTiers_sub (h : tabWf .cold s.subs = true) (n : Nat) (m : Quad TierSet) (k : Nat) :
    (confirmTiers n m s).sub k =
      if (s.sub k).status = .active ∧ (s.sub k).tap = some n then { s.sub k with c := m.get ((s.sub k).port.getD 0) }
      else s.sub k := by
  have listed : k ∈ tabWhere (fun _ r => decide (r.status = .active) && decide (r.tap = some n)) s.subs ↔
      (s.sub k).status = .active ∧ (s.sub k).tap = some n := by
    rw [mem_tabWhere h]
    refine ⟨fun hk => by simpa [State.sub] using hk.2, fun hk => ⟨fun hcold => ?_, by simpa [State.sub] using hk⟩⟩
    have free : (s.sub k).status = .free := congrArg Subscriber.status hcold
    exact absurd (free.symm.trans hk.1) (by decide)
  have read := forEach_setSub (f := fun r => { r with c := r.portMask m }) _
    ((tabWhere_sorted h (fun _ r => decide (r.status = .active) && decide (r.tap = some n))).imp Nat.ne_of_lt) h k
  refine read.trans ?_
  simp only [listed]
  rfl

theorem takeStatus_tap (h : TablesSound s) (n : Nat) (m : Quad TierSet) (rev : Nat) (housing : Bool) (k : Nat) :
    (takeStatus n m rev housing s).tap k = if k = n then (s.tap n).taken m rev housing else s.tap k := by
  have confirmed := confirmTiers_butSubs n m (s.setTap n ((s.tap n).taken m rev housing))
  rw [State.tap, taps_of_butBranches (takeStatus_butBranches n m rev housing s),
    show (statusWritten n m rev housing s).taps = (statusWritten n m rev housing s).butSubs.taps from rfl,
    statusWritten, confirmed]
  exact tap_setTap h.taps n k _

theorem takeStatus_syncSet (n : Nat) (m : Quad TierSet) (rev : Nat) (housing : Bool) (s : State) :
    (takeStatus n m rev housing s).syncSet = s.syncSet := by
  have confirmed := confirmTiers_butSubs n m (s.setTap n ((s.tap n).taken m rev housing))
  rw [syncSet_of_butBranches (takeStatus_butBranches n m rev housing s),
    show (statusWritten n m rev housing s).syncSet = (statusWritten n m rev housing s).butSubs.syncSet from rfl,
    statusWritten, confirmed]
  rfl

theorem takeStatus_sub (h : TablesSound s) (n : Nat) (m : Quad TierSet) (rev : Nat) (housing : Bool) (k : Nat) :
    (takeStatus n m rev housing s).sub k =
      if (s.sub k).status = .active ∧ (s.sub k).tap = some n then { s.sub k with c := m.get ((s.sub k).port.getD 0) }
      else s.sub k := by
  rw [State.sub, subs_of_butBranches (takeStatus_butBranches n m rev housing s)]
  exact confirmTiers_sub (s := s.setTap n ((s.tap n).taken m rev housing)) h.subs n m k

/-- A tap status changes no desire. -/
theorem takeStatus_desire (h : TablesSound s) (n : Nat) (m : Quad TierSet) (rev : Nat) (housing : Bool) (k : Nat) :
    SameDesire s (takeStatus n m rev housing s) k := by
  have but := takeStatus_butTaps n m rev housing s
  have revision : (takeStatus n m rev housing s).revision = s.revision :=
    show (takeStatus n m rev housing s).butTaps.revision = _ from but ▸ rfl
  have events : (takeStatus n m rev housing s).events = s.events :=
    show (takeStatus n m rev housing s).butTaps.events = _ from but ▸ rfl
  refine ⟨revision, desiredMask_congr h.subs ((takeStatus_kept n m rev housing s).tables h).subs fun j _ => ?_⟩
  rw [State.claim, State.claim, takeStatus_sub h]
  constructor
  · split <;> rfl
  · simp only [State.holdsShowing, State.event, events]
    split <;> rfl

end Taps

end Sys2Proof.Machine


namespace Sys2Proof.Machine

/-! ## What every operation keeps of the claims, the tests and the carrier

`PlantKept s t`: `t` is as sound as `s` in three respects. No two ACTIVE records claim one tap port and every tap claimed stays
installed (`ClaimsKept`); every installed tap stands as its entry test says (`StepsKept`); the engine's fields agree with its
state, and the sync set with the taps (`CarrierKept`). Each is reflexive and transitive and is proved once for each operation.
An act that writes a record keeps the first and the last, and the second where the entry tests follow. `TapsKept` says more of
an act that leaves the engine: it keeps the sync set whatever the engine holds. -/

/-- R47: the sync set holds each QUEUED tap once and no other, and a tap that is not installed is IN_STEP. -/
def QueueSound (s : State) : Prop :=
  s.syncSet.Nodup ∧ (∀ k, k ∈ s.syncSet ↔ (s.tap k).sync = .queued) ∧
  ∀ k, (s.tap k).installed = false → (s.tap k).sync = .inStep

/-- The tap of a sync transaction in flight is IN_FLIGHT. -/
def FlightSound (s : State) : Prop :=
  ∀ x, s.engine.txn = some x → x.requester = .sync → (s.tap x.addr).sync = .inFlight

theorem syncSound_iff {s : State} : SyncSound s ↔ QueueSound s ∧ FlightSound s :=
  ⟨fun ⟨nodup, queued, flight, away⟩ => ⟨⟨nodup, queued, away⟩, flight⟩,
    fun ⟨⟨nodup, queued, away⟩, flight⟩ => ⟨nodup, queued, flight, away⟩⟩

/-- The tables stay canonical and the claims sound. -/
structure ClaimsKept (s t : State) : Prop where
  tables : TablesSound s → TablesSound t
  claims : TablesSound s → ClaimsSound s → ClaimsSound t

/-- The tables stay canonical and every installed tap as its test says. -/
structure StepsKept (s t : State) : Prop where
  tables : TablesSound s → TablesSound t
  steps : TablesSound s → StepsSound s → StepsSound t

/-- The tables stay canonical, and the engine and the sync set sound. -/
structure CarrierKept (s t : State) : Prop where
  tables : TablesSound s → TablesSound t
  carrier : TablesSound s → EngineSound s → SyncSound s → EngineSound t ∧ SyncSound t

/-- What an act on the engine keeps of the records, whatever the engine holds. -/
structure RecordsKept (s t : State) : Prop extends ClaimsKept s t, StepsKept s t

/-- What an act on the taps keeps that leaves the engine. -/
structure TapsKept (s t : State) : Prop extends RecordsKept s t where
  engine : t.engine = s.engine
  link : t.link = s.link
  queue : TablesSound s → QueueSound s → QueueSound t
  flight : TablesSound s → ∀ k, (s.tap k).sync = .inFlight → (t.tap k).sync = .inFlight

/-- What a whole act keeps. -/
structure PlantKept (s t : State) : Prop extends RecordsKept s t, CarrierKept s t

section Relations
variable {s t u : State}

theorem ClaimsKept.refl (s : State) : ClaimsKept s s := ⟨fun h => h, fun _ h => h⟩
theorem ClaimsKept.trans (h : ClaimsKept s t) (h' : ClaimsKept t u) : ClaimsKept s u :=
  ⟨fun hs => h'.tables (h.tables hs), fun hs hc => h'.claims (h.tables hs) (h.claims hs hc)⟩

theorem StepsKept.refl (s : State) : StepsKept s s := ⟨fun h => h, fun _ h => h⟩
theorem StepsKept.trans (h : StepsKept s t) (h' : StepsKept t u) : StepsKept s u :=
  ⟨fun hs => h'.tables (h.tables hs), fun hs hc => h'.steps (h.tables hs) (h.steps hs hc)⟩
theorem StepsKept.ite {c : Prop} [Decidable c] (h : StepsKept s t) (h' : StepsKept s u) :
    StepsKept s (if c then t else u) := by split <;> assumption

theorem CarrierKept.refl (s : State) : CarrierKept s s := ⟨fun h => h, fun _ he hq => ⟨he, hq⟩⟩
theorem CarrierKept.trans (h : CarrierKept s t) (h' : CarrierKept t u) : CarrierKept s u :=
  ⟨fun hs => h'.tables (h.tables hs), fun hs he hq =>
    have ⟨he', hq'⟩ := h.carrier hs he hq
    h'.carrier (h.tables hs) he' hq'⟩

theorem RecordsKept.refl (s : State) : RecordsKept s s := { ClaimsKept.refl s, StepsKept.refl s with }
theorem RecordsKept.trans (h : RecordsKept s t) (h' : RecordsKept t u) : RecordsKept s u :=
  { h.toClaimsKept.trans h'.toClaimsKept, h.toStepsKept.trans h'.toStepsKept with }
theorem RecordsKept.ite {c : Prop} [Decidable c] (h : RecordsKept s t) (h' : RecordsKept s u) :
    RecordsKept s (if c then t else u) := by split <;> assumption

theorem TapsKept.refl (s : State) : TapsKept s s :=
  { RecordsKept.refl s with engine := rfl, link := rfl, queue := fun _ h => h, flight := fun _ _ h => h }
theorem TapsKept.trans (h : TapsKept s t) (h' : TapsKept t u) : TapsKept s u :=
  { h.toRecordsKept.trans h'.toRecordsKept with
    engine := h'.engine.trans h.engine, link := h'.link.trans h.link
    queue := fun hs hq => h'.queue (h.tables hs) (h.queue hs hq)
    flight := fun hs k hk => h'.flight (h.tables hs) k (h.flight hs k hk) }
theorem TapsKept.ite {c : Prop} [Decidable c] (h : TapsKept s t) (h' : TapsKept s u) :
    TapsKept s (if c then t else u) := by split <;> assumption

theorem PlantKept.of (h : RecordsKept s t) (h' : CarrierKept s t) : PlantKept s t := { h, h' with }

theorem PlantKept.refl (s : State) : PlantKept s s := .of (.refl s) (.refl s)
theorem PlantKept.trans (h : PlantKept s t) (h' : PlantKept t u) : PlantKept s u :=
  .of (h.toRecordsKept.trans h'.toRecordsKept) (h.toCarrierKept.trans h'.toCarrierKept)
theorem PlantKept.ite {c : Prop} [Decidable c] (h : PlantKept s t) (h' : PlantKept s u) :
    PlantKept s (if c then t else u) := by split <;> assumption

/-- A fold of acts. -/
theorem forEach_plantKept (l : List Nat) {f : Nat → State → State} (h : ∀ n s, PlantKept s (f n s)) (s : State) :
    PlantKept s (forEach l f s) :=
  forEach_keeps (P := PlantKept s) l f (fun n _ t ht => ht.trans (h n t)) s (.refl s)

/-! ### What is left, is kept -/

/-- The claims are sound where what the records ask stands and no tap is removed. -/
theorem ClaimsSound.congr (h : ClaimsSound s) (hc : ∀ n, t.claim n = s.claim n)
    (hi : ∀ k, (s.tap k).installed = true → (t.tap k).installed = true) : ClaimsSound t := by
  obtain ⟨named, alone⟩ := h
  refine ⟨fun n hn => ?_, fun n k hn hk htap hport => ?_⟩
  · obtain ⟨status, fields⟩ := Subscriber.claim_eq (hc n)
    obtain ⟨a, p, ha, hp, hin, hr⟩ := named n (status.1 hn)
    obtain ⟨tap, port, -⟩ := fields (status.1 hn)
    exact ⟨a, p, tap.trans ha, port.trans hp, hi a hin, hr⟩
  · obtain ⟨status, fields⟩ := Subscriber.claim_eq (hc n)
    obtain ⟨status', fields'⟩ := Subscriber.claim_eq (hc k)
    obtain ⟨tap, port, -⟩ := fields (status.1 hn)
    obtain ⟨tap', port', -⟩ := fields' (status'.1 hk)
    exact alone n k (status.1 hn) (status'.1 hk) (tap ▸ tap' ▸ htap) (port ▸ port' ▸ hport)

theorem QueueSound.congr (h : QueueSound s) (hq : t.syncSet = s.syncSet)
    (hv : ∀ k, (t.tap k).installed = (s.tap k).installed ∧ (t.tap k).sync = (s.tap k).sync) : QueueSound t := by
  obtain ⟨nodup, queued, away⟩ := h
  refine ⟨hq ▸ nodup, fun k => ?_, fun k hk => ?_⟩
  · rw [hq, (hv k).2]; exact queued k
  · rw [(hv k).2]; exact away k ((hv k).1 ▸ hk)

/-- An act that leaves the engine and the link settings, and keeps the sync set and every tap in flight, keeps the carrier. -/
theorem CarrierKept.of_queue (ht : TablesSound s → TablesSound t) (engine : t.engine = s.engine) (link : t.link = s.link)
    (queue : TablesSound s → QueueSound s → QueueSound t)
    (flight : TablesSound s → ∀ k, (s.tap k).sync = .inFlight → (t.tap k).sync = .inFlight) : CarrierKept s t := by
  refine ⟨ht, fun hs he hq => ⟨?_, ?_⟩⟩
  · unfold EngineSound
    rw [engine, link]
    exact he
  · obtain ⟨hq, hf⟩ := syncSound_iff.1 hq
    exact syncSound_iff.2 ⟨queue hs hq, fun x hx hr => flight hs _ (hf x (engine ▸ hx) hr)⟩

theorem TapsKept.plant (h : TapsKept s t) : PlantKept s t :=
  .of h.toRecordsKept (.of_queue h.tables h.engine h.link h.queue h.flight)

/-- An act on the engine that leaves the transaction and the taps. -/
theorem CarrierKept.of_engine (ht : TablesSound s → TablesSound t) (taps : t.taps = s.taps) (syncSet : t.syncSet = s.syncSet)
    (txn : t.engine.txn = s.engine.txn) (h : EngineSound s → EngineSound t) : CarrierKept s t := by
  refine ⟨ht, fun _ he hq => ⟨h he, ?_⟩⟩
  have read : ∀ k, t.tap k = s.tap k := fun k => by rw [State.tap, taps]; rfl
  obtain ⟨hq, hf⟩ := syncSound_iff.1 hq
  exact syncSound_iff.2 ⟨hq.congr syncSet fun k => by rw [read]; exact ⟨rfl, rfl⟩,
    fun x hx hr => by rw [read]; exact hf x (txn ▸ hx) hr⟩

/-- What the claims, the tests and the carrier read. -/
def State.carried (s : State) : State :=
  { State.reset with
    taps := s.taps, syncSet := s.syncSet, subs := s.subs, events := s.events, revision := s.revision
    engine := s.engine, link := s.link }

/-- An act that leaves all of it but the engine. -/
theorem RecordsKept.of_carried (ht : TablesSound s → TablesSound t) (h : t.carried = { s.carried with engine := t.engine }) :
    RecordsKept s t := by
  have same : { t.carried with engine := s.engine } = s.carried :=
    congrArg (fun u : State => { u with engine := s.engine }) h
  exact { tables := ht, claims := fun _ hc => show ClaimsSound { t.carried with engine := s.engine } from same ▸ hc
          steps := fun _ hc => show StepsSound { t.carried with engine := s.engine } from same ▸ hc }

/-- An act that leaves all of it. -/
theorem TapsKept.of_carried (ht : TablesSound s → TablesSound t) (h : t.carried = s.carried) : TapsKept s t where
  tables := ht
  claims _ hc := show ClaimsSound t.carried from h ▸ hc
  steps _ hc := show StepsSound t.carried from h ▸ hc
  engine := show t.carried.engine = _ from h ▸ rfl
  link := show t.carried.link = _ from h ▸ rfl
  queue _ hq := show QueueSound t.carried from h ▸ hq
  flight _ k hk := show (t.carried.tap k).sync = _ from h ▸ hk

theorem TapsKept.of_records (hr : t.records = s.records) (h : t.carried = s.carried) : TapsKept s t :=
  .of_carried (HeadKept.of_records hr).tables h
theorem TapsKept.of_butAlarms (h : t.butAlarms = s.butAlarms) : TapsKept s t :=
  .of_carried (HeadKept.of_butAlarms h).tables (show t.butAlarms.carried = _ from h ▸ rfl)
theorem TapsKept.of_butPorts (h : t.butPorts = s.butPorts) : TapsKept s t := .of_butAlarms (butAlarms_of_butPorts h)
theorem TapsKept.of_butBranches (ht : TablesSound s → TablesSound t) (h : t.butBranches = s.butBranches) : TapsKept s t :=
  .of_carried ht (show t.butBranches.carried = _ from h ▸ rfl)

theorem PlantKept.of_carried (ht : TablesSound s → TablesSound t) (h : t.carried = s.carried) : PlantKept s t :=
  (TapsKept.of_carried ht h).plant
theorem PlantKept.of_records (hr : t.records = s.records) (h : t.carried = s.carried) : PlantKept s t :=
  (TapsKept.of_records hr h).plant
theorem PlantKept.of_butAlarms (h : t.butAlarms = s.butAlarms) : PlantKept s t := (TapsKept.of_butAlarms h).plant
theorem PlantKept.of_butPorts (h : t.butPorts = s.butPorts) : PlantKept s t := (TapsKept.of_butPorts h).plant
theorem PlantKept.of_butSlots (ht : TablesSound s → TablesSound t) (h : t.butSlots = s.butSlots) : PlantKept s t :=
  .of_carried ht (show t.butSlots.carried = _ from h ▸ rfl)

/-- An act on the engine that leaves what the claims and the tests read. -/
theorem PlantKept.of_engine (hr : t.records = s.records) (h : t.carried = { s.carried with engine := t.engine })
    (txn : t.engine.txn = s.engine.txn) (he : EngineSound s → EngineSound t) : PlantKept s t := by
  have tables := (HeadKept.of_records hr).tables
  have taps : t.taps = s.taps := (congrArg State.taps h :)
  have syncSet : t.syncSet = s.syncSet := (congrArg State.syncSet h :)
  exact .of (.of_carried tables h) (.of_engine tables taps syncSet txn he)

/-! ### The entry test -/

theorem QueueSound.setSync (hs : TablesSound s) (h : QueueSound s) {n : Nat} {v : SyncStatus} (hn : (s.tap n).sync ≠ .queued)
    (hv : v ≠ .queued) (hi : (s.tap n).installed = true) : QueueSound (setSync n v s) := by
  obtain ⟨nodup, queued, away⟩ := h
  refine ⟨by rwa [setSync_syncSet], fun k => ?_, fun k hk => ?_⟩
  · rw [setSync_syncSet, setSync_tap hs, queued]
    split
    · subst k; simp [hn, hv]
    · rfl
  · rw [setSync_tap hs] at hk ⊢
    split at hk
    · simp [hi] at hk
    · rename_i hne; rw [if_neg hne]; exact away k hk

theorem QueueSound.enterSync (hs : TablesSound s) (h : QueueSound s) {n : Nat} (hn : (s.tap n).sync ≠ .queued)
    (hi : (s.tap n).installed = true) : QueueSound (enterSync n s) := by
  obtain ⟨nodup, queued, away⟩ := h
  have out : n ∉ s.syncSet := fun hm => hn ((queued n).1 hm)
  refine ⟨?_, fun k => ?_, fun k hk => ?_⟩
  · rw [enterSync_syncSet]; exact nodup.append (List.nodup_singleton n) (by simpa using out)
  · rw [enterSync_syncSet, enterSync_tap hs, List.mem_append, List.mem_singleton, queued]
    split
    · simp [*]
    · simp [*]
  · rw [enterSync_tap hs] at hk ⊢
    split at hk
    · simp [hi] at hk
    · rename_i hne; rw [if_neg hne]; exact away k hk

theorem QueueSound.leaveSync (hs : TablesSound s) (h : QueueSound s) {n : Nat} (hi : (s.tap n).installed = true) :
    QueueSound (leaveSync n s) := by
  obtain ⟨nodup, queued, away⟩ := h
  refine ⟨?_, fun k => ?_, fun k hk => ?_⟩
  · rw [leaveSync_syncSet]; exact nodup.erase n
  · rw [leaveSync_syncSet, leaveSync_tap hs, nodup.mem_erase_iff, queued]
    split
    · simp [*]
    · simp [*]
  · rw [leaveSync_tap hs] at hk ⊢
    split at hk
    · simp [hi] at hk
    · rename_i hne; rw [if_neg hne]; exact away k hk

theorem QueueSound.entryTest (hs : TablesSound s) (h : QueueSound s) (n : Nat) : QueueSound (entryTest n s) := by
  rcases entryTest_cases n s with ⟨same, -⟩ | ⟨enters, -, hi, hn⟩ | ⟨leaves, -, hi, -⟩
  · rw [same]; exact h
  · rw [enters]; exact h.enterSync hs hn hi
  · rw [leaves]; exact h.leaveSync hs hi

theorem claims_of_subs (h : t.subs = s.subs) (n : Nat) : t.claim n = s.claim n := by
  rw [State.claim, State.sub, h]; rfl

theorem engine_of_butSync (h : t.butSync = s.butSync) : t.engine = s.engine := show t.butSync.engine = _ from h ▸ rfl
theorem link_of_butSync (h : t.butSync = s.butSync) : t.link = s.link := show t.butSync.link = _ from h ▸ rfl

theorem entryTest_tapsKept (n : Nat) (s : State) : TapsKept s (entryTest n s) := by
  have but := entryTest_butSync n s
  have kept : ∀ {k : Nat} {P : Tap → Prop}, TablesSound s → (P (s.tap n) → P { s.tap n with sync := s.testedSync n }) →
      P (s.tap k) → P ((entryTest n s).tap k) := fun {k P} hs hP hk => by
    rw [entryTest_tap hs]
    split
    · subst k; exact hP hk
    · exact hk
  exact
    { tables := (entryTest_kept n s).tables
      claims := fun hs hc => hc.congr (claims_of_subs (subs_of_butSync but)) fun _ =>
        kept (P := fun r => r.installed = true) hs id
      steps := fun hs h => .of_stands fun k => .entryTest hs n fun _ => h.stands k
      engine := engine_of_butSync but
      link := link_of_butSync but
      queue := fun hs hq => hq.entryTest hs n
      flight := fun hs _ => kept (P := fun r => r.sync = .inFlight) hs fun hk => by simp [State.testedSync, hk] }

theorem entryTest_plantKept (n : Nat) (s : State) : PlantKept s (entryTest n s) := (entryTest_tapsKept n s).plant

theorem entryTestOf_plantKept (o : Option Nat) (s : State) : PlantKept s (entryTestOf o s) := by
  cases o with
  | none => exact .refl s
  | some n => exact entryTest_plantKept n s

/-- R48: every installed tap is tested. -/
theorem entryTestAll_steps (hs : TablesSound s) : StepsSound (entryTestAll s) := by
  refine stepsSound_of_tests (g := fun n _ => some n) (fun _ _ _ => rfl) _ s hs fun k => ?_
  by_cases hk : (s.tap k).installed = true
  · refine .inl ⟨k, (mem_tabWhere hs.taps).2 ⟨fun hcold => ?_, hk⟩, rfl⟩
    have cold : (s.tap k).installed = false := congrArg Tap.installed hcold
    exact absurd (cold.symm.trans hk) (by decide)
  · exact .inr (.of_removed (by simpa using hk))

theorem entryTestAll_plantKept (s : State) : PlantKept s (entryTestAll s) := forEach_plantKept _ entryTest_plantKept s

end Relations

end Sys2Proof.Machine


namespace Sys2Proof.Machine

section Carrier
variable {s t : State}

/-! ### The grant (R50, R63, R86) -/

/-- What the engine holds while no attempt runs: no frame waits, and nothing is received while the return is OFF. -/
def EngineFree (s : State) : Prop :=
  s.engine.buffer = [] ∧ s.link.retries ≤ 3 ∧ (s.engine.returnOn = false → s.engine.inFrame = false)

theorem EngineSound.free (h : EngineSound s) (hstate : s.engine.state ≠ .awaiting) : EngineFree s := by
  obtain ⟨-, -, -, waits, -, retries, stopped⟩ := h
  exact ⟨by_contra fun hb => hstate (waits hb), retries, fun hr => (stopped hr).2⟩

/-- R64: an attempt within its limit begins. -/
theorem beginAttempt_sound (h : EngineFree s) (hq : QueueSound s) {x : Txn} (hx : 1 ≤ x.used ∧ x.used ≤ x.limit ∧ x.limit ≤ 4)
    (hf : x.requester = .sync → (s.tap x.addr).sync = .inFlight) :
    EngineSound (beginAttempt x s) ∧ SyncSound (beginAttempt x s) := by
  obtain ⟨buffer, retries, stopped⟩ := h
  have holds : ∀ y, (beginAttempt x s).engine.txn = some y → y = x := fun y hy => (Option.some.inj hy).symm
  have empty : (beginAttempt x s).engine.buffer = [] := buffer
  refine ⟨⟨by simp [beginAttempt], by simp [beginAttempt], by simp [empty], fun hb => absurd empty hb,
    fun y hy => holds y hy ▸ hx, retries, fun hr => ⟨buffer, stopped hr⟩⟩, syncSound_iff.2 ⟨hq, fun y hy hr => ?_⟩⟩
  obtain rfl := holds y hy
  exact hf hr

theorem attemptLimit_range (c : Command) {l : Link} (h : l.retries ≤ 3) : 1 ≤ attemptLimit c l ∧ attemptLimit c l ≤ 4 := by
  cases c <;> simp [attemptLimit] <;> omega

/-- R63: a granted transaction is taken. -/
theorem takeTransaction_sound (h : EngineFree s) (hq : QueueSound s) {r : Requester} {a : Nat}
    (hf : r = .sync → (s.tap a).sync = .inFlight) (c : UnitClass) (m : Command) :
    EngineSound (takeTransaction r c a m s) ∧ SyncSound (takeTransaction r c a m s) := by
  obtain ⟨least, most⟩ := attemptLimit_range m h.2.1
  exact beginAttempt_sound h hq ⟨le_rfl, least, most⟩ hf

/-- R50: the record of a tap whose port set is granted. -/
def State.sentTap (s : State) (n : Nat) : Tap :=
  { s.tap n with sync := .inFlight, lastSent := some ⟨s.desiredMasks n, s.revision⟩ }

theorem grantSync_taps {n : Nat} {rest : List Nat} (h : s.syncSet = n :: rest) (hs : TablesSound s) (k : Nat) :
    (grantSync s).tap k = if k = n then s.sentTap n else s.tap k := by
  have written := hs.setTap n { s.tap n with lastSent := some ⟨s.desiredMasks n, s.revision⟩ }
  have read := setSync_tap (s := ({ s with syncSet := rest } : State).setTap n
    { s.tap n with lastSent := some ⟨s.desiredMasks n, s.revision⟩ }) written n .inFlight k
  have write := fun j => tap_setTap (s := { s with syncSet := rest }) hs.taps n j
    { s.tap n with lastSent := some ⟨s.desiredMasks n, s.revision⟩ }
  rw [write, write, if_pos rfl] at read
  have granted : (grantSync s).tap k = (setSync n .inFlight (({ s with syncSet := rest } : State).setTap n
      { s.tap n with lastSent := some ⟨s.desiredMasks n, s.revision⟩ })).tap k := by
    rw [grantSync, h]; rfl
  rw [granted, read]
  split
  · rfl
  · rfl

theorem grantSync_syncSet {n : Nat} {rest : List Nat} (h : s.syncSet = n :: rest) : (grantSync s).syncSet = rest := by
  have set := setSync_syncSet n .inFlight (({ s with syncSet := rest } : State).setTap n
    { s.tap n with lastSent := some ⟨s.desiredMasks n, s.revision⟩ })
  rw [grantSync, h]
  exact set.trans rfl

/-- What a grant to another requester leaves of the taps and the sync set. -/
theorem grantTo_taps {r : Requester} (hr : r ≠ .sync) (s : State) :
    (grantTo r s).taps = s.taps ∧ (grantTo r s).syncSet = s.syncSet := by
  have marks : ∀ b, (markPolled b s).taps = s.taps ∧ (markPolled b s).syncSet = s.syncSet := fun b => by
    unfold markPolled
    extract_lets w
    split <;> exact ⟨rfl, rfl⟩
  cases r with
  | broadcast => exact ⟨rfl, rfl⟩
  | technician => show (grantTechnician s).taps = _ ∧ (grantTechnician s).syncSet = _; unfold grantTechnician; split <;> exact ⟨rfl, rfl⟩
  | sync => exact absurd rfl hr
  | survey =>
    show (grantSurvey s).taps = _ ∧ (grantSurvey s).syncSet = _
    unfold grantSurvey
    split
    · exact marks _
    · split <;> exact ⟨rfl, rfl⟩

/-- A grant leaves what is desired. -/
theorem SameDesire.of_butCarrier (h : t.butCarrier = s.butCarrier) (k : Nat) : SameDesire s t k :=
  ⟨show t.butCarrier.revision = _ from h ▸ rfl, fun p => show t.butCarrier.desiredMask k p = _ from h ▸ rfl⟩

theorem tap_of_taps (h : t.taps = s.taps) (k : Nat) : t.tap k = s.tap k := by rw [State.tap, h]; rfl

theorem grantTo_steps (r : Requester) (s : State) : StepsKept s (grantTo r s) := by
  refine ⟨(grantTo_kept r s).tables, fun hs h => .of_stands fun k => ?_⟩
  have same : SameDesire s (grantTo r s) k := .of_butCarrier (grantTo_butCarrier r s) k
  by_cases hr : r = .sync
  · subst hr
    cases hset : s.syncSet with
    | nil => exact (h.stands k).of_tap same (by simp [grantTo, grantSync, hset])
    | cons n rest =>
      have read : (grantTo .sync s).tap k = if k = n then s.sentTap n else s.tap k := grantSync_taps hset hs k
      by_cases hk : k = n
      · rw [if_pos hk] at read
        exact .of_sync (by simp [read, State.sentTap]) (by simp [read, State.sentTap])
      · exact (h.stands k).of_tap same (read.trans (if_neg hk))
  · exact (h.stands k).of_tap same (tap_of_taps (grantTo_taps hr s).1 k)

theorem QueueSound.sent (h : QueueSound s) (hs : TablesSound s) {n : Nat} {rest : List Nat} (hset : s.syncSet = n :: rest) :
    QueueSound (grantSync s) := by
  obtain ⟨nodup, queued, away⟩ := h
  rw [hset] at nodup
  obtain ⟨out, nodup⟩ := List.nodup_cons.1 nodup
  have waits : (s.tap n).sync = .queued := (queued n).1 (by simp [hset])
  have installed : (s.tap n).installed = true := by
    by_contra hi
    exact absurd (waits.symm.trans (away n (by simpa using hi))) (by decide)
  refine ⟨by rwa [grantSync_syncSet hset], fun k => ?_, fun k hk => ?_⟩
  · rw [grantSync_syncSet hset, grantSync_taps hset hs]
    split
    · subst k; simp [State.sentTap, out]
    · rename_i hne; rw [← queued k, hset]; simp [hne]
  · rw [grantSync_taps hset hs] at hk ⊢
    split at hk
    · simp [State.sentTap, installed] at hk
    · rename_i hne; rw [if_neg hne]; exact away k hk

theorem grantTo_sound (r : Requester) (hs : TablesSound s) (he : EngineSound s) (hq : SyncSound s)
    (idle : s.engine.state = .idle) : EngineSound (grantTo r s) ∧ SyncSound (grantTo r s) := by
  have free : EngineFree s := he.free (by simp [idle])
  have queue := (syncSound_iff.1 hq).1
  cases r with
  | broadcast =>
    exact takeTransaction_sound (s := { s with broadcast := { s.broadcast with revisionSent := s.revision } }) free queue
      (by simp) _ _
  | technician =>
    show EngineSound (grantTechnician s) ∧ SyncSound (grantTechnician s)
    unfold grantTechnician
    split
    · rename_i q rest _
      exact takeTransaction_sound (s := { s with techQ := { s.techQ with waiting := rest, inFlight := some q } }) free queue
        (by simp) _ _
    · exact ⟨he, hq⟩
  | sync =>
    cases hset : s.syncSet with
    | nil => simpa [grantTo, grantSync, hset] using ⟨he, hq⟩
    | cons n rest =>
      have sent := queue.sent hs hset
      have read := grantSync_taps hset hs n
      simp only [grantSync, hset, if_true] at sent read
      have but := setSync_butSync n .inFlight (({ s with syncSet := rest } : State).setTap n
        { s.tap n with lastSent := some ⟨s.desiredMasks n, s.revision⟩ })
      have free' : EngineFree (setSync n .inFlight (({ s with syncSet := rest } : State).setTap n
          { s.tap n with lastSent := some ⟨s.desiredMasks n, s.revision⟩ })) := by
        unfold EngineFree
        rw [engine_of_butSync but, link_of_butSync but]
        exact free
      show EngineSound (grantSync s) ∧ SyncSound (grantSync s)
      simp only [grantSync, hset]
      exact takeTransaction_sound free' sent (fun _ => congrArg Tap.sync read) _ _
  | survey =>
    have marks : ∀ b, EngineFree (markPolled b s) ∧ QueueSound (markPolled b s) := fun b => by
      unfold markPolled
      extract_lets w
      split <;> exact ⟨free, queue⟩
    show EngineSound (grantSurvey s) ∧ SyncSound (grantSurvey s)
    unfold grantSurvey
    split
    · rename_i b _
      exact takeTransaction_sound (marks b).1 (marks b).2 (by simp) _ _
    · split
      · rename_i n _
        exact takeTransaction_sound (s := markAudited n s) free queue (by simp) _ _
      · exact ⟨he, hq⟩

theorem installed_of_reports {k : Nat} (h : t.reports k = s.reports k) : (t.tap k).installed = (s.tap k).installed :=
  show (t.reports k).installed = _ from h ▸ rfl

/-- R82: the arbiter's decision. -/
theorem arbitrate_plantKept (s : State) : PlantKept s (arbitrate s) := by
  have tables := (arbitrate_kept s).tables
  have subs : (arbitrate s).subs = s.subs := subs_of_butCarrier (arbitrate_butCarrier s)
  have steps : StepsKept s (arbitrate s) := by
    unfold arbitrate
    refine .ite ?_ (.refl s)
    split
    · rename_i r _
      have granted := grantTo_steps r { s with arbiter := s.arbiter.granted r }
      exact ⟨granted.tables, granted.steps⟩
    · exact .refl s
  refine .of { steps with claims := fun hs hc => hc.congr (claims_of_subs subs) fun k hk =>
    (installed_of_reports ((arbitrate_reports s hs).2 k)).trans hk } ⟨tables, fun hs he hq => ?_⟩
  · unfold arbitrate
    split
    · rename_i hidle
      split
      · rename_i r _
        exact grantTo_sound (s := { s with arbiter := s.arbiter.granted r }) r hs he hq hidle.1
      · exact ⟨he, hq⟩
    · exact ⟨he, hq⟩

/-! ### Reception and noise (R71 to R75) -/

/-- R75: counting a frame changes the noise alone. -/
theorem countNoise_plantKept (s : State) : PlantKept s (countNoise s) := by
  have counted : ∀ n v, PlantKept s { s with engine := { s.engine with noiseCount := n, noiseActive := v } } :=
    fun _ _ => .of_engine (by rfl) (by rfl) rfl fun he => he
  unfold countNoise
  exact .ite ((counted _ true).trans (.of_butAlarms (raiseAlarm_butAlarms _ _ _))) (counted _ _)

theorem countFrames_plantKept (n : Nat) (s : State) : PlantKept s (countFrames n s) := by
  induction n generalizing s with
  | zero => exact .refl s
  | succ n ih => exact (countNoise_plantKept s).trans (ih _)

theorem closeNoiseMinute_plantKept (s : State) : PlantKept s (closeNoiseMinute s) := by
  have counted : ∀ n v, PlantKept s { s with engine := { s.engine with noiseCount := n, noiseActive := v } } :=
    fun _ _ => .of_engine (by rfl) (by rfl) rfl fun he => he
  unfold closeNoiseMinute
  exact .ite ((counted 0 false).trans (.of_butAlarms (endAlarm_butAlarms _ _ _))) (counted 0 _)

theorem length_markOverrun (l : List Frame) : (markOverrun l).length = l.length := by
  induction l with
  | nil => rfl
  | cons f l ih =>
    cases l with
    | nil => rfl
    | cons g l => simpa [markOverrun] using ih

/-- R72, R73: a received frame waits in the buffer, or is counted. -/
theorem receiveFrame_plantKept (f : Frame) (on : s.engine.returnOn = true) : PlantKept s (receiveFrame f s) := by
  have received : PlantKept s { s with engine := { s.engine with inFrame := false } } := by
    refine .of_engine (by rfl) (by rfl) rfl fun he => ?_
    obtain ⟨idle, awaiting, short, waits, attempts, retries, stopped⟩ := he
    exact ⟨idle, awaiting, short, waits, attempts, retries, fun hr => ⟨(stopped hr).1, rfl⟩⟩
  unfold receiveFrame
  extract_lets _ s1
  split
  · rename_i hawait
    have buffered : ∀ l : List Frame, (s.engine.buffer.length ≤ 2 → l.length ≤ 2) →
        PlantKept s { s1 with engine := { s1.engine with buffer := l } } := fun l hl => by
      refine .of_engine (by rfl) (by rfl) rfl fun he => ?_
      obtain ⟨idle, awaiting, short, waits, attempts, retries, stopped⟩ := he
      exact ⟨idle, awaiting, hl short, fun _ => hawait, attempts, retries,
        fun hr => absurd (on.symm.trans hr) (by decide)⟩
    split
    · rename_i hlt
      have room : s.engine.buffer.length < 2 := hlt
      exact buffered _ fun _ => by simp only [List.length_append, List.length_singleton]; exact room
    · exact buffered _ fun h => (length_markOverrun s.engine.buffer).trans_le h
  · exact received.trans (countNoise_plantKept _)
  · exact received.trans (countNoise_plantKept _)

end Carrier

end Sys2Proof.Machine


namespace Sys2Proof.Machine

/-! ## The end of a transaction keeps what the relations say (R51 to R55, R67, R68, R99, R106) -/

section Completion
variable {s t : State}

/-! ### The reply of a tap -/

theorem setReach_desire (n : Nat) (v : Reach) (s : State) (k : Nat) : SameDesire s (setReach n v s) k :=
  ⟨show (setReach n v s).butBranches.revision = _ from setReach_butBranches n v s ▸ rfl,
    fun p => show (setReach n v s).butBranches.desiredMask k p = _ from setReach_butBranches n v s ▸ rfl⟩

theorem engine_of_butTaps (h : t.butTaps = s.butTaps) : t.engine = s.engine := show t.butTaps.engine = _ from h ▸ rfl
theorem link_of_butTaps (h : t.butTaps = s.butTaps) : t.link = s.link := show t.butTaps.link = _ from h ▸ rfl

/-- A changed reachability changes no test. -/
theorem setReach_tapsKept (n : Nat) (v : Reach) (s : State) : TapsKept s (setReach n v s) := by
  have but := setReach_butTaps n v s
  have read : ∀ k, TablesSound s → ((setReach n v s).tap k).measured = (s.tap k).measured ∧
      ((setReach n v s).tap k).sync = (s.tap k).sync := fun k hs => by
    rw [setReach_tap hs]
    split
    · subst k; exact ⟨rfl, rfl⟩
    · exact ⟨rfl, rfl⟩
  have installed : ∀ k, TablesSound s → ((setReach n v s).tap k).installed = (s.tap k).installed := fun k hs =>
    (Tap.measured_eq (read k hs).1).1
  exact
    { tables := (setReach_kept n v s).tables
      claims := fun hs hc => hc.congr (claims_of_subs ((subs_of_butBranches (setReach_butBranches n v s)).trans rfl)) fun k hk =>
        (installed k hs).trans hk
      steps := fun hs h => .of_stands fun k =>
        (h.stands k).congr (setReach_desire n v s k) (read k hs).1 (read k hs).2
      engine := engine_of_butTaps but
      link := link_of_butTaps but
      queue := fun hs hq => hq.congr ((syncSet_of_butBranches (setReach_butBranches n v s)).trans rfl) fun k =>
        ⟨installed k hs, (read k hs).2⟩
      flight := fun hs k hk => (read k hs).2.trans hk }

theorem takeStatus_claims (n : Nat) (m : Quad TierSet) (rev : Nat) (housing : Bool) (s : State) :
    ClaimsKept s (takeStatus n m rev housing s) := by
  refine ⟨(takeStatus_kept n m rev housing s).tables, fun hs hc => hc.congr (fun k => ?_) fun k hk => ?_⟩
  · rw [State.claim, State.claim, takeStatus_sub hs]
    split <;> rfl
  · rw [takeStatus_tap hs]
    split
    · subst k; exact hk
    · exact hk

/-- A tap status leaves which taps are installed and their sync status. -/
theorem takeStatus_standing (hs : TablesSound s) (n : Nat) (m : Quad TierSet) (rev : Nat) (housing : Bool) (k : Nat) :
    ((takeStatus n m rev housing s).tap k).installed = (s.tap k).installed ∧
    ((takeStatus n m rev housing s).tap k).sync = (s.tap k).sync := by
  rw [takeStatus_tap hs]
  split
  · subst k; exact ⟨rfl, rfl⟩
  · exact ⟨rfl, rfl⟩

theorem takeStatus_queue (hs : TablesSound s) (h : QueueSound s) (n : Nat) (m : Quad TierSet) (rev : Nat) (housing : Bool) :
    QueueSound (takeStatus n m rev housing s) :=
  h.congr (takeStatus_syncSet n m rev housing s) (takeStatus_standing hs n m rev housing)

/-- A tap status leaves every other tap standing. -/
theorem TapStands.takeStatus (hs : TablesSound s) {n k : Nat} (hk : k ≠ n) (m : Quad TierSet) (rev : Nat) (housing : Bool)
    (h : TapStands s k) : TapStands (takeStatus n m rev housing s) k :=
  h.of_tap (takeStatus_desire hs n m rev housing k) (by rw [takeStatus_tap hs, if_neg hk])

theorem setSync_claims (n : Nat) (v : SyncStatus) (s : State) : ClaimsKept s (setSync n v s) := by
  refine ⟨(setSync_kept n v s).tables, fun hs hc =>
    hc.congr (claims_of_subs (subs_of_butSync (setSync_butSync n v s))) fun k hk => ?_⟩
  rw [setSync_tap hs]
  split
  · subst k; exact hk
  · exact hk

theorem enterSync_claims (n : Nat) (s : State) : ClaimsKept s (enterSync n s) :=
  ⟨(enterSync_kept n s).tables, fun hs hc => (setSync_claims n .queued { s with syncSet := s.syncSet ++ [n] }).claims hs hc⟩

/-- R51: how the sync status of a tap is decided when a reply has been taken in. -/
theorem intakeReply_cases (n : Nat) (m : Quad TierSet) (rev : Nat) (housing : Bool) (s : State) :
    let u := takeStatus n m rev housing s
    ((s.tap n).installed = false ∧ intakeReply n m rev housing s = s) ∨
    ((s.tap n).installed = true ∧
      ((intakeReply n m rev housing s = enterSync n u ∧ (u.tap n).sync = .failed) ∨
      (intakeReply n m rev housing s = u ∧ (u.tap n).sync = .inFlight) ∨
      (intakeReply n m rev housing s = setSync n .inStep u ∧ (u.tap n).sync = .mismatch ∧ u.outOfStepReported n = false) ∨
      (intakeReply n m rev housing s = entryTest n u ∧ ((u.tap n).sync = .inStep ∨ (u.tap n).sync = .queued ∨
        ((u.tap n).sync = .mismatch ∧ u.outOfStepReported n = true))))) := by
  intro u
  by_cases hi : (s.tap n).installed = true
  · refine .inr ⟨hi, ?_⟩
    simp only [intakeReply, hi, if_true]
    cases hv : (u.tap n).sync
    case failed => exact .inl (by simp [u])
    case inFlight => exact .inr (.inl (by simp [u]))
    case inStep | queued => exact .inr (.inr (.inr (by simp [u])))
    case mismatch =>
      cases ho : u.outOfStepReported n
      · exact .inr (.inr (.inl (by simp [u])))
      · exact .inr (.inr (.inr (by simp [u])))
  · exact .inl ⟨by simpa using hi, by simp [intakeReply, hi]⟩

theorem intakeReply_tapsKept (n : Nat) (m : Quad TierSet) (rev : Nat) (housing : Bool) (s : State) :
    TapsKept s (intakeReply n m rev housing s) := by
  have but := intakeReply_butTaps n m rev housing s
  have tables := (takeStatus_kept n m rev housing s).tables
  rcases intakeReply_cases n m rev housing s with ⟨-, same⟩ | ⟨installed, act⟩
  · rw [same]; exact .refl s
  · have claims := takeStatus_claims n m rev housing s
    have queue := fun hs hq => takeStatus_queue (s := s) hs hq n m rev housing
    have standing := fun hs => takeStatus_standing (s := s) hs n m rev housing
    have others : ∀ {k}, TablesSound s → StepsSound s → k ≠ n → TapStands (takeStatus n m rev housing s) k :=
      fun hs h hk => .takeStatus hs hk m rev housing (h.stands _)
    generalize intakeReply n m rev housing s = v at but act
    generalize takeStatus n m rev housing s = u at *
    have engine := engine_of_butTaps but
    have link := link_of_butTaps but
    rcases act with ⟨rfl, hv⟩ | ⟨rfl, hv⟩ | ⟨rfl, hv, hout⟩ | ⟨rfl, -⟩
    · exact
        { claims.trans (enterSync_claims n u) with
          steps := fun hs h => .of_stands fun k => .enterSync (tables hs) n fun hk => others hs h hk
          engine := engine, link := link
          queue := fun hs hq => (queue hs hq).enterSync (tables hs) (by simp [hv]) ((standing hs n).1.trans installed)
          flight := fun hs k hk => by
            rw [enterSync_tap (tables hs)]
            split
            · subst k; exact absurd (((standing hs n).2.trans hk).symm.trans hv) (by decide)
            · exact (standing hs k).2.trans hk }
    · exact
        { claims with
          steps := fun hs h => .of_stands fun k => by
            by_cases hk : k = n
            · subst k; exact .of_sync (by simp [hv]) (by simp [hv])
            · exact others hs h hk
          engine := engine, link := link, queue := queue
          flight := fun hs k hk => (standing hs k).2.trans hk }
    · exact
        { claims.trans (setSync_claims n .inStep u) with
          steps := fun hs h => .of_stands fun k => by
            by_cases hk : k = n
            · subst k
              have read : (setSync n .inStep u).tap n = { u.tap n with sync := .inStep } := by
                rw [setSync_tap (tables hs), if_pos rfl]
              refine fun _ => ⟨fun _ => ?_, fun hm => absurd hm (by simp [read])⟩
              rw [outOfStepReported_congr (.of_butSync (setSync_butSync n .inStep u) n) (by rw [read]; rfl)]
              exact hout
            · exact .setSync (tables hs) hk .inStep (others hs h hk)
          engine := engine, link := link
          queue := fun hs hq => (queue hs hq).setSync (tables hs) (by simp [hv]) (by decide)
            ((standing hs n).1.trans installed)
          flight := fun hs k hk => by
            rw [setSync_tap (tables hs)]
            split
            · subst k; exact absurd (((standing hs n).2.trans hk).symm.trans hv) (by decide)
            · exact (standing hs k).2.trans hk }
    · have tested := entryTest_tapsKept n u
      exact
        { claims.trans tested.toClaimsKept with
          steps := fun hs h => .of_stands fun k => .entryTest (tables hs) n fun hk => others hs h hk
          engine := engine, link := link
          queue := fun hs hq => tested.queue (tables hs) (queue hs hq)
          flight := fun hs k hk => tested.flight (tables hs) k ((standing hs k).2.trans hk) }

/-! ### The completion of a port set -/

theorem portSetAnswered_eq (n : Nat) (sent : Quad TierSet) (x : Option TierMap) (m : Quad TierSet) (rev : Nat)
    (housing : Bool) (s : State) : portSetAnswered n sent x m rev housing s =
      entryTest n (setSync n (if replyMatches sent x m rev then .inStep else .mismatch) (takeStatus n m rev housing s)) := by
  unfold portSetAnswered
  extract_lets u
  split <;> rfl

theorem portSetAnswered_records (n : Nat) (sent : Quad TierSet) (x : Option TierMap) (m : Quad TierSet) (rev : Nat)
    (housing : Bool) (s : State) : RecordsKept s (portSetAnswered n sent x m rev housing s) := by
  rw [portSetAnswered_eq]
  generalize (if replyMatches sent x m rev then SyncStatus.inStep else .mismatch) = v
  have taken := takeStatus_claims n m rev housing s
  have written := taken.trans (setSync_claims n v _)
  exact
    { written.trans (entryTest_tapsKept n _).toClaimsKept with
      steps := fun hs h => .of_stands fun k => .entryTest (written.tables hs) n fun hk =>
        .setSync (taken.tables hs) hk v (.takeStatus hs hk m rev housing (h.stands k)) }

theorem portSetAnswered_queue (hs : TablesSound s) (hq : QueueSound s) {n : Nat} (hn : (s.tap n).sync = .inFlight)
    (sent : Quad TierSet) (x : Option TierMap) (m : Quad TierSet) (rev : Nat) (housing : Bool) :
    QueueSound (portSetAnswered n sent x m rev housing s) := by
  rw [portSetAnswered_eq]
  have taken := (takeStatus_claims n m rev housing s).tables hs
  obtain ⟨installed, sync⟩ := takeStatus_standing hs n m rev housing n
  have here : (s.tap n).installed = true := by
    by_contra hi
    exact absurd (hn.symm.trans (hq.2.2 n (by simpa using hi))) (by decide)
  exact ((takeStatus_queue hs hq n m rev housing).setSync taken (by simp [sync, hn]) (by split <;> decide)
    (installed.trans here)).entryTest ((setSync_kept n _ _).tables taken) n

theorem portSetFailed_records (n : Nat) (o : TxnOutcome) (s : State) : RecordsKept s (portSetFailed n o s) := by
  unfold portSetFailed
  refine .ite (.trans ?_ (setReach_tapsKept n _ _).toRecordsKept) (.trans ?_ (entryTest_tapsKept n _).toRecordsKept)
  · exact
      { setSync_claims n .failed s with
        steps := fun hs h => .of_stands fun k => by
          by_cases hk : k = n
          · subst k; exact .of_sync (by simp [setSync_tap hs]) (by simp [setSync_tap hs])
          · exact .setSync hs hk .failed (h.stands k) }
  · exact { enterSync_claims n s with
      steps := fun hs h => .of_stands fun k => .enterSync hs n fun _ => h.stands k }

theorem portSetFailed_queue (hs : TablesSound s) (hq : QueueSound s) {n : Nat} (hn : (s.tap n).sync = .inFlight)
    (o : TxnOutcome) : QueueSound (portSetFailed n o s) := by
  have here : (s.tap n).installed = true := by
    by_contra hi
    exact absurd (hn.symm.trans (hq.2.2 n (by simpa using hi))) (by decide)
  unfold portSetFailed
  split
  · exact (setReach_tapsKept n _ _).queue ((setSync_kept n _ s).tables hs) (hq.setSync hs (by simp [hn]) (by decide) here)
  · exact (hq.enterSync hs (by simp [hn]) here).entryTest ((enterSync_kept n s).tables hs) n

/-! ### The survey unit's completions -/

theorem setWatch_tapsKept (b : Nat) (w : Watch) (s : State) : TapsKept s (s.setWatch b w) :=
  .of_carried (setWatch_kept b w s).tables rfl

theorem changeBranch_tapsKept (n : Nat) (f : Branch → Branch) (s : State) : TapsKept s (changeBranch n f s) :=
  .of_butBranches (changeBranch_kept n f s).tables (changeBranch_butBranches n f s)

theorem raiseAlarm_tapsKept (k : AlarmKind) (o : Nat) (s : State) : TapsKept s (raiseAlarm k o s) :=
  .of_butAlarms (raiseAlarm_butAlarms k o s)

theorem endAlarm_tapsKept (k : AlarmKind) (o : Nat) (s : State) : TapsKept s (endAlarm k o s) :=
  .of_butAlarms (endAlarm_butAlarms k o s)

theorem postReport_tapsKept (b : Nat) (old new : Option StationReport) (s : State) : TapsKept s (postReport b old new s) := by
  have ends : ∀ k f u, TapsKept u (endStation k f b old new u) := fun k f u => .ite (endAlarm_tapsKept k b u) (.refl u)
  have raises : ∀ k f u, TapsKept u (raiseStation k f b old new u) := fun k f u => .ite (raiseAlarm_tapsKept k b u) (.refl u)
  unfold postReport
  extract_lets s1 s2 s3 s4 s5 s6
  have h3 : TapsKept s s3 := (ends _ _ s).trans ((ends _ _ s1).trans (ends _ _ s2))
  have h6 : TapsKept s s6 := h3.trans ((raises _ _ s3).trans ((raises _ _ s4).trans (raises _ _ s5)))
  exact .ite h6 (h6.trans (changeBranch_tapsKept _ _ _))

theorem becomeSilent_tapsKept (b : Nat) (s : State) : TapsKept s (becomeSilent b s) :=
  (setWatch_tapsKept b _ s).trans ((changeBranch_tapsKept _ _ _).trans (raiseAlarm_tapsKept _ _ _))

theorem postSilenceEnd_tapsKept (b : Nat) (s : State) : TapsKept s (postSilenceEnd b s) :=
  (changeBranch_tapsKept b _ s).trans (endAlarm_tapsKept _ _ _)

theorem pollCompleted_tapsKept (b : Nat) (o : TxnOutcome) (r : Option StationReport) (s : State) :
    TapsKept s (pollCompleted b o r s) := by
  have answered : ∀ x, TapsKept s (pollAnswered b x s) := fun x =>
    (TapsKept.ite ((setWatch_tapsKept b _ s).trans (postSilenceEnd_tapsKept b _)) (setWatch_tapsKept b _ s)).trans
      (postReport_tapsKept _ _ _ _)
  have silent : TapsKept s (pollSaidNothing b s) := by
    unfold pollSaidNothing
    extract_lets w
    split <;> first | exact setWatch_tapsKept _ _ _ | exact .refl s
  have failed : TapsKept s (pollFailed b s) := by
    unfold pollFailed
    extract_lets w
    split
    · exact .ite (becomeSilent_tapsKept b s) (setWatch_tapsKept _ _ _)
    · exact setWatch_tapsKept _ _ _
    · exact .refl s
  refine .ite ?_ (.refl s)
  split
  · exact answered _
  · exact .refl s
  · exact silent
  · exact .ite failed silent
  · exact .ite failed silent

theorem surveyCompleted_tapsKept (c : Completion) (s : State) : TapsKept s (surveyCompleted c s) := by
  have audit : TapsKept s (auditCompleted c s) := by
    unfold auditCompleted
    extract_lets _ s1
    have h1 : TapsKept s s1 := .of_records rfl rfl
    split
    · exact h1.trans (intakeReply_tapsKept _ _ _ _ _)
    · exact h1.trans (.ite (setReach_tapsKept _ _ _) (.refl _))
  unfold surveyCompleted
  split
  · exact pollCompleted_tapsKept _ _ _ s
  · exact audit

theorem technicianCompleted_tapsKept (c : Completion) (s : State) : TapsKept s (technicianCompleted c s) := by
  have intake : ∀ u, TapsKept u (technicianIntake c u) := fun u => by
    unfold technicianIntake
    split
    · exact intakeReply_tapsKept _ _ _ _ u
    · exact .refl u
  unfold technicianCompleted
  split
  · exact (TapsKept.of_butPorts (putNotice_butPorts .technician 163 _ s)).trans
      ((TapsKept.of_records (by rfl) (by rfl)).trans (intake _))
  · exact .refl s

/-! ### The completion record is handed over -/

theorem countRepeat_tapsKept (s : State) : TapsKept s (countRepeat s) := .ite (.of_records rfl rfl) (.refl s)

/-- A completion of another requester than the port synchroniser. -/
theorem handOver_tapsKept {c : Completion} (hr : c.requester ≠ .sync) (s : State) : TapsKept s (handOver c s) := by
  unfold handOver
  split
  · exact countRepeat_tapsKept s
  · exact technicianCompleted_tapsKept c s
  · exact absurd ‹_› hr
  · exact surveyCompleted_tapsKept c s

theorem handOver_sync {c : Completion} (hr : c.requester = .sync) (s : State) : handOver c s = syncCompleted c s := by
  rw [handOver, hr]

theorem syncCompleted_butTaps (c : Completion) (s : State) : (syncCompleted c s).butTaps = s.butTaps := by
  unfold syncCompleted
  split
  · exact portSetAnswered_butTaps _ _ _ _ _ _ s
  · exact portSetFailed_butTaps _ _ s

theorem handOver_records (c : Completion) (s : State) : RecordsKept s (handOver c s) := by
  by_cases hr : c.requester = .sync
  · rw [handOver_sync hr, syncCompleted]
    split
    · exact portSetAnswered_records _ _ _ _ _ _ s
    · exact portSetFailed_records _ _ s
  · exact (handOver_tapsKept hr s).toRecordsKept

theorem handOver_engine (c : Completion) (s : State) : (handOver c s).engine = s.engine ∧ (handOver c s).link = s.link := by
  by_cases hr : c.requester = .sync
  · rw [handOver_sync hr]
    exact ⟨engine_of_butTaps (syncCompleted_butTaps c s), link_of_butTaps (syncCompleted_butTaps c s)⟩
  · exact ⟨(handOver_tapsKept hr s).engine, (handOver_tapsKept hr s).link⟩

theorem handOver_queue (hs : TablesSound s) (hq : QueueSound s) {c : Completion}
    (hf : c.requester = .sync → (s.tap c.addr).sync = .inFlight) : QueueSound (handOver c s) := by
  by_cases hr : c.requester = .sync
  · rw [handOver_sync hr, syncCompleted]
    split
    · exact portSetAnswered_queue hs hq (hf hr) _ _ _ _ _
    · exact portSetFailed_queue hs hq (hf hr) _
  · exact (handOver_tapsKept hr s).queue hs hq

/-! ### The transaction completes -/

/-- The engine becomes IDLE (R67). -/
def engineIdle (s : State) : State := { s with engine := { s.engine with state := .idle, txn := none, window := none } }

theorem engineIdle_records (s : State) : RecordsKept s (engineIdle s) :=
  .of_carried (HeadKept.of_records (by rfl)).tables (by rfl)

theorem EngineFree.idle (h : EngineFree s) : EngineSound (engineIdle s) := by
  obtain ⟨buffer, retries, stopped⟩ := h
  have empty : (engineIdle s).engine.buffer = [] := buffer
  exact ⟨by simp [engineIdle], by simp [engineIdle], by simp [empty], fun hb => absurd empty hb,
    fun x hx => by simp [engineIdle] at hx, retries, fun hr => ⟨buffer, stopped hr⟩⟩

theorem completeTxn_eq (x : Txn) (o : TxnOutcome) (r : Option Reply) (s : State) : completeTxn x o r s =
    arbitrate (engineIdle (handOver ⟨x.requester, x.cls, x.addr, x.cmd, x.used, o, r⟩ s)) := rfl

theorem completeTxn_records (x : Txn) (o : TxnOutcome) (r : Option Reply) (s : State) :
    RecordsKept s (completeTxn x o r s) :=
  (handOver_records _ s).trans ((engineIdle_records _).trans (arbitrate_plantKept _).toRecordsKept)

/-- R67, R68: the completion of a transaction leaves the engine and the sync set sound. -/
theorem completeTxn_sound (hs : TablesSound s) (h : EngineFree s) (hq : QueueSound s) {x : Txn}
    (hf : x.requester = .sync → (s.tap x.addr).sync = .inFlight) (o : TxnOutcome) (r : Option Reply) :
    EngineSound (completeTxn x o r s) ∧ SyncSound (completeTxn x o r s) := by
  rw [completeTxn_eq]
  generalize hc : (⟨x.requester, x.cls, x.addr, x.cmd, x.used, o, r⟩ : Completion) = c
  have tables := (handOver_records c s).tables hs
  obtain ⟨engine, link⟩ := handOver_engine c s
  have free : EngineFree (handOver c s) := by unfold EngineFree; rw [engine, link]; exact h
  have queue : QueueSound (handOver c s) := handOver_queue hs hq fun hr => by subst hc; exact hf hr
  exact (arbitrate_plantKept _).carrier ((engineIdle_records _).tables tables) free.idle
    (syncSound_iff.2 ⟨queue, fun y hy => by simp [engineIdle] at hy⟩)

/-! ### The end of an attempt (R65 to R67) -/

/-- R65, R66: the window ends and the buffer is emptied. -/
theorem closeAttempt_records (s : State) : RecordsKept s (closeAttempt s) :=
  RecordsKept.trans (t := { s with engine := { s.engine with window := none, buffer := [] } })
    (.of_carried (HeadKept.of_records (by rfl)).tables (by rfl)) (countFrames_plantKept _ _).toRecordsKept

/-- Counting a frame leaves the engine but the noise, the link settings, the taps and the sync set. -/
theorem countNoise_engine (s : State) :
    { (countNoise s).engine with noiseCount := 0, noiseActive := false }
      = { s.engine with noiseCount := 0, noiseActive := false } ∧
    (countNoise s).link = s.link ∧ (countNoise s).taps = s.taps ∧ (countNoise s).syncSet = s.syncSet := by
  have alarmed : ∀ u : State, (raiseAlarm .returnNoise 0 u).engine = u.engine ∧ (raiseAlarm .returnNoise 0 u).link = u.link ∧
      (raiseAlarm .returnNoise 0 u).taps = u.taps ∧ (raiseAlarm .returnNoise 0 u).syncSet = u.syncSet := fun u =>
    have but := raiseAlarm_butAlarms .returnNoise 0 u
    ⟨engine_of_butTaps (butTaps_of_butAlarms but), link_of_butTaps (butTaps_of_butAlarms but), taps_of_butAlarms but,
      syncSet_of_butAlarms but⟩
  unfold countNoise
  dsimp only
  split
  · simp only [alarmed, and_self]
  · exact ⟨rfl, rfl, rfl, rfl⟩

theorem countFrames_engine (n : Nat) (s : State) :
    { (countFrames n s).engine with noiseCount := 0, noiseActive := false }
      = { s.engine with noiseCount := 0, noiseActive := false } ∧
    (countFrames n s).link = s.link ∧ (countFrames n s).taps = s.taps ∧ (countFrames n s).syncSet = s.syncSet := by
  induction n generalizing s with
  | zero => exact ⟨rfl, rfl, rfl, rfl⟩
  | succ n ih =>
    obtain ⟨engine, link, taps, syncSet⟩ := ih (countNoise s)
    obtain ⟨engine', link', taps', syncSet'⟩ := countNoise_engine s
    exact ⟨engine.trans engine', link.trans link', taps.trans taps', syncSet.trans syncSet'⟩

theorem countNoise_txn (s : State) : (countNoise s).engine.txn = s.engine.txn :=
  (congrArg Engine.txn (countNoise_engine s).1 :)

/-- What stands when an attempt has been closed. -/
theorem closeAttempt_free (he : EngineSound s) (hq : QueueSound s) :
    EngineFree (closeAttempt s) ∧ QueueSound (closeAttempt s) ∧ ∀ k, (closeAttempt s).tap k = s.tap k := by
  obtain ⟨engine, link, taps, syncSet⟩ := countFrames_engine s.engine.buffer.length
    { s with engine := { s.engine with window := none, buffer := [] } }
  obtain ⟨-, -, -, -, -, retries, stopped⟩ := he
  have read : ∀ k, (closeAttempt s).tap k = s.tap k := fun k => (tap_of_taps taps k).trans rfl
  have buffer : (closeAttempt s).engine.buffer = [] := (congrArg Engine.buffer engine :)
  have returnOn : (closeAttempt s).engine.returnOn = s.engine.returnOn := (congrArg Engine.returnOn engine :)
  have inFrame : (closeAttempt s).engine.inFrame = s.engine.inFrame := (congrArg Engine.inFrame engine :)
  have retries' : (closeAttempt s).link.retries ≤ 3 := (congrArg Link.retries link :).trans_le retries
  refine ⟨⟨buffer, retries', fun hr => ?_⟩, hq.congr syncSet fun k => by rw [read]; exact ⟨rfl, rfl⟩, read⟩
  rw [inFrame]
  exact (stopped (returnOn ▸ hr)).2

theorem beginAttempt_records (x : Txn) (s : State) : RecordsKept s (beginAttempt x s) :=
  .of_carried (beginAttempt_kept x s).tables (by rfl)

/-- R67: an attempt that ends is followed by another, or the transaction completes. -/
theorem failAttempt_plantKept {x : Txn} (hx : s.engine.txn = some x) (f : Failure) : PlantKept s (failAttempt x f s) := by
  have closed := closeAttempt_records s
  refine .of (closed.trans (.ite (completeTxn_records _ _ _ _) (.ite (beginAttempt_records _ _) (completeTxn_records _ _ _ _))))
    ⟨(failAttempt_kept x f s).tables, fun hs he hq => ?_⟩
  obtain ⟨queue, flight⟩ := syncSound_iff.1 hq
  obtain ⟨free, queue', read⟩ := closeAttempt_free he queue
  have hf : x.requester = .sync → ((closeAttempt s).tap x.addr).sync = .inFlight := fun hr => by
    rw [read]; exact flight x hx hr
  obtain ⟨-, -, -, -, attempts, -, -⟩ := he
  obtain ⟨least, most, limit⟩ := attempts x hx
  have done := completeTxn_sound (closed.tables hs) free queue' hf
  unfold failAttempt
  extract_lets u
  split
  · exact done _ _
  · split
    · exact beginAttempt_sound free queue' ⟨Nat.le_add_left 1 _, by assumption, limit⟩ hf
    · exact done _ _

theorem succeedAttempt_plantKept {x : Txn} (hx : s.engine.txn = some x) (r : Reply) :
    PlantKept s (succeedAttempt x r s) := by
  have closed := closeAttempt_records s
  refine .of (closed.trans (completeTxn_records _ _ _ _))
    ⟨fun hs => (completeTxn_records _ _ _ _).tables (closed.tables hs), fun hs he hq => ?_⟩
  obtain ⟨queue, flight⟩ := syncSound_iff.1 hq
  obtain ⟨free, queue', read⟩ := closeAttempt_free he queue
  exact completeTxn_sound (closed.tables hs) free queue' (fun hr => by rw [read]; exact flight x hx hr) _ _

theorem judgeFrame_plantKept {x : Txn} (hx : s.engine.txn = some x) (f : Frame) : PlantKept s (judgeFrame x f s) := by
  have counted : PlantKept s (failAttempt x .faultyReply (countNoise s)) :=
    (countNoise_plantKept s).trans (failAttempt_plantKept ((countNoise_txn s).trans hx) _)
  unfold judgeFrame
  refine .ite counted (.ite (.ite counted (countNoise_plantKept s)) ?_)
  unfold judgeReply
  split
  · exact .ite (succeedAttempt_plantKept hx _) (failAttempt_plantKept hx _)
  · exact failAttempt_plantKept hx _

theorem takeFrame_plantKept {x : Txn} (hx : s.engine.txn = some x) : PlantKept s (takeFrame x s) := by
  unfold takeFrame
  split
  · rename_i f rest hbuf
    have left : PlantKept s { s with engine := { s.engine with buffer := rest } } := by
      refine .of_engine (by rfl) (by rfl) rfl fun he => ?_
      obtain ⟨idle, awaiting, short, waits, attempts, retries, stopped⟩ := he
      rw [hbuf] at short waits stopped
      exact ⟨idle, awaiting, by simp at short ⊢; omega, fun _ => waits (by simp), attempts, retries,
        fun hr => absurd (stopped hr).1 (by simp)⟩
    exact left.trans (judgeFrame_plantKept (s := { s with engine := { s.engine with buffer := rest } }) hx f)
  · exact .refl s

/-- R64: the message has left. -/
theorem transmitted_plantKept {x : Txn} (hx : s.engine.txn = some x) (hstate : s.engine.state = .sending) :
    PlantKept s (transmitted x s) := by
  unfold transmitted
  split
  · refine .of (completeTxn_records _ _ _ s) ⟨(completeTxn_records _ _ _ s).tables, fun hs he hq => ?_⟩
    obtain ⟨queue, flight⟩ := syncSound_iff.1 hq
    exact completeTxn_sound hs (he.free (by simp [hstate])) queue (flight x hx) _ _
  · refine .of_engine (by rfl) (by rfl) rfl fun he => ?_
    obtain ⟨idle, awaiting, short, waits, attempts, retries, stopped⟩ := he
    exact ⟨by simp [hx], by simp, short, fun _ => rfl, attempts, retries, stopped⟩

end Completion

end Sys2Proof.Machine


namespace Sys2Proof.Machine

/-! ## What an act on the records and the events does to what is desired of the taps (R38, R48)

`Rewritten D s t`: `t` is `s` with records or events written, so that no other tap than those of `D` is desired to be
otherwise. Each act of the subscriber store and of the event scheduler writes so and then tests the taps of `D`. -/

section Written
variable {s t : State}

/-- The events of a record's purchases. -/
def Subscriber.bought (r : Subscriber) : List Nat := r.purchases.map Purchase.event

/-- Whether a record holds a purchase of the SHOWING event turns on which event is SHOWING and who bought it. -/
theorem holdsShowing_congr (events : ∀ e, (t.event e).state = .showing ↔ (s.event e).state = .showing) {r v : Subscriber}
    (bought : ∀ e, (s.event e).state = .showing → (e ∈ v.bought ↔ e ∈ r.bought)) :
    t.holdsShowing v = s.holdsShowing r := by
  rw [holdsShowing_eq, holdsShowing_eq, Bool.eq_iff_iff]
  simp only [List.any_eq_true, decide_eq_true_eq]
  constructor
  · rintro ⟨e, he, hshow⟩
    have shows := (events e).1 hshow
    exact ⟨e, (bought e shows).1 he, shows⟩
  · rintro ⟨e, he, hshow⟩
    exact ⟨e, (bought e hshow).2 he, (events e).2 hshow⟩

/-- `t` is `s` with records or events written that change what is desired of the taps of `D` alone. -/
structure Rewritten (D : Nat → Prop) (s t : State) : Prop where
  tables : TablesSound s → TablesSound t
  taps : t.taps = s.taps
  syncSet : t.syncSet = s.syncSet
  engine : t.engine = s.engine
  link : t.link = s.link
  claims : TablesSound s → ClaimsSound s → ClaimsSound t
  desire : TablesSound s → ∀ k, ¬ D k → SameDesire s t k

theorem Rewritten.carrierKept {D : Nat → Prop} (h : Rewritten D s t) : CarrierKept s t :=
  .of_queue h.tables h.engine h.link
    (fun _ hq => hq.congr h.syncSet fun k => by rw [tap_of_taps h.taps]; exact ⟨rfl, rfl⟩)
    fun _ k hk => by rw [tap_of_taps h.taps]; exact hk

theorem Rewritten.claimsKept {D : Nat → Prop} (h : Rewritten D s t) : ClaimsKept s t := ⟨h.tables, h.claims⟩

theorem Rewritten.stands {D : Nat → Prop} (h : Rewritten D s t) (hs : TablesSound s) (hk : StepsSound s) {k : Nat}
    (hD : ¬ D k) : TapStands t k := (hk.stands k).of_tap (h.desire hs k hD) (tap_of_taps h.taps k)

/-- Where no desire changes, nothing is tested. -/
theorem Rewritten.plantKept (h : Rewritten (fun _ => False) s t) : PlantKept s t :=
  .of { h.claimsKept with steps := fun hs hk => .of_stands fun _ => h.stands hs hk id } h.carrierKept

/-- R48: the tap whose desire changes is tested, and the arbiter decides. -/
theorem Rewritten.tested {o : Option Nat} (h : Rewritten (fun k => o = some k) s t) :
    PlantKept s (arbitrate (entryTestOf o t)) := by
  have test := entryTestOf_plantKept o t
  refine PlantKept.trans (.of ?_ (h.carrierKept.trans test.toCarrierKept)) (arbitrate_plantKept _)
  exact { h.claimsKept.trans test.toClaimsKept with
    steps := fun hs hk => .of_stands fun k => .entryTestOf (h.tables hs) o fun hne => h.stands hs hk hne }

/-- R153, R154, R158: the taps of an event's buyers are tested, each at its buyer's turn. -/
theorem Rewritten.announced {e : Nat} (h : Rewritten (fun k => ∃ n ∈ t.buyersOf e, (t.sub n).tap = some k) s t)
    {f : State → State} (hf : ∀ u, PlantKept u (f u)) (o : EventState) : PlantKept s (announceEvent f e o t) := by
  have test : PlantKept t (testBuyers e t) := forEach_plantKept _ (fun n u => entryTestOf_plantKept (u.sub n).tap u) t
  have decides : ∀ u, PlantKept u (decideTiers u) := fun u => .of_butSlots decideTiers_tables (decideTiers_butSlots u)
  have tells : ∀ u, PlantKept u (eventNotice e o u) := fun u => .of_butPorts (noticeTo_butPorts _ _ _ u)
  refine PlantKept.trans (.of ?_ (h.carrierKept.trans test.toCarrierKept)) ((hf _).trans ((decides _).trans (tells _)))
  exact { h.claimsKept.trans test.toClaimsKept with
    steps := fun hs hk => by
      refine stepsSound_of_tests (g := fun n u => (u.sub n).tap) (fun n o u => ?_) _ t (h.tables hs) fun k => ?_
      · rw [State.sub, subs_of_butSync (entryTestOf_butSync o u)]; rfl
      · by_cases hb : ∃ n ∈ t.buyersOf e, (t.sub n).tap = some k
        · exact .inl hb
        · exact .inr (h.stands hs hk hb) }

/-! ### What is desired -/

/-- What is desired of a tap turns on the revision and on the records that name it. -/
theorem SameDesire.of_records (hs : TablesSound s) (ht : TablesSound t) (revision : t.revision = s.revision)
    (events : ∀ e, (t.event e).state = .showing ↔ (s.event e).state = .showing) {k : Nat}
    (records : ∀ n, (s.sub n).names k ∨ (t.sub n).names k → t.claim n = s.claim n ∧
      ∀ e, (s.event e).state = .showing → (e ∈ (t.sub n).bought ↔ e ∈ (s.sub n).bought)) : SameDesire s t k :=
  ⟨revision, desiredMask_congr hs.subs ht.subs fun n hn =>
    ⟨(records n hn).1, holdsShowing_congr events (records n hn).2⟩⟩

/-- One record has been written, that does not name the tap and has not. -/
theorem SameDesire.of_record (hs : TablesSound s) (ht : TablesSound t) (revision : t.revision = s.revision)
    (events : ∀ e, (t.event e).state = .showing ↔ (s.event e).state = .showing) {n k : Nat}
    (others : ∀ j, j ≠ n → t.sub j = s.sub j) (before : ¬ (s.sub n).names k) (after : ¬ (t.sub n).names k) :
    SameDesire s t k :=
  .of_records hs ht revision events fun j hj => by
    have hne : j ≠ n := by
      rintro rfl
      exact hj.elim before after
    rw [State.claim, State.claim, others j hne]
    exact ⟨rfl, fun _ _ => .rfl⟩

/-- The claims stay sound where no record gains one. -/
theorem ClaimsSound.of_fewer (h : ClaimsSound s) (taps : t.taps = s.taps)
    (hc : ∀ n, (t.sub n).status = .active →
      (s.sub n).status = .active ∧ (t.sub n).tap = (s.sub n).tap ∧ (t.sub n).port = (s.sub n).port) : ClaimsSound t := by
  obtain ⟨named, alone⟩ := h
  refine ⟨fun n hn => ?_, fun n k hn hk htap hport => ?_⟩
  · obtain ⟨status, tap, port⟩ := hc n hn
    obtain ⟨a, p, ha, hp, hin, hr⟩ := named n status
    exact ⟨a, p, tap.trans ha, port.trans hp, by rw [tap_of_taps taps]; exact hin, hr⟩
  · obtain ⟨status, tap, port⟩ := hc n hn
    obtain ⟨status', tap', port'⟩ := hc k hk
    exact alone n k status status' (tap ▸ tap' ▸ htap) (port ▸ port' ▸ hport)

/-- Where records and events change only in what no tap is asked for. -/
theorem Rewritten.of_claims (tables : TablesSound s → TablesSound t) (taps : t.taps = s.taps)
    (syncSet : t.syncSet = s.syncSet) (engine : t.engine = s.engine) (link : t.link = s.link)
    (revision : t.revision = s.revision) (claims : TablesSound s → ∀ n, t.claim n = s.claim n)
    (events : TablesSound s → ∀ e, (t.event e).state = .showing ↔ (s.event e).state = .showing)
    (bought : TablesSound s → ∀ n e, (s.event e).state = .showing → (e ∈ (t.sub n).bought ↔ e ∈ (s.sub n).bought)) :
    Rewritten (fun _ => False) s t where
  tables := tables
  taps := taps
  syncSet := syncSet
  engine := engine
  link := link
  claims hs hc := hc.congr (claims hs) fun k hk => by rw [tap_of_taps taps]; exact hk
  desire hs _ _ := .of_records hs (tables hs) revision (events hs) fun n _ => ⟨claims hs n, bought hs n⟩

/-! ### An event starts, ends or is cancelled -/

theorem bought_map (r : Subscriber) {f : Purchase → Purchase} (hf : ∀ p, (f p).event = p.event) (e : Nat) :
    (r.purchases.map fun p => if p.event = e then f p else p).map Purchase.event = r.bought := by
  rw [List.map_map, Subscriber.bought]
  refine List.map_congr_left fun p _ => ?_
  simp only [Function.comp]
  split
  · exact hf p
  · rfl

/-- What a pass over the buyers leaves of a record. -/
theorem mapPurchases_sub (hs : TablesSound s) (e : Nat) (f : Purchase → Purchase) (n : Nat) :
    (mapPurchases e f s).sub n = if n ∈ s.buyersOf e then
      { s.sub n with purchases := (s.sub n).purchases.map fun p => if p.event = e then f p else p } else s.sub n :=
  forEach_setSub (f := fun r => { r with purchases := r.purchases.map fun p => if p.event = e then f p else p }) _
    ((tabWhere_sorted hs.subs _).imp Nat.ne_of_lt) hs.subs n

theorem mapPurchases_butSubs (e : Nat) (f : Purchase → Purchase) (s : State) :
    (mapPurchases e f s).butSubs = s.butSubs := by
  unfold mapPurchases
  refine forEach_frame State.butSubs _ _ (fun _ _ => ?_) s
  rfl

/-- The desire of the taps of an event's buyers changes with the state of the event, and no other. -/
theorem Rewritten.of_event {e : Nat} (tables : TablesSound s → TablesSound t) (taps : t.taps = s.taps)
    (syncSet : t.syncSet = s.syncSet) (engine : t.engine = s.engine) (link : t.link = s.link)
    (revision : t.revision = s.revision) (claims : TablesSound s → ∀ n, t.claim n = s.claim n)
    (events : TablesSound s → ∀ k, k ≠ e → t.event k = s.event k)
    (bought : TablesSound s → ∀ n, (t.sub n).bought = (s.sub n).bought) :
    Rewritten (fun k => ∃ n ∈ t.buyersOf e, (t.sub n).tap = some k) s t where
  tables := tables
  taps := taps
  syncSet := syncSet
  engine := engine
  link := link
  claims hs hc := hc.congr (claims hs) fun k hk => by rw [tap_of_taps taps]; exact hk
  desire hs k hk := by
    refine ⟨revision, desiredMask_congr hs.subs (tables hs).subs fun n hn => ⟨claims hs n, ?_⟩⟩
    have names : (t.sub n).names k := hn.elim (Subscriber.names_of_claim (claims hs n) k).2 id
    have other : e ∉ (t.sub n).bought := fun he => hk ⟨n, (mem_buyersOf (tables hs).subs).2 he, names.2⟩
    rw [holdsShowing_eq, holdsShowing_eq, Bool.eq_iff_iff]
    simp only [List.any_eq_true, decide_eq_true_eq]
    change (∃ j ∈ (t.sub n).bought, _) ↔ ∃ j ∈ (s.sub n).bought, _
    rw [← bought hs n]
    refine exists_congr fun j => and_congr_right fun hj => ?_
    rw [events hs j fun hje => other (hje ▸ hj)]

/-- The state of an event is written and its entries are settled. -/
theorem rewritten_mapPurchases (e : Nat) (v : EventState) {f : Purchase → Purchase} (hf : ∀ p, (f p).event = p.event)
    (s : State) : Rewritten (fun k => ∃ n ∈ (mapPurchases e f (setEventState e v s)).buyersOf e,
      ((mapPurchases e f (setEventState e v s)).sub n).tap = some k) s (mapPurchases e f (setEventState e v s)) := by
  have but := mapPurchases_butSubs e f (setEventState e v s)
  have written : TablesSound s → TablesSound (setEventState e v s) := fun hs => hs.setEvent e _
  have tables := fun hs => (mapPurchases_kept e f _).tables (written hs)
  have read := fun hs n => mapPurchases_sub (written hs) e f n
  generalize mapPurchases e f (setEventState e v s) = t at but read tables ⊢
  have events : t.events = (setEventState e v s).events := show t.butSubs.events = _ from but ▸ rfl
  refine .of_event tables (show t.butSubs.taps = _ from but ▸ rfl) (show t.butSubs.syncSet = _ from but ▸ rfl)
    (show t.butSubs.engine = _ from but ▸ rfl) (show t.butSubs.link = _ from but ▸ rfl)
    (show t.butSubs.revision = _ from but ▸ rfl) (fun hs n => ?_) (fun hs k hk => ?_) fun hs n => ?_
  · rw [State.claim, read hs]
    split <;> rfl
  · rw [State.event, events]
    exact (event_setEvent hs.events e k _).trans (if_neg hk)
  · rw [read hs]
    split
    · exact bought_map _ hf e
    · rfl

section Decide
variable {f : State → State} (hf : ∀ u, PlantKept u (f u))
include hf

/-- R153: an event starts. -/
theorem startEvent_plantKept (e : Nat) (s : State) : PlantKept s (startEvent f e s) :=
  (Rewritten.of_event (fun hs => hs.setEvent e _) rfl rfl rfl rfl rfl (fun _ _ => rfl)
    (fun hs k hk => (event_setEvent hs.events e k _).trans (if_neg hk)) fun _ _ => rfl).announced hf .scheduled

/-- R154: an event ends. -/
theorem endEvent_plantKept (e : Nat) (s : State) : PlantKept s (endEvent f e s) :=
  (rewritten_mapPurchases e .ended (fun p => by unfold Purchase.settled; split <;> rfl) s).announced hf .showing

/-- R152: the events are evaluated. -/
theorem evaluateEvents_plantKept (m : Nat) (s : State) : PlantKept s (evaluateEvents f m s) := by
  have ends : PlantKept s (endShowing f m s) := by
    unfold endShowing
    split
    · exact .ite (endEvent_plantKept hf _ s) (.refl s)
    · exact .refl s
  have starts : ∀ e u, PlantKept u (takeStart f m e u) := fun e u =>
    .ite ((startEvent_plantKept hf e u).trans (endEvent_plantKept hf e _)) (startEvent_plantKept hf e u)
  exact ends.trans (forEach_plantKept _ starts _)

end Decide

/-- R158: the SHOWING event is cancelled. -/
theorem cancelShowing_plantKept (e : Nat) (s : State) : PlantKept s (cancelShowing e s) :=
  (rewritten_mapPurchases e .cancelled (f := fun p => { p with settlement := .refunded, charge := some 0 })
    (fun _ => rfl) s).announced arbitrate_plantKept .showing

/-! ### Scheduled events and purchases -/

/-- The state of an event that is not SHOWING is written, to another than SHOWING. -/
theorem showing_setEvent (hs : TablesSound s) {e : Nat} {v : Event} (before : (s.event e).state ≠ .showing)
    (after : v.state ≠ .showing) (k : Nat) : ((s.setEvent e v).event k).state = .showing ↔ (s.event k).state = .showing := by
  rw [event_setEvent hs.events]
  split
  · subst k; simp [before, after]
  · rfl

theorem forEach_removePurchase_sub (hs : TablesSound s) (e n : Nat) :
    (forEach (s.buyersOf e) (fun n u => removePurchase n e u) s).sub n = if n ∈ s.buyersOf e then
      { s.sub n with purchases := (s.sub n).purchases.filter fun p => decide (p.event ≠ e) } else s.sub n :=
  forEach_setSub (f := fun r => { r with purchases := r.purchases.filter fun p => decide (p.event ≠ e) }) _
    ((tabWhere_sorted hs.subs _).imp Nat.ne_of_lt) hs.subs n

theorem mem_bought_filter (r : Subscriber) {f : Purchase → Bool} {e : Nat} (hf : ∀ p, p.event = e → f p = true) :
    e ∈ (r.purchases.filter f).map Purchase.event ↔ e ∈ r.bought := by
  simp only [Subscriber.bought, List.mem_map, List.mem_filter]
  exact exists_congr fun p => ⟨fun ⟨⟨hp, _⟩, he⟩ => ⟨hp, he⟩, fun ⟨hp, he⟩ => ⟨⟨hp, hf p he⟩, he⟩⟩

/-- R158: a SCHEDULED event is cancelled. -/
theorem cancelScheduled_plantKept {e : Nat} (he : (s.event e).state = .scheduled) : PlantKept s (cancelScheduled e s) := by
  unfold cancelScheduled
  extract_lets u
  have tables : TablesSound s → TablesSound u := fun hs =>
    (forEach_kept _ (fun n v => setSub_kept n _ v) s).tables hs
  have but : u.butSubs = s.butSubs := by
    refine forEach_frame State.butSubs _ _ (fun _ _ => ?_) s
    rfl
  have read := fun hs n => forEach_removePurchase_sub (s := s) hs e n
  change TablesSound s → ∀ n, u.sub n = _ at read
  clear_value u
  have events : u.events = s.events := show u.butSubs.events = _ from but ▸ rfl
  have event : ∀ k, u.event k = s.event k := fun k => by rw [State.event, events]; rfl
  have written : Rewritten (fun _ => False) s (u.setEvent e { u.event e with state := .cancelled, buyers := 0 }) := by
    refine .of_claims (fun hs => (tables hs).setEvent e _) (show u.butSubs.taps = _ from but ▸ rfl)
      (show u.butSubs.syncSet = _ from but ▸ rfl) (show u.butSubs.engine = _ from but ▸ rfl)
      (show u.butSubs.link = _ from but ▸ rfl) (show u.butSubs.revision = _ from but ▸ rfl) (fun hs n => ?_)
      (fun hs k => ?_) fun hs n k hk => ?_
    · change (u.sub n).claim = _
      rw [read hs]
      split <;> rfl
    · rw [showing_setEvent (tables hs) (by rw [event, he]; decide) (by simp), event]
    · change k ∈ (u.sub n).bought ↔ _
      rw [read hs]
      split
      · refine mem_bought_filter _ fun p hp => ?_
        have hne : p.event ≠ e := by rintro rfl; rw [hp] at he; simp [he] at hk
        simpa using hne
      · rfl
  exact written.plantKept.trans (.of_butPorts (noticeTo_butPorts _ _ _ _))

end Written

end Sys2Proof.Machine


namespace Sys2Proof.Machine

/-! ## The acts that write a record (R41 to R46, R151, R156, R157) -/

section Acts
variable {s t : State}

/-- A block whose check refuses, or else keeps. -/
theorem PlantKept.guard {c : Prop} [Decidable c] {x : State × Ans} (a : AnswerCode) (h : ¬ c → PlantKept s x.1) :
    PlantKept s (if c then refused a s else x).1 := by
  split
  · exact .refl s
  · exact h ‹_›

theorem PlantKept.answered {content : State → List Byte} (h : PlantKept s t) : PlantKept s (answered content t).1 := h

/-! ### Subscriber records -/

/-- One record is written: what its claim and its W, lock and purchases then ask, is asked of its tap alone. `t` may write
buyer counts too. -/
theorem Rewritten.of_setSub {n : Nat} {v : Subscriber} {o : Option Nat} (tables : TablesSound s → TablesSound t)
    (but : { t with events := [] } = { s.setSub n v with events := [] })
    (events : TablesSound s → ∀ e, (t.event e).state = (s.event e).state)
    (before : (s.sub n).status = .active → (s.sub n).tap = o) (after : v.status = .active → v.tap = o)
    (claims : TablesSound s → ClaimsSound s → ClaimsSound (s.setSub n v)) : Rewritten (fun k => o = some k) s t := by
  have subs : t.subs = (s.setSub n v).subs := (congrArg State.subs but :)
  have taps : t.taps = s.taps := (congrArg State.taps but :)
  exact
    { tables := tables
      taps := taps
      syncSet := (congrArg State.syncSet but :)
      engine := (congrArg State.engine but :)
      link := (congrArg State.link but :)
      claims := fun hs hc => show ClaimsSound { t with events := [] } from but ▸ claims hs hc
      desire := fun hs k hk => by
        have read : ∀ j, t.sub j = if j = n then v else s.sub j := fun j => by
          rw [State.sub, subs]; exact sub_setSub hs.subs n j v
        refine .of_record (n := n) hs (tables hs) (congrArg State.revision but :) (fun e => by rw [events hs]) (fun j hj => ?_)
          (fun h => hk ((before h.1).symm.trans h.2)) fun h => ?_
        · rw [read, if_neg hj]
        · rw [read, if_pos rfl] at h
          exact hk ((after h.1).symm.trans h.2) }

/-- A record that was no claimant, or gains no claim, leaves the claims sound. -/
theorem ClaimsSound.setSub_fewer (hs : TablesSound s) (h : ClaimsSound s) {n : Nat} {v : Subscriber}
    (hv : v.status = .active → (s.sub n).status = .active ∧ v.tap = (s.sub n).tap ∧ v.port = (s.sub n).port) :
    ClaimsSound (s.setSub n v) :=
  h.of_fewer rfl fun j hj => by
    rw [sub_setSub hs.subs] at hj ⊢
    by_cases hne : j = n
    · rw [if_pos hne] at hj ⊢; exact hne ▸ hv hj
    · rw [if_neg hne] at hj ⊢; exact ⟨hj, rfl, rfl⟩

/-- R41: a record that claims a port which no other claims. -/
theorem ClaimsSound.setSub_added (hs : TablesSound s) (h : ClaimsSound s) {n a p : Nat} {v : Subscriber}
    (tap : v.tap = some a) (port : v.port = some p) (installed : (s.tap a).installed = true) (range : within 1 4 p = true)
    (alone : s.claimant a p = none) : ClaimsSound (s.setSub n v) := by
  obtain ⟨named, single⟩ := h
  have free := (claimant_eq_none hs.subs).1 alone
  refine ⟨fun j hj => ?_, fun j k hj hk htap hport => ?_⟩
  · rw [sub_setSub hs.subs] at hj ⊢
    split at hj
    · simp only [if_true, *]
      exact ⟨a, p, rfl, rfl, installed, range⟩
    · rename_i hne
      simp only [if_neg hne]
      exact named j hj
  · rw [sub_setSub hs.subs] at hj hk htap hport
    rw [sub_setSub hs.subs] at htap hport
    by_cases hjn : j = n <;> by_cases hkn : k = n <;> simp only [hjn, hkn, if_true, if_false] at hj hk htap hport ⊢
    · exact absurd (hport.symm.trans port) (free k ⟨hk, htap.symm.trans tap⟩)
    · exact absurd (hport.trans port) (free j ⟨hj, htap.trans tap⟩)
    · exact single j k hj hk htap hport

theorem subscriberAdd_plantKept (a : AddArgs) (s : State) : PlantKept s (subscriberAdd a s).1 := by
  unfold subscriberAdd
  refine .guard _ fun hrange => .guard _ fun hinstalled => .guard _ fun hclaimed => ?_
  split
  · exact .refl s
  · rename_i n _
    split
    · rename_i hfree
      have range : within 1 4 a.port = true := by
        by_contra hr
        simp [hr] at hrange
      exact Rewritten.tested (.of_setSub (n := n) (v := (s.sub n).added a (s.tap a.tap)) (o := some a.tap)
        (fun hs => hs.setSub n _) rfl (fun _ _ => rfl) (fun hn => absurd (hfree.symm.trans hn) (by decide)) (fun _ => rfl)
        fun hs hc => hc.setSub_added hs rfl rfl (by simpa using hinstalled) range (by simpa using hclaimed))
    · exact .refl s

/-- A record whose W or lock alone is written. -/
theorem rewritten_setSub {n : Nat} {v : Subscriber} (status : v.status = .active → (s.sub n).status = .active)
    (tap : v.tap = (s.sub n).tap) (port : v.port = (s.sub n).port) :
    Rewritten (fun k => (s.sub n).tap = some k) s (s.setSub n v) :=
  .of_setSub (fun hs => hs.setSub n v) rfl (fun _ _ => rfl) (fun _ => rfl) (fun _ => tap)
    fun hs hc => hc.setSub_fewer hs fun hv => ⟨status hv, tap, port⟩

theorem changeTiers_plantKept (n : Nat) (w : TierSet) (s : State) : PlantKept s (changeTiers n w s) :=
  .ite (.refl s) (Rewritten.tested (rewritten_setSub (fun hv => hv) rfl rfl))

theorem lockRecord_plantKept (v : Bool) (n : Nat) (s : State) : PlantKept s (lockRecord v n s) :=
  .ite (.refl s) (Rewritten.tested (rewritten_setSub (fun hv => hv) rfl rfl))

/-- What dropping buyers leaves: all but the buyer counts. -/
theorem dropBuyers_keep (l : List Nat) (s : State) :
    { forEach l dropBuyer s with events := [] } = { s with events := [] } :=
  forEach_frame (fun u : State => { u with events := [] }) l dropBuyer (fun _ _ => rfl) s

theorem dropBuyers_state (hs : TablesSound s) (l : List Nat) (e : Nat) :
    ((forEach l dropBuyer s).event e).state = (s.event e).state :=
  (forEach_keeps (P := fun u => TablesSound u ∧ (u.event e).state = (s.event e).state) l dropBuyer
    (fun n _ u hu => ⟨hu.1.setEvent n _, by
      rw [dropBuyer, event_setEvent hu.1.events]
      split
      · subst e; exact hu.2
      · exact hu.2⟩) s ⟨hs, rfl⟩).2

theorem removeSubscriber_plantKept (n : Nat) (s : State) : PlantKept s (removeSubscriber n s) :=
  Rewritten.tested (.of_setSub (n := n) (v := (s.sub n).removedBy s)
    (fun hs => (forEach_kept _ dropBuyer_kept _).tables (hs.setSub n _))
    (dropBuyers_keep _ _) (fun hs e => dropBuyers_state (hs.setSub n _) _ e) (fun _ => rfl)
    (fun hv => absurd (show SubStatus.removed = .active from hv) (by decide))
    fun hs hc => hc.setSub_fewer hs fun hv => absurd (show SubStatus.removed = .active from hv) (by decide))

/-! ### Purchases -/

/-- R156: a purchase list gains the entry inserted. -/
theorem mem_insertPurchase (f : Nat → Nat) (m : Nat) (p q : Purchase) (l : List Purchase) :
    q ∈ insertPurchase f m p l ↔ q = p ∨ q ∈ l := by
  induction l with
  | nil => simp [insertPurchase]
  | cons x l ih =>
    rw [insertPurchase]
    split
    · simp only [List.mem_cons, ih]; tauto
    · simp only [List.mem_cons]

/-- A record's purchases are written, and a buyer count: no tap is desired otherwise where the SHOWING event's purchases
stand. -/
theorem rewritten_purchases {n e : Nat} {l : List Purchase} {v : Event} (state : v.state = (s.event e).state)
    (bought : ∀ k, (s.event k).state = .showing → (k ∈ l.map Purchase.event ↔ k ∈ (s.sub n).bought)) :
    Rewritten (fun _ => False) s ((s.setSub n { s.sub n with purchases := l }).setEvent e v) := by
  have read : TablesSound s → ∀ k, ((s.setSub n { s.sub n with purchases := l }).setEvent e v).sub k =
      if k = n then { s.sub n with purchases := l } else s.sub k := fun hs k => sub_setSub hs.subs n k _
  refine .of_claims (fun hs => (hs.setSub n _).setEvent e v) rfl rfl rfl rfl rfl (fun hs k => ?_) (fun hs k => ?_)
    fun hs k j hj => ?_
  · rw [State.claim, read hs]
    split
    · subst k; rfl
    · rfl
  · rw [event_setEvent (s := s.setSub n { s.sub n with purchases := l }) hs.events]
    split
    · subst k; rw [state]
    · rfl
  · rw [read hs]
    split
    · subst k; exact bought j hj
    · rfl

theorem addPurchase_plantKept (n e : Nat) (s : State) : PlantKept s (addPurchase n e s) := by
  unfold addPurchase
  extract_lets r u
  split
  · refine Rewritten.tested (.of_setSub (fun hs => (hs.setSub n _).setEvent e _) rfl (fun hs k => ?_) (fun _ => rfl)
      (fun _ => rfl) fun hs hc => hc.setSub_fewer hs fun hv => ⟨hv, rfl, rfl⟩)
    refine (congrArg Event.state (event_setEvent (hs.setSub n _).events e k _)).trans ?_
    split
    · subst k; rfl
    · rfl
  · rename_i hshow
    refine (rewritten_purchases (e := e) (l := insertPurchase s.startOf (s.startOf e) (.fresh e) r.purchases)
      (v := { s.event e with buyers := (s.event e).buyers + 1 }) rfl
      fun k hk => ?_).plantKept
    have hne : k ≠ e := by rintro rfl; exact hshow hk
    simp only [List.mem_map, mem_insertPurchase, Subscriber.bought, r]
    constructor
    · rintro ⟨p, rfl | hp, hpk⟩
      · exact absurd hpk.symm hne
      · exact ⟨p, hp, hpk⟩
    · rintro ⟨p, hp, hpk⟩
      exact ⟨p, .inr hp, hpk⟩

theorem purchase_plantKept (a : Nat × Nat) (s : State) : PlantKept s (purchase a s).1 := by
  unfold purchase
  exact .guard _ fun _ => .guard _ fun _ => .guard _ fun _ => .guard _ fun _ => .guard _ fun _ => .guard _ fun _ =>
    addPurchase_plantKept a.1 a.2 s

theorem purchaseCancel_plantKept (a : Nat × Nat) (s : State) : PlantKept s (purchaseCancel a s).1 := by
  unfold purchaseCancel
  refine .guard _ fun _ => .guard _ fun _ => .guard _ fun hstate => ?_
  refine (rewritten_purchases (e := a.2) (l := (s.sub a.1).purchases.filter fun p => decide (p.event ≠ a.2))
    (v := { s.event a.2 with buyers := (s.event a.2).buyers - 1 }) rfl
    fun k hk => mem_bought_filter _ fun p hp => ?_).plantKept
  have hne : p.event ≠ a.2 := by rintro he; exact hstate (by rw [← he, hp, hk]; decide)
  simpa using hne

/-! ### Taps -/

/-- One tap's record is written: the engine and the sync set stay sound where the tap is not in flight. -/
theorem CarrierKept.of_tap {n : Nat} (ht : TablesSound s → TablesSound t) (engine : t.engine = s.engine)
    (link : t.link = s.link) (others : TablesSound s → ∀ k, k ≠ n → t.tap k = s.tap k)
    (queue : TablesSound s → QueueSound s → QueueSound t ∧ (s.tap n).sync ≠ .inFlight) : CarrierKept s t := by
  refine ⟨ht, fun hs he hq => ⟨?_, ?_⟩⟩
  · unfold EngineSound
    rw [engine, link]
    exact he
  · obtain ⟨hq, hf⟩ := syncSound_iff.1 hq
    obtain ⟨hq', still⟩ := queue hs hq
    refine syncSound_iff.2 ⟨hq', fun x hx hr => ?_⟩
    have flies := hf x (engine ▸ hx) hr
    have hne : x.addr ≠ n := fun he => still (he ▸ flies)
    rw [others hs _ hne]
    exact flies

/-- R45: the record of an installed tap. -/
def Tap.installedOn (b : Nat) : Tap := { Tap.cold with installed := true, branch := some b }

theorem changeBranch_plantKept (n : Nat) (f : Branch → Branch) (s : State) : PlantKept s (changeBranch n f s) :=
  (changeBranch_tapsKept n f s).plant

/-- R45: a tap is installed and tested. -/
theorem installTap_plantKept {n : Nat} (b : Nat) (hn : (s.tap n).installed = false) : PlantKept s (installTap n b s) := by
  have posted : PlantKept (s.setTap n (.installedOn b)) (postInstalled b (s.setTap n (.installedOn b))) :=
    changeBranch_plantKept _ _ _
  have read : TablesSound s → ∀ k, (s.setTap n (.installedOn b)).tap k = if k = n then .installedOn b else s.tap k :=
    fun hs k => tap_setTap hs.taps n k _
  have written : CarrierKept s (s.setTap n (.installedOn b)) := by
    refine .of_tap (n := n) (fun hs => hs.setTap n _) rfl rfl (fun hs k hk => by rw [read hs, if_neg hk]) fun hs hq => ?_
    obtain ⟨nodup, queued, away⟩ := hq
    have still := away n hn
    refine ⟨⟨nodup, fun k => ?_, fun k hk => ?_⟩, by rw [still]; decide⟩
    · refine (queued k).trans ?_
      rw [read hs]
      split
      · subst k; rw [still]; rfl
      · rfl
    · rw [read hs] at hk ⊢
      split at hk
      · exact absurd (show true = false from hk) (by decide)
      · rename_i hne; rw [if_neg hne]; exact away k hk
  have claimed : ClaimsKept s (s.setTap n (.installedOn b)) := ⟨fun hs => hs.setTap n _, fun hs hc =>
    hc.congr (fun _ => rfl) fun k hk => by
      rw [read hs]
      split
      · rfl
      · exact hk⟩
  have test := entryTest_plantKept n (postInstalled b (s.setTap n (.installedOn b)))
  have but : (postInstalled b (s.setTap n (.installedOn b))).butBranches = (s.setTap n (.installedOn b)).butBranches :=
    postInstalled_butBranches _ _
  refine PlantKept.trans (.of ?_ ((written.trans posted.toCarrierKept).trans test.toCarrierKept)) (arbitrate_plantKept _)
  refine { (claimed.trans posted.toClaimsKept).trans test.toClaimsKept with
    steps := fun hs h => .of_stands fun k => .entryTest (posted.tables (written.tables hs)) n fun hk => ?_ }
  refine (h.stands k).of_tap ⟨show (State.butBranches _).revision = _ from but ▸ rfl,
    fun p => show (State.butBranches _).desiredMask k p = _ from but ▸ rfl⟩ ((tap_of_taps (taps_of_butBranches but) k).trans ?_)
  rw [read hs, if_neg hk]

theorem tapInstall_plantKept (a : Nat × Nat) (s : State) : PlantKept s (tapInstall a s).1 := by
  unfold tapInstall
  refine .guard _ fun _ => .guard _ fun hn => .guard _ fun _ => ?_
  exact installTap_plantKept a.2 (by simpa using hn)

/-- R46: what a removal writes beside the branches and the alarms: the sync set and the tap's record. -/
theorem removeTap_butBranches (n : Nat) (s : State) : (removeTap n s).butBranches =
    (({ s with syncSet := s.syncSet.erase n } : State).setTap n .cold).butBranches := by
  have ended : ∀ c k u, (endIf c k n u).butBranches = u.butBranches := fun c k u => by
    unfold endIf
    split
    · exact butBranches_of_butAlarms (endAlarm_butAlarms k n u)
    · rfl
  have gone : ∀ r u, (postTapGone r u).butBranches = u.butBranches := fun r u => by
    unfold postTapGone
    split
    · exact postRemoved_butBranches _ _ _
    · rfl
  have written : ∀ u v : State, u.butBranches = v.butBranches →
      (u.setTap n .cold).butBranches = (v.setTap n .cold).butBranches := fun u v h =>
    congrArg (fun w : State => w.setTap n .cold) h
  unfold removeTap endTapConditions
  dsimp only
  rw [ended]
  exact written _ _ (by rw [gone, ended, ended, ended])

theorem tapClaimed_eq_false {n : Nat} (h : s.tapClaimed n = false) (k : Nat) : ¬ (s.sub k).names n := by
  intro hk
  have listed : s.sub k ≠ .cold := fun hc => by
    have free : (s.sub k).status = .free := congrArg Subscriber.status hc
    exact absurd (free.symm.trans hk.1) (by decide)
  have mem := mem_of_tabGet_ne listed
  simp only [State.tapClaimed, List.any_eq_false, Bool.and_eq_true, decide_eq_true_eq, not_and] at h
  exact h _ mem hk.1 hk.2

/-- R46: a tap that no record claims and that is not in flight is removed. -/
theorem removeTap_plantKept {n : Nat} (hclaim : s.tapClaimed n = false) (hsync : (s.tap n).sync ≠ .inFlight) :
    PlantKept s (removeTap n s) := by
  have tables := (removeTap_kept n s).tables
  have but := removeTap_butBranches n s
  generalize removeTap n s = t at tables but
  have read : TablesSound s → ∀ k, t.tap k = if k = n then .cold else s.tap k := fun hs k =>
    (tap_of_taps (taps_of_butBranches but) k).trans (tap_setTap (s := { s with syncSet := s.syncSet.erase n }) hs.taps n k _)
  have syncSet : t.syncSet = s.syncSet.erase n := (syncSet_of_butBranches but).trans rfl
  have subs : t.subs = s.subs := (subs_of_butBranches but).trans rfl
  have same : ∀ k, SameDesire s t k := fun k =>
    ⟨show t.butBranches.revision = _ from but ▸ rfl, fun p => show t.butBranches.desiredMask k p = _ from but ▸ rfl⟩
  refine .of { tables := tables, claims := fun hs hc => ?_, steps := fun hs h => .of_stands fun k => ?_ }
    (.of_tap (n := n) tables (show t.butBranches.engine = _ from but ▸ rfl) (show t.butBranches.link = _ from but ▸ rfl)
      (fun hs k hk => by rw [read hs, if_neg hk]) fun hs hq => ⟨?_, hsync⟩)
  · obtain ⟨named, alone⟩ := hc
    have sub : ∀ k, t.sub k = s.sub k := fun k => by rw [State.sub, subs]; rfl
    simp only [ClaimsSound, sub]
    refine ⟨fun k hk => ?_, alone⟩
    obtain ⟨a, p, ha, hp, hin, hr⟩ := named k hk
    have hne : a ≠ n := by rintro rfl; exact tapClaimed_eq_false hclaim k ⟨hk, ha⟩
    exact ⟨a, p, ha, hp, by rw [read hs, if_neg hne]; exact hin, hr⟩
  · by_cases hk : k = n
    · exact .of_removed (by rw [read hs, if_pos hk]; rfl)
    · exact (h.stands k).of_tap (same k) (by rw [read hs, if_neg hk])
  · obtain ⟨nodup, queued, away⟩ := hq
    refine ⟨syncSet ▸ nodup.erase n, fun k => ?_, fun k hk => ?_⟩
    · rw [syncSet, nodup.mem_erase_iff, queued, read hs]
      split
      · simp [*, Tap.cold]
      · simp [*]
    · rw [read hs] at hk ⊢
      split
      · rfl
      · rename_i hne; rw [if_neg hne] at hk; exact away k hk

theorem tapRemove_plantKept (n : Nat) (s : State) : PlantKept s (tapRemove n s).1 := by
  unfold tapRemove
  refine .guard _ fun _ => .guard _ fun _ => .guard _ fun hno => ?_
  simp only [Bool.or_eq_true, decide_eq_true_eq, not_or, Bool.not_eq_true] at hno
  obtain ⟨⟨claimed, sync⟩, -⟩ := hno
  exact removeTap_plantKept claimed sync

/-! ### Events and slots -/

/-- An event that is not SHOWING is written. -/
theorem rewritten_setEvent {e : Nat} {v : Event} (before : (s.event e).state ≠ .showing) (after : v.state ≠ .showing) :
    Rewritten (fun _ => False) s (s.setEvent e v) :=
  .of_claims (fun hs => hs.setEvent e v) rfl rfl rfl rfl rfl (fun _ _ => rfl)
    (fun hs => showing_setEvent hs before after) fun _ _ _ _ => .rfl

theorem scheduleClamped_plantKept (a : ScheduleArgs) (s : State) : PlantKept s (scheduleClamped a s).1 := by
  unfold scheduleClamped
  refine .guard _ fun _ => .guard _ fun _ => .guard _ fun _ => .guard _ fun _ => ?_
  split
  · rename_i n hn
    have hfree : (s.event n).state = .free := by simpa using List.find?_some hn
    exact (rewritten_setEvent (by rw [hfree]; decide) (by simp [scheduledEvent])).plantKept
  · exact .refl s

theorem eventCancel_plantKept (e : Nat) (s : State) : PlantKept s (eventCancel e s).1 := by
  unfold eventCancel
  split
  · split
    · exact .refl s
    · exact (cancelScheduled_plantKept ‹_›).answered
    · exact (cancelShowing_plantKept e s).answered
    · exact .refl s
    · exact .refl s
  · exact .refl s

/-- R8: a new revision is posted: every installed tap is tested. -/
theorem postRevision_steps (hs : TablesSound s) : StepsSound (postRevision s) :=
  have reloaded : TablesSound (arbitrate (reloadBroadcast s)) := (arbitrate_kept _).tables hs
  (arbitrate_plantKept _).steps ((entryTestAll_kept _).tables reloaded) (entryTestAll_steps reloaded)

theorem postRevision_plantKept (s : State) : PlantKept s (postRevision s) :=
  (PlantKept.of_records (by rfl) (by rfl)).trans
    ((arbitrate_plantKept (reloadBroadcast s)).trans ((entryTestAll_plantKept _).trans (arbitrate_plantKept _)))

/-- What a SLOT SET leaves before its revision is posted: all that the claims and the carrier read. -/
def State.unrevised (s : State) : State := { s.carried with revision := 1 }

theorem unrevised_of_butSlots (h : t.butSlots = s.butSlots) : t.unrevised = s.unrevised :=
  show t.butSlots.unrevised = _ from h ▸ rfl
theorem unrevised_of_butSettings (h : t.butSettings = s.butSettings) : t.unrevised = s.unrevised :=
  show t.butSettings.unrevised = _ from h ▸ rfl

/-- R8, R12: the settings of a slot are written; where the tier changes, every tap is tested against the new revision. -/
theorem setSlotSettings_plantKept (a : SlotArgs) (ht : ∀ n, a.tier = some n → n ≤ 7) (s : State) :
    PlantKept s (setSlotSettings a s) := by
  have tables := (setSlotSettings_kept a ht s).tables
  have refreshedTables : TablesSound s → TablesSound (refreshSlot a.slot (s.settingsWritten a)) :=
    (refreshSlot_kept a.slot (fun h => h.withArgs a ht) (settingsWritten_records a s)).tables
  have left : (refreshSlot a.slot (s.settingsWritten a)).unrevised = s.unrevised :=
    (unrevised_of_butSlots (refreshSlot_butSlots _ _)).trans (unrevised_of_butSettings (settingsWritten_butSettings a s))
  have revision : (refreshSlot a.slot (s.settingsWritten a)).revision = (s.settingsWritten a).revision :=
    revision_of_butSlots (refreshSlot_butSlots _ _)
  rw [settingsWritten_revision] at revision
  rw [setSlotSettings_eq] at tables ⊢
  generalize refreshSlot a.slot (s.settingsWritten a) = u at *
  split at revision
  · rw [if_pos ‹_›]
    refine .of_carried refreshedTables ?_
    have same := congrArg (fun v : State => { v with revision := s.revision }) left
    exact (show u.carried = { u.unrevised with revision := s.revision } by rw [← revision]; rfl).trans (same.trans rfl)
  · rw [if_neg ‹_›] at tables ⊢
    have posted := postRevision_plantKept u
    have claims : ClaimsKept s u := ⟨refreshedTables, fun _ hc => show ClaimsSound u.unrevised from left ▸ hc⟩
    have carrier : CarrierKept s u := ⟨refreshedTables, fun _ he hq =>
      ⟨show EngineSound u.unrevised from left ▸ he, show SyncSound u.unrevised from left ▸ hq⟩⟩
    exact .of { claims.trans posted.toClaimsKept with steps := fun hs _ => postRevision_steps (refreshedTables hs) }
      (carrier.trans posted.toCarrierKept)

theorem slotSet_plantKept (a : SlotArgs) (s : State) : PlantKept s (slotSet a s).1 := by
  unfold slotSet
  split
  · exact .refl s
  · rename_i hin
    refine .guard _ fun _ => setSlotSettings_plantKept a (fun n hn => ?_) s
    simp [within, hn] at hin
    omega

end Acts

end Sys2Proof.Machine


namespace Sys2Proof.Machine

/-! ## Every command keeps the claims, the tests and the carrier

The accrual engine and a reset of the cycle alone need more: that a purchase of the SHOWING event is still OPEN. -/

section Accrual
variable {s t u : State}

/-! ### Sweeps and the cycle (R143, R144, R147, R164) -/

/-- R155: a purchase of the SHOWING event is OPEN. -/
def ShowingOpen (s : State) : Prop :=
  ∀ n, ∀ p ∈ (s.sub n).purchases, (s.event p.event).state = .showing → p.settlement = .unsettled

theorem ShowingOpen.of_purchases (h : PurchasesSound s) : ShowingOpen s := fun n p hp hshow => by
  obtain ⟨-, -, -, -, sound⟩ := h.1 n
  obtain ⟨-, unsettled, -⟩ := sound p hp
  exact unsettled.2 (.inr hshow)

/-- What an act of the accrual engine keeps. -/
structure AccrualKept (s t : State) : Prop extends ClaimsKept s t, CarrierKept s t where
  steps : ShowingOpen s → TablesSound s → StepsSound s → StepsSound t

theorem PlantKept.accrual (h : PlantKept s t) : AccrualKept s t :=
  { h.toClaimsKept, h.toCarrierKept with steps := fun _ => h.steps }

theorem AccrualKept.trans_plant (h : AccrualKept s t) (h' : PlantKept t u) : AccrualKept s u :=
  { h.toClaimsKept.trans h'.toClaimsKept, h.toCarrierKept.trans h'.toCarrierKept with
    steps := fun ho hs hk => h'.steps (h.tables hs) (h.steps ho hs hk) }

/-- An act behind one that leaves the purchases of the SHOWING event OPEN. -/
theorem AccrualKept.after (h : PlantKept s t) (ho : TablesSound s → ShowingOpen s → ShowingOpen t)
    (h' : AccrualKept t u) : AccrualKept s u :=
  { h.toClaimsKept.trans h'.toClaimsKept, h.toCarrierKept.trans h'.toCarrierKept with
    steps := fun hopen hs hk => h'.steps (ho hs hopen) (h.tables hs) (h.steps hs hk) }

theorem AccrualKept.ite {c : Prop} [Decidable c] (h : AccrualKept s t) (h' : AccrualKept s u) :
    AccrualKept s (if c then t else u) := by split <;> assumption

/-- R144: a visit accrues counters and shown minutes. -/
theorem visitRecord_sub (hs : TablesSound s) (shown : Option Nat) (n k : Nat) :
    ((visitRecord shown n s).sub k).claim = (s.sub k).claim ∧
    ((visitRecord shown n s).sub k).purchases.map (fun p => (p.event, p.settlement)) =
      (s.sub k).purchases.map fun p => (p.event, p.settlement) := by
  unfold visitRecord
  extract_lets r
  split
  · exact ⟨rfl, rfl⟩
  · rw [sub_setSub hs.subs]
    split
    · subst k
      refine ⟨rfl, ?_⟩
      rw [List.map_map]
      refine List.map_congr_left fun p _ => ?_
      simp only [Function.comp]
      split <;> rfl
    · exact ⟨rfl, rfl⟩

theorem visitRecord_butSubs (shown : Option Nat) (n : Nat) (s : State) : (visitRecord shown n s).butSubs = s.butSubs := by
  unfold visitRecord
  extract_lets r
  split <;> rfl

theorem visitRecord_plantKept (shown : Option Nat) (n : Nat) (s : State) : PlantKept s (visitRecord shown n s) := by
  have but := visitRecord_butSubs shown n s
  have read := fun hs => visitRecord_sub (s := s) hs shown n
  have tables := (visitRecord_kept shown n s).tables
  generalize visitRecord shown n s = t at *
  have events : ∀ e, t.event e = s.event e := fun e => show t.butSubs.event e = _ from but ▸ rfl
  refine (Rewritten.of_claims tables (show t.butSubs.taps = _ from but ▸ rfl) (show t.butSubs.syncSet = _ from but ▸ rfl)
    (show t.butSubs.engine = _ from but ▸ rfl) (show t.butSubs.link = _ from but ▸ rfl)
    (show t.butSubs.revision = _ from but ▸ rfl) (fun hs k => (read hs k).1) (fun _ e => by rw [events])
    fun hs k e _ => ?_).plantKept
  have same := congrArg (List.map Prod.fst) (read hs k).2
  simp only [List.map_map] at same
  exact iff_of_eq (congrArg (e ∈ ·) same)

theorem visitRecord_open (hs : TablesSound s) (shown : Option Nat) (n : Nat) (h : ShowingOpen s) :
    ShowingOpen (visitRecord shown n s) := by
  have but := visitRecord_butSubs shown n s
  have events : ∀ e, (visitRecord shown n s).event e = s.event e := fun e =>
    show (visitRecord shown n s).butSubs.event e = _ from but ▸ rfl
  intro k p hp hshow
  have mem : (p.event, p.settlement) ∈ (s.sub k).purchases.map fun q => (q.event, q.settlement) := by
    rw [← (visitRecord_sub hs shown n k).2]; exact List.mem_map_of_mem hp
  obtain ⟨q, hq, same⟩ := List.mem_map.1 mem
  obtain ⟨event, settlement⟩ := Prod.mk.inj same
  rw [← settlement]
  exact h k q hq (by rw [event, ← events]; exact hshow)

/-- R164: a reset of the cycle takes away settled purchases, removed records and events that are over. -/
theorem Subscriber.reset_claim (r : Subscriber) : r.reset.claim = r.claim := by
  unfold Subscriber.reset
  extract_lets kept
  cases hr : r.status
  case free => rfl
  case active => simp [claim, hr]
  case removed =>
    simp only
    split
    · simp [claim, hr, cold]
    · simp [claim, hr]

theorem Subscriber.reset_bought (r : Subscriber) {e : Nat}
    (h : r.status = .removed ∨ r.status = .active → ∀ p ∈ r.purchases, p.event = e → p.settlement = .unsettled) :
    e ∈ r.reset.bought ↔ e ∈ r.bought := by
  have kept : (r.status = .removed ∨ r.status = .active) →
      (e ∈ (r.purchases.filter fun p => decide (p.settlement = .unsettled)).map Purchase.event ↔ e ∈ r.bought) := fun hr => by
    simp only [bought, List.mem_map, List.mem_filter, decide_eq_true_eq]
    exact exists_congr fun p => ⟨fun ⟨⟨hp, _⟩, he⟩ => ⟨hp, he⟩, fun ⟨hp, he⟩ => ⟨⟨hp, h hr p hp he⟩, he⟩⟩
  unfold Subscriber.reset
  extract_lets l
  cases hr : r.status
  case free => rfl
  case active => exact kept (.inr hr)
  case removed =>
    simp only
    split
    · rename_i hl
      rw [← kept (.inl hr)]
      change e ∈ ([] : List Purchase).map _ ↔ e ∈ l.map _
      rw [hl]
    · exact kept (.inl hr)

theorem resetCycle_accrual (s : State) : AccrualKept s (resetCycle s) := by
  unfold resetCycle
  extract_lets overdue held v
  have tables : TablesSound s → TablesSound v := fun h => by simp_all [TablesSound, v, held, tabWf_tabMap]
  have sub : TablesSound s → ∀ n, v.sub n = (s.sub n).reset := fun hs n => tabGet_tabMap (by rfl) hs.subs n
  have event : TablesSound s → ∀ e, v.event e = (s.event e).reset := fun hs e => tabGet_tabMap (by rfl) hs.events e
  have showing : TablesSound s → ∀ e, (v.event e).state = .showing ↔ (s.event e).state = .showing := fun hs e => by
    rw [event hs]
    cases he : (s.event e).state <;> simp [Event.reset, he, Event.cold]
  have claims : TablesSound s → ∀ n, v.claim n = s.claim n := fun hs n => by
    rw [State.claim, sub hs]; exact (s.sub n).reset_claim
  have written : AccrualKept s v :=
    { tables := tables
      claims := fun hs hc => hc.congr (claims hs) fun _ hk => hk
      carrier := fun _ he hq => ⟨he, hq⟩
      steps := fun ho hs hk => .of_stands fun k => (hk.stands k).of_tap (.of_records hs (tables hs) rfl (showing hs)
        fun n _ => ⟨claims hs n, fun e he => by
          rw [sub hs]
          exact (s.sub n).reset_bought fun _ p hp hpe => ho n p hp (hpe ▸ he)⟩) rfl }
  exact .ite (written.trans_plant (.of_butAlarms (endAlarm_butAlarms _ _ _))) written

theorem closeCycle_accrual (s : State) : AccrualKept s (closeCycle s).1 :=
  .after (t := { s with snapshot := some s.takeSnapshot }) (.of_records (by rfl) (by rfl)) (fun _ h => h)
    (resetCycle_accrual _)

theorem putAnswer_plantKept (p : Master) (m : Msg) (a : Ans) (s : State) : PlantKept s (putAnswer p m a s) :=
  .of_butPorts (by cases p <;> rfl)

theorem setPort_plantKept (p : Master) (q : Port) (s : State) : PlantKept s (s.setPort p q) :=
  .of_butPorts (by cases p <;> rfl)

theorem takeWaitingClose_accrual (s : State) : AccrualKept s (takeWaitingClose s) := by
  have answers : ∀ a u, PlantKept u (answerInProgress .office a u) := fun a u => by
    unfold answerInProgress
    split
    · exact (setPort_plantKept _ _ u).trans (putAnswer_plantKept _ _ _ _)
    · exact .refl u
  exact .ite ((closeCycle_accrual s).trans_plant (answers _ _)) (PlantKept.refl s).accrual

theorem countCleanSweep_plantKept (s : State) : PlantKept s (countCleanSweep s) :=
  .ite ((PlantKept.of_records (by rfl) (by rfl)).trans (.of_butAlarms (endAlarm_butAlarms _ _ _)))
    (.of_records (by rfl) (by rfl))

/-- The claims, the tests and the SHOWING event's purchases are read in the records and the events. -/
theorem ShowingOpen.congr (h : ShowingOpen s) (subs : t.subs = s.subs) (events : t.events = s.events) : ShowingOpen t := by
  intro n p hp hshow
  rw [State.sub, subs] at hp
  rw [State.event, events] at hshow
  exact h n p hp hshow

theorem countCleanSweep_open (h : ShowingOpen s) : ShowingOpen (countCleanSweep s) := by
  unfold countCleanSweep
  dsimp only
  split
  · obtain ⟨-, -, subs, -, events⟩ := fields_of_butAlarms (endAlarm_butAlarms .accrualOverrun 0
      { s with billing := { s.billing with clean := min 60 (s.billing.clean + 1), overrun := false } })
    exact h.congr subs events
  · exact h.congr rfl rfl

/-- R143: the shown event's minutes are counted. -/
theorem countShown_plantKept (e : Option Nat) (s : State) : PlantKept s (countShown e s) := by
  cases e with
  | none => exact .refl s
  | some e =>
    refine (Rewritten.of_claims (fun hs => hs.setEvent e _) rfl rfl rfl rfl rfl (fun _ _ => rfl) (fun hs k => ?_)
      fun _ _ _ _ => .rfl).plantKept
    rw [event_setEvent hs.events]
    split
    · subst k; rfl
    · rfl

theorem startSweep_plantKept (s : State) : PlantKept s (startSweep s) := by
  have begins : PlantKept s (beginSweep s) := by
    unfold beginSweep
    extract_lets e s1 _ s2
    have h1 : PlantKept s s1 := (PlantKept.of_carried (ageEpisodes_kept s).tables (by rfl)).trans (countShown_plantKept e _)
    have h2 : PlantKept s s2 := h1.trans (.of_records (by rfl) (by rfl))
    exact .ite (h2.trans (.of_butAlarms (raiseAlarm_butAlarms _ _ _))) h2
  exact .ite begins ((PlantKept.of_records (by rfl) (by rfl)).trans (countCleanSweep_plantKept _))

theorem tickSweep_plantKept (s : State) : PlantKept s (tickSweep s) := by
  unfold tickSweep
  split
  · exact startSweep_plantKept s
  · exact .of_records (by rfl) (by rfl)
  · exact (PlantKept.of_records (by rfl) (by rfl)).trans (.of_butAlarms (raiseAlarm_butAlarms _ _ _))

theorem completeSweep_accrual (s : State) : AccrualKept s (completeSweep s) := by
  have pending : ∀ u, PlantKept u (takePendingTick u) := fun u =>
    .ite ((PlantKept.of_records (by rfl) (by rfl)).trans (startSweep_plantKept _)) (.refl u)
  have counted : PlantKept s (countCleanSweep { s with billing := { s.billing with sweep := none } }) :=
    (PlantKept.of_records (by rfl) (by rfl)).trans (countCleanSweep_plantKept _)
  exact (AccrualKept.after counted (fun _ h => countCleanSweep_open (s := { s with billing := { s.billing with sweep := none } }) h)
    (takeWaitingClose_accrual _)).trans_plant (pending _)

/-- R144: one record is visited. -/
theorem sweepOne_accrual (w : Sweep) (s : State) : AccrualKept s (sweepOne w s) := by
  unfold sweepOne
  extract_lets s1
  have visited : PlantKept s s1 := visitRecord_plantKept _ _ s
  have opens : TablesSound s → ShowingOpen s → ShowingOpen s1 := fun hs => visitRecord_open hs _ _
  clear_value s1
  exact .ite (.after visited opens (completeSweep_accrual s1)) (visited.trans (.of_records (by rfl) (by rfl))).accrual

/-- R140: the tick of a minute. -/
theorem takeTick_plantKept (s : State) : PlantKept s (takeTick s) := by
  unfold takeTick
  extract_lets clock _ s1
  have h1 : PlantKept s s1 := .of_records (by rfl) (by rfl)
  exact ((h1.trans (evaluateEvents_plantKept arbitrate_plantKept clock s1)).trans (tickSweep_plantKept _)).trans
    (closeNoiseMinute_plantKept _)

end Accrual

end Sys2Proof.Machine


namespace Sys2Proof.Machine

section Restarts
variable {s t : State}

/-! ### The warm restart of the carrier (R57, R58, R79) -/

/-- R58: the sync status that the rebuilding of the sync set gives an installed tap. -/
def State.rebuiltSync (s : State) (n : Nat) : SyncStatus :=
  if (s.tap n).sync = .failed ∨ s.outOfStepReported n then .queued else .inStep

/-- R58: one installed tap is decided. -/
def rebuildOne (n : Nat) (s : State) : State :=
  if (s.tap n).sync = .failed ∨ s.outOfStepReported n then
    ({ s with syncSet := s.syncSet ++ [n] }).setTap n { s.tap n with sync := .queued }
  else s.setTap n { s.tap n with sync := .inStep }

theorem rebuildSync_eq (s : State) : rebuildSync s =
    forEach (tabWhere (fun _ r => r.installed) s.taps) rebuildOne { s with syncSet := [] } := rfl

theorem rebuildOne_tap (hs : TablesSound s) (n k : Nat) :
    (rebuildOne n s).tap k = if k = n then { s.tap n with sync := s.rebuiltSync n } else s.tap k := by
  unfold rebuildOne State.rebuiltSync
  split
  · exact tap_setTap (s := { s with syncSet := s.syncSet ++ [n] }) hs.taps n k _
  · exact tap_setTap hs.taps n k _

theorem rebuildOne_syncSet (n : Nat) (s : State) :
    (rebuildOne n s).syncSet = if s.rebuiltSync n = .queued then s.syncSet ++ [n] else s.syncSet := by
  unfold rebuildOne State.rebuiltSync
  by_cases h : (s.tap n).sync = .failed ∨ s.outOfStepReported n = true
  · rw [if_pos h, if_pos h, if_pos rfl]; rfl
  · rw [if_neg h, if_neg h, if_neg (by decide)]; rfl

theorem rebuildOne_butSync (n : Nat) (s : State) : (rebuildOne n s).butSync = s.butSync := by
  unfold rebuildOne
  split <;> rfl

theorem rebuildOne_tables (hs : TablesSound s) (n : Nat) : TablesSound (rebuildOne n s) := by
  unfold rebuildOne
  split
  · exact TablesSound.setTap (s := { s with syncSet := s.syncSet ++ [n] }) hs n _
  · exact hs.setTap n _

/-- The decision of one tap leaves those of the others. -/
theorem rebuildOne_rebuiltSync (hs : TablesSound s) {n k : Nat} (hk : k ≠ n) :
    (rebuildOne n s).rebuiltSync k = s.rebuiltSync k := by
  have read : (rebuildOne n s).tap k = s.tap k := by rw [rebuildOne_tap hs, if_neg hk]
  unfold State.rebuiltSync
  rw [outOfStepReported_congr (.of_butSync (rebuildOne_butSync n s) k) (by rw [read]), read]

/-- R58: what the rebuilding makes of the taps and of the sync set. -/
theorem forEach_rebuildOne (l : List Nat) (hl : l.Nodup) (hs : TablesSound s) :
    (∀ k, (forEach l rebuildOne s).tap k = if k ∈ l then { s.tap k with sync := s.rebuiltSync k } else s.tap k) ∧
    (forEach l rebuildOne s).syncSet = s.syncSet ++ l.filter fun n => decide (s.rebuiltSync n = .queued) := by
  induction l generalizing s with
  | nil => exact ⟨fun k => by simp, by simp⟩
  | cons n l ih =>
    obtain ⟨hn, hl⟩ := List.nodup_cons.1 hl
    obtain ⟨taps, syncSet⟩ := ih hl (rebuildOne_tables hs n)
    have same : ∀ k ∈ l, (rebuildOne n s).rebuiltSync k = s.rebuiltSync k := fun k hk =>
      rebuildOne_rebuiltSync hs fun he => hn (he ▸ hk)
    refine ⟨fun k => ?_, ?_⟩
    · rw [forEach_cons, taps, rebuildOne_tap hs]
      by_cases hk : k = n
      · subst k; simp [hn]
      · by_cases hkl : k ∈ l
        · simp [hk, hkl, same k hkl]
        · simp [hk, hkl]
    · rw [forEach_cons, syncSet, rebuildOne_syncSet, List.filter_congr fun k hk => by rw [same k hk], List.filter_cons]
      split <;> simp [*]

theorem rebuildSync_tap (hs : TablesSound s) (k : Nat) : (rebuildSync s).tap k =
    if (s.tap k).installed then { s.tap k with sync := s.rebuiltSync k } else s.tap k := by
  obtain ⟨taps, -⟩ := forEach_rebuildOne (s := { s with syncSet := [] }) (tabWhere (fun _ r => r.installed) s.taps)
    ((tabWhere_sorted hs.taps _).imp Nat.ne_of_lt) hs
  rw [rebuildSync_eq, taps]
  have listed : k ∈ tabWhere (fun _ r => r.installed) s.taps ↔ (s.tap k).installed = true := by
    rw [mem_tabWhere hs.taps]
    refine ⟨fun h => h.2, fun h => ⟨fun hcold => ?_, h⟩⟩
    have cold : (s.tap k).installed = false := congrArg Tap.installed hcold
    exact absurd (cold.symm.trans h) (by decide)
  simp only [listed]
  rfl

/-- R58: an installed tap that is rebuilt stands. -/
theorem rebuildSync_steps (hs : TablesSound s) : StepsSound (rebuildSync s) := .of_stands fun k => by
  have read := rebuildSync_tap hs k
  by_cases hi : (s.tap k).installed = true
  · rw [if_pos hi] at read
    intro _
    rw [outOfStepReported_congr (.of_butSync (rebuildSync_butSync s) k) (by rw [read]; rfl), read]
    unfold State.rebuiltSync
    cases s.outOfStepReported k
    · refine ⟨fun _ => rfl, fun h => ?_⟩
      dsimp only at h
      split at h <;> cases h
    · simp
  · rw [if_neg hi] at read
    exact .of_removed (by rw [read]; simpa using hi)

theorem rebuildSync_queue (hs : TablesSound s) (h : ∀ k, (s.tap k).installed = false → (s.tap k).sync = .inStep) :
    QueueSound (rebuildSync s) := by
  have read := rebuildSync_tap hs
  obtain ⟨-, syncSet⟩ := forEach_rebuildOne (s := { s with syncSet := [] }) (tabWhere (fun _ r => r.installed) s.taps)
    ((tabWhere_sorted hs.taps _).imp Nat.ne_of_lt) hs
  rw [← rebuildSync_eq, List.nil_append] at syncSet
  refine ⟨?_, fun k => ?_, fun k hk => ?_⟩
  · rw [syncSet]
    exact ((tabWhere_sorted hs.taps _).imp Nat.ne_of_lt).filter _
  · rw [syncSet, List.mem_filter, mem_tabWhere hs.taps, read, decide_eq_true_eq]
    change (_ ∧ (s.tap k).installed = true) ∧ s.rebuiltSync k = .queued ↔ _
    by_cases hi : (s.tap k).installed = true
    · rw [if_pos hi]
      refine ⟨fun hk => hk.2, fun hk => ⟨⟨fun hcold => ?_, hi⟩, hk⟩⟩
      have cold : (s.tap k).installed = false := congrArg Tap.installed hcold
      exact absurd (cold.symm.trans hi) (by decide)
    · rw [if_neg hi, h k (by simpa using hi)]
      simp [hi]
  · rw [read] at hk ⊢
    split at hk
    · rename_i hi; exact absurd (hi.symm.trans hk) (by decide)
    · rename_i hi; rw [if_neg hi]; exact h k hk

end Restarts

end Sys2Proof.Machine


namespace Sys2Proof.Machine

section Restarts
variable {s t : State}

/-! ### The restarts (R175, R176) -/

theorem syncSet_of_butCorrelator (h : t.butCorrelator = s.butCorrelator) : t.syncSet = s.syncSet :=
  show t.butCorrelator.syncSet = _ from h ▸ rfl
theorem revision_of_plant (h : t.plant = s.plant) : t.revision = s.revision := show t.plant.revision = _ from h ▸ rfl
theorem carried_of_butAlarms (h : t.butAlarms = s.butAlarms) : t.carried = s.carried :=
  show t.butAlarms.carried = _ from h ▸ rfl

theorem restartCarrier_tables (h : TablesSound s) : TablesSound (restartCarrier s) := h

theorem restartCarrier_leaves (s : State) : (restartCarrier s).taps = s.taps ∧ (restartCarrier s).subs = s.subs ∧
    (restartCarrier s).events = s.events ∧ (restartCarrier s).revision = s.revision := ⟨rfl, rfl, rfl, rfl⟩

theorem restartPlant_taps (s : State) : (restartPlant s).taps = (rebuildSync (restartCarrier s)).taps ∧
    (restartPlant s).syncSet = (rebuildSync (restartCarrier s)).syncSet := ⟨rfl, rfl⟩

/-- What is desired is read in the records, the events and the revision. -/
theorem SameDesire.of_fields (revision : t.revision = s.revision) (subs : t.subs = s.subs) (events : t.events = s.events)
    (k : Nat) : SameDesire s t k := by
  refine ⟨revision, fun p => ?_⟩
  unfold State.desiredMask State.claimant State.wantedMask State.holdsShowing State.sub State.event
  rw [subs, events]

theorem restartedRecords_taps (b : Straps) (s : State) :
    let u := restartCarrier (restartHeadEnd (announceStart (countRestart (restartPorts b s))))
    (restartedRecords b s).taps = (rebuildSync u).taps ∧ (restartedRecords b s).syncSet = (rebuildSync u).syncSet ∧
    u.taps = s.taps ∧ u.subs = s.subs ∧ u.events = s.events ∧ u.revision = s.revision := by
  intro u
  have correlated := restartCorrelator_butCorrelator (restartPlant (restartHeadEnd (announceStart (countRestart (restartPorts b s)))))
  have plant := (restartHeadEnd_plant (announceStart (countRestart (restartPorts b s)))).trans (restartStarted_plant b s)
  obtain ⟨-, -, taps, -⟩ := fields_of_butCorrelator correlated
  obtain ⟨subs, taps', -, events⟩ := fields_of_plant plant
  obtain ⟨rebuilt, queued⟩ := restartPlant_taps (restartHeadEnd (announceStart (countRestart (restartPorts b s))))
  obtain ⟨t1, t2, t3, t4⟩ := restartCarrier_leaves (restartHeadEnd (announceStart (countRestart (restartPorts b s))))
  exact ⟨taps.trans rebuilt, (syncSet_of_butCorrelator correlated).trans queued, t1.trans taps', t2.trans subs,
    t3.trans events, t4.trans ((revision_of_plant plant).trans rfl)⟩

theorem restartedRecords_plantKept (b : Straps) (s : State) : PlantKept s (restartedRecords b s) := by
  obtain ⟨taps, syncSet, taps', subs', events', revision'⟩ := restartedRecords_taps b s
  obtain ⟨subs, events⟩ := restartedRecords_events b s
  have tables : TablesSound s → TablesSound (restartedRecords b s) := fun hs => (restartedRecords_inputs b s hs).1
  have before : TablesSound s →
      TablesSound (restartCarrier (restartHeadEnd (announceStart (countRestart (restartPorts b s))))) := fun hs =>
    restartCarrier_tables ((restartHeadEnd_slotsKept _).tables ((restartStarted_kept b s).tables hs))
  have reports := restartedRecords_reports b s
  obtain ⟨-, -, link, revision, -, -, -, engine, -⟩ := fields_of_blocks (restartedRecords_blocks b s)
  change (restartedRecords b s).link = s.link at link
  change (restartedRecords b s).revision = s.revision at revision
  change (restartedRecords b s).engine = (restartCarrier s).engine at engine
  generalize restartedRecords b s = v at *
  generalize restartCarrier (restartHeadEnd (announceStart (countRestart (restartPorts b s)))) = u at *
  refine .of { tables := tables, claims := fun hs hc => ?_, steps := fun hs _ => .of_stands fun k => ?_ }
    ⟨tables, fun hs he hq => ?_⟩
  · exact hc.congr (claims_of_subs subs) fun k hk => (installed_of_reports ((reports hs).2 k)).trans hk
  · have but := rebuildSync_butSync u
    have subs'' : v.subs = (rebuildSync u).subs := subs.trans (subs'.symm.trans (subs_of_butSync but).symm)
    have events'' : v.events = (rebuildSync u).events :=
      events.trans (events'.symm.trans (show u.butSync.events = _ from but ▸ rfl))
    have revision'' : v.revision = (rebuildSync u).revision :=
      revision.trans (revision'.symm.trans (show u.butSync.revision = _ from but ▸ rfl))
    exact ((rebuildSync_steps (before hs)).stands k).of_tap (.of_fields revision'' subs'' events'' k) (tap_of_taps taps k)
  · obtain ⟨⟨-, -, away⟩, -⟩ := syncSound_iff.1 hq
    have queue : QueueSound (rebuildSync u) := rebuildSync_queue (before hs) fun k hk => by
      rw [tap_of_taps taps'] at hk ⊢
      exact away k hk
    obtain ⟨-, -, -, -, -, retries, -⟩ := he
    have txn : v.engine.txn = none := by rw [engine]; rfl
    have buffer : v.engine.buffer = [] := by rw [engine]; rfl
    have idle : v.engine.state = .idle := by rw [engine]; rfl
    have window : v.engine.window = none := by rw [engine]; rfl
    refine ⟨⟨by simp [idle, txn], by simp [idle, window], by simp [buffer], fun h => absurd buffer h, fun x hx => by simp [txn] at hx, by rw [link]; exact retries,
      fun _ => ⟨buffer, by rw [engine]; rfl⟩⟩, syncSound_iff.2 ⟨queue.congr syncSet fun k => ?_, fun x hx => by simp [txn] at hx⟩⟩
    rw [tap_of_taps taps]
    exact ⟨rfl, rfl⟩

theorem resumeMonitor_plantKept (s : State) : PlantKept s (resumeMonitor s) :=
  .of_carried (HeadKept.ite (beginConversion_kept 1 s) (.refl s)).tables (by unfold resumeMonitor; split <;> rfl)

theorem warmRestart_plantKept (b : Straps) (s : State) : PlantKept s (warmRestart b s) := by
  have evaluated := evaluateEvents_plantKept PlantKept.refl (restartedRecords b s).billing.clock (restartedRecords b s)
  have cleared : PlantKept _ (clearUntrue (evaluateEvents id (restartedRecords b s).billing.clock (restartedRecords b s))) :=
    .of_butAlarms (clearUntrue_butAlarms _)
  rw [warmRestart_grant, restartedAll, restartedLists]
  have timed : ∀ u, PlantKept u (restartMinute u) := fun u => .of_records (by rfl) (by rfl)
  exact (restartedRecords_plantKept b s).trans (evaluated.trans (cleared.trans ((timed _).trans
    ((resumeMonitor_plantKept _).trans (arbitrate_plantKept _)))))

/-- R176: what a cold start reads as. -/
theorem coldStart_carried (b : Straps) (s : State) : (coldStart b s).carried = State.reset.carried :=
  (carried_of_butAlarms (coldStart_butAlarms b s)).trans rfl

/-- R176: the claims, the tests and the carrier of a block that has been reset. -/
theorem PlantKept.of_reset (tables : TablesSound s → TablesSound t) (h : t.carried = State.reset.carried) :
    PlantKept s t := by
  have claims : ClaimsSound t.carried := h ▸ reset_claimsSound
  have steps : StepsSound t.carried := h ▸ reset_stepsSound
  have engine : EngineSound t.carried := h ▸ reset_engineSound
  have sync : SyncSound t.carried := h ▸ reset_syncSound
  exact .of { tables := tables, claims := fun _ _ => claims, steps := fun _ _ => steps } ⟨tables, fun _ _ _ => ⟨engine, sync⟩⟩

theorem coldStart_plantKept (b : Straps) (s : State) : PlantKept s (coldStart b s) :=
  .of_reset (coldStart_kept b s).tables (coldStart_carried b s)

end Restarts

end Sys2Proof.Machine


namespace Sys2Proof.Machine

section Requests
variable {s t : State}

/-! ### Requests -/

theorem dropHead_plantKept (p : Master) (s : State) : PlantKept s (dropHead p s) := setPort_plantKept p _ s

/-- R171: a request keeps what its block keeps. -/
theorem takeRequest_plantKept {α : Type} {block : Block α} (hb : ∀ a u, PlantKept u (block a u).1) (p : Master) (k : Nat)
    (ok : Bool) (parse : List Byte → Option α) (s : State) : PlantKept s (takeRequest p k ok parse block s) := by
  unfold takeRequest
  split
  · have dropped : PlantKept s (dropHead p s) := dropHead_plantKept p s
    unfold serve
    split
    · split
      · exact (dropped.trans (hb _ _)).trans (putAnswer_plantKept _ _ _ _)
      · exact dropped.trans (putAnswer_plantKept _ _ _ _)
    · exact dropped.trans (putAnswer_plantKept _ _ _ _)
  · exact .refl s

/-! ### The blocks that leave the records -/

theorem carrierOn_plantKept (s : State) : PlantKept s (carrierOn s) :=
  .ite (.refl s) (PlantKept.trans (t := { s with
      engine := { s.engine with carrierOn := true }, ident := { s.ident with coldStarted := false } }) (.of_engine (by rfl) (by rfl) rfl id) (arbitrate_plantKept _))

theorem returnOn_plantKept (s : State) : PlantKept s (returnOn s) := by
  refine .ite (.refl s) (PlantKept.trans (t := { s with engine := { s.engine with returnOn := true } })
    (.of_engine (by rfl) (by rfl) rfl fun he => ?_) (arbitrate_plantKept _))
  obtain ⟨idle, awaiting, short, waits, attempts, retries, -⟩ := he
  exact ⟨idle, awaiting, short, waits, attempts, retries, fun h => absurd h (by simp)⟩

/-- R77: the return enable goes OFF: nothing waits in the buffer and nothing is in reception. -/
theorem returnOff_plantKept (s : State) : PlantKept s (returnOff s) := by
  refine .ite (.of_engine (by rfl) (by rfl) rfl fun he => ?_) (.refl s)
  obtain ⟨idle, awaiting, -, -, attempts, retries, -⟩ := he
  exact ⟨idle, awaiting, by simp, by simp, attempts, retries, by simp⟩

theorem linkSet_plantKept (a : LinkArgs) (s : State) : PlantKept s (linkSet a s).1 := by
  have tables : TablesSound s → TablesSound (linkSet a s).1 := (HeadKept.of_records (by rfl)).tables
  refine .of { tables := tables, claims := fun _ hc => hc, steps := fun _ hk => hk } ⟨tables, fun _ he hq => ⟨?_, hq⟩⟩
  obtain ⟨idle, awaiting, short, waits, attempts, retries, stopped⟩ := he
  refine ⟨idle, awaiting, short, waits, attempts, ?_, stopped⟩
  change givenOr s.link.retries 0 3 a.retries ≤ 3
  cases a.retries with
  | none => exact retries
  | some n => simp only [givenOr, clamp]; omega

theorem acceptQuery_plantKept (k : QueryKind) (n : Nat) (l : List Byte) (s : State) :
    PlantKept s (acceptQuery k n l s).1 := by
  unfold acceptQuery
  split
  · exact (PlantKept.of_records (by rfl) (by rfl)).trans (arbitrate_plantKept (enqueueQuery k n l s))
  · exact .refl s

theorem PlantKept.block_ite {c : Prop} [Decidable c] {x y : State × Ans} (h : PlantKept s x.1) (h' : PlantKept s y.1) :
    PlantKept s (if c then x else y).1 := by split <;> assumption

theorem tapQuery_plantKept (n : Nat) (s : State) : PlantKept s (tapQuery n s).1 :=
  .block_ite (acceptQuery_plantKept .tapQuery n [] s) (.refl s)
theorem tapEcho_plantKept (a : Nat × List Byte) (s : State) : PlantKept s (tapEcho a s).1 :=
  .block_ite (acceptQuery_plantKept .tapEcho a.1 a.2 s) (.refl s)
theorem stationQuery_plantKept (n : Nat) (s : State) : PlantKept s (stationQuery n s).1 :=
  .block_ite (acceptQuery_plantKept .stationQuery n [] s) (.refl s)

/-! ### The branches -/

theorem postStation_tapsKept (n : Nat) (x y : Bool) (s : State) : TapsKept s (postStation n x y s) := by
  have lost : TapsKept s (stationLost n s) := by
    unfold stationLost
    extract_lets w _ s1 s2
    have h2 : TapsKept s s2 := (setWatch_tapsKept n _ s).trans (postReport_tapsKept _ _ _ _)
    exact .ite (h2.trans (postSilenceEnd_tapsKept _ _)) h2
  exact .ite (setWatch_tapsKept _ _ s) (.ite lost (.refl s))

theorem decideBranches_tapsKept (s : State) : TapsKept s (decideBranches s) :=
  .of_butBranches (decideBranches_kept s).tables (decideBranches_butBranches s)

theorem setBranch_tapsKept (n : Nat) (v : Branch) (s : State) : TapsKept s (s.setBranch n v) :=
  .of_butBranches (setBranch_kept n v s).tables rfl

theorem branchSet_plantKept (a : BranchArgs) (s : State) : PlantKept s (branchSet a s).1 := by
  have removal : PlantKept s (branchRemoval a.branch s).1 :=
    .guard _ fun _ => .guard _ fun _ => TapsKept.plant ((setBranch_tapsKept _ _ s).trans
      ((postStation_tapsKept _ _ _ _).trans ((decideBranches_tapsKept _).trans (setWatch_tapsKept _ _ _))))
  have interval : ∀ n i u, TapsKept u (postInterval n i u) := fun n i u => .ite (.refl u) (setWatch_tapsKept _ _ u)
  have change : PlantKept s (branchChange a s).1 := by
    unfold branchChange
    split
    · exact .refl s
    · exact (TapsKept.plant ((setBranch_tapsKept _ _ s).trans ((interval _ _ _).trans
        ((postStation_tapsKept _ _ _ _).trans (decideBranches_tapsKept _))))).trans (arbitrate_plantKept _)
  exact .guard _ fun _ => .block_ite removal change

theorem branchForcing_plantKept (v : Bool) (n : Nat) (s : State) : PlantKept s (branchForcing v n s).1 :=
  .guard _ fun _ => .guard _ fun _ => .ite (.refl s) (changeBranch_plantKept _ _ s)

/-! ### The other blocks -/

theorem portLocking_plantKept (v : Bool) (a : Nat × Nat) (s : State) : PlantKept s (portLocking v a s).1 := by
  unfold portLocking
  refine .guard _ fun _ => ?_
  split
  · exact lockRecord_plantKept v _ s
  · exact .refl s

theorem clockSet_plantKept (m : Nat) (s : State) : PlantKept s (clockSet m s).1 :=
  (PlantKept.of_records (by rfl) (by rfl)).trans
    (evaluateEvents_plantKept arbitrate_plantKept m { s with billing := { s.billing with clock := m } })

theorem statementRead_plantKept (n : Nat) (s : State) : PlantKept s (statementRead n s).1 := by
  unfold statementRead
  refine .guard _ fun _ => ?_
  split
  · exact .refl s
  · split <;> exact .refl s

theorem monitorSet_plantKept (a : MonitorArgs) (s : State) : PlantKept s (monitorSet a s).1 :=
  (PlantKept.of_records (by rfl) (by rfl)).trans
    (.of_butSlots (applyMonitor_kept s.monitor { s with monitor := s.monitor.withArgs a }).tables
      (applyMonitor_butSlots s.monitor { s with monitor := s.monitor.withArgs a }))

theorem sponsoring_plantKept (p : Master) (v : Bool) (n : Nat) (s : State) : PlantKept s (sponsoring p v n s).1 :=
  .block_ite (.of_butSlots (setSponsor_kept p v n s).tables ((refreshSlot_butSlots n _).trans rfl)) (.refl s)

theorem alarmAck_plantKept (p : Master) (n : Nat) (s : State) : PlantKept s (alarmAck p n s).1 := by
  unfold alarmAck
  refine .block_ite ?_ (.refl s)
  split
  · exact .refl s
  · exact .block_ite (.of_butAlarms ((retire_butAlarms _ _).trans rfl)) (.refl s)

theorem reading_plantKept (hi : Nat) (content : Nat → State → List Byte) (n : Nat) (s : State) :
    PlantKept s (reading hi content n s).1 := .block_ite (.refl s) (.refl s)

theorem subscriberRead_plantKept (n : Nat) (s : State) : PlantKept s (subscriberRead n s).1 := by
  have read := fun c => reading_plantKept 2048 c n s
  exact .block_ite ((read _).trans (.of_records (by rfl) (by rfl))) (read _)

/-! ### Time -/

theorem passTime_carried (d : Nat) (s : State) : (passTime d s).carried = s.carried := by
  unfold passTime
  split
  · split <;> rfl
  · rfl

theorem passTime_plantKept (d : Nat) (s : State) : PlantKept s (passTime d s) :=
  .of_carried (passTime_kept d s).tables (passTime_carried d s)

theorem atSurveyTime_plantKept (o : Option Nat) {f : State → State} (hf : ∀ u, PlantKept u (f u)) (s : State) :
    PlantKept s (atSurveyTime o f s) := by
  unfold atSurveyTime
  split
  · exact .ite (((passTime_plantKept _ s).trans (hf _)).trans (arbitrate_plantKept _)) (.refl s)
  · exact .refl s

theorem takeDeadline_plantKept (b : Nat) (s : State) : PlantKept s (takeDeadline b s) := by
  unfold takeDeadline
  extract_lets w
  split
  · exact (setWatch_tapsKept _ _ s).plant
  · exact (setWatch_tapsKept _ _ s).plant
  · exact (becomeSilent_tapsKept b s).plant
  · exact .refl s
  · exact .refl s

theorem takeByte_plantKept (p : Master) (b : Byte) (s : State) : PlantKept s (takeByte p b s) := by
  have sets : ∀ r u, PlantKept u (setReceiver p r u) := fun r u => setPort_plantKept _ _ u
  have hunts : PlantKept s (huntByte p b s) := .ite (sets _ s) (sets _ s)
  have accepts : ∀ m u, PlantKept u (acceptMessage p m u) := fun m u =>
    .ite (setPort_plantKept _ _ u) (.ite (putAnswer_plantKept _ _ _ u) (.refl u))
  have finishes : ∀ l, PlantKept s (finishMessage p l s) := fun l => by
    unfold finishMessage
    extract_lets s1
    have h1 : PlantKept s s1 := sets _ s
    split
    · exact .ite (h1.trans (accepts _ _)) h1
    · exact h1
  unfold takeByte
  split
  · exact hunts
  · exact .ite (sets _ s) hunts
  · exact .ite (sets _ s) (finishes _)

end Requests

end Sys2Proof.Machine


namespace Sys2Proof.Machine

section Commands
variable {s t : State}

/-! ### Every command -/

/-- Where a command answers a next state, the claims, the tests and the carrier are kept. -/
def AccrualBy (s : State) (r : Result) : Prop := ∀ t, r = .next t → AccrualKept s t

theorem AccrualBy.next (h : AccrualKept s t) : AccrualBy s (.next t) := fun u hu => by
  obtain rfl : t = u := by injection hu
  exact h

theorem AccrualBy.plant (h : PlantKept s t) : AccrualBy s (.next t) := .next h.accrual

theorem AccrualBy.fault (f : Fault) : AccrualBy s (.fault f) := fun _ hu => by cases hu

theorem AccrualBy.ite {c : Prop} [Decidable c] {x y : Result} (h : AccrualBy s x) (h' : AccrualBy s y) :
    AccrualBy s (if c then x else y) := by split <;> assumption

theorem AccrualBy.request {α : Type} {block : Block α} (hb : ∀ a u, PlantKept u (block a u).1) (p : Master) (k : Nat)
    (ok : Bool) (parse : List Byte → Option α) : AccrualBy s (.next (takeRequest p k ok parse block s)) :=
  .plant (takeRequest_plantKept hb p k ok parse s)

/-- A request that its port does not take through `takeRequest`. -/
theorem AccrualBy.taken {p : Master} {f : Nat → Bool} {g : Msg → State → State} (hg : ∀ m u, AccrualKept u (g m u)) :
    AccrualBy s (match s.takable p f with
      | some m => .next (g m (dropHead p s))
      | none => .next s) := by
  have dropped : ShowingOpen s → ShowingOpen (dropHead p s) := fun h => h.congr (by cases p <;> rfl) (by cases p <;> rfl)
  split
  · exact .next (.after (dropHead_plantKept p s) (fun _ => dropped) (hg _ _))
  · exact .plant (.refl s)

theorem serveClose_accrual (p : Master) (m : Msg) (s : State) : AccrualKept s (serveClose p m s) := by
  unfold serveClose
  split
  · split
    · unfold closeOrWait
      split
      · exact (closeCycle_accrual s).trans_plant (putAnswer_plantKept _ _ _ _)
      · exact ((PlantKept.of_records (by rfl) (by rfl)).trans (setPort_plantKept _ _ _)).accrual
    · exact (putAnswer_plantKept _ _ _ s).accrual
  · exact (putAnswer_plantKept _ _ _ s).accrual

theorem serveRestart_plantKept (p : Master) (m : Msg) (b : Straps) (s : State) : PlantKept s (serveRestart p m b s) := by
  unfold serveRestart
  split
  · split
    · exact warmRestart_plantKept b s
    · exact putAnswer_plantKept _ _ _ s
  · exact putAnswer_plantKept _ _ _ s

/-! The supply and the level ramp engine leave all of it. -/

theorem carried_of_butSlots (h : t.butSlots = s.butSlots) : t.carried = s.carried :=
  show t.butSlots.carried = _ from h ▸ rfl

theorem execSourceQualificationExpiry_accrual (n : Nat) : AccrualBy s (execSourceQualificationExpiry n s) := by
  unfold execSourceQualificationExpiry
  refine .ite ?_ (.fault _)
  split
  · rename_i w _
    have left : (qualifySource n (advanceTo w s)).carried = (advanceTo w s).carried :=
      (carried_of_butSlots (qualifySource_butSlots n (advanceTo w s))).trans rfl
    exact .plant ((passTime_plantKept _ s).trans (.of_carried (qualifySource_kept n _).tables left))
  · exact .plant (.refl s)

theorem decideMode_plantKept (s : State) : PlantKept s (decideMode s) :=
  .of_carried (decideMode_kept s).tables ((carried_of_butSlots (decideMode_butSlots s)).trans rfl)

theorem execSupplyQualificationExpiry_accrual (l : SupplyLine) : AccrualBy s (execSupplyQualificationExpiry l s) := by
  have mains : ∀ u, PlantKept u (qualifyMains u) := fun u =>
    (PlantKept.of_records (by rfl) (by rfl)).trans (decideMode_plantKept _)
  have reserve : ∀ u, PlantKept u (qualifyReserve u) := fun u =>
    (PlantKept.of_records (by rfl) (by rfl)).trans (decideMode_plantKept _)
  cases l <;> unfold execSupplyQualificationExpiry <;> dsimp only <;> split
  · exact .plant ((passTime_plantKept _ s).trans (mains _))
  · exact .plant (.refl s)
  · exact .plant ((passTime_plantKept _ s).trans (reserve _))
  · exact .plant (.refl s)

theorem execStepTimerExpiry_accrual (n : Nat) : AccrualBy s (execStepTimerExpiry n s) := by
  unfold execStepTimerExpiry
  refine .ite ?_ (.fault _)
  split
  · rename_i w hw
    have runs : ((advanceTo w s).slot n).stepTimer.isSome = true := by simp [advanceTo, State.slot] at hw ⊢; simp [hw]
    exact .plant ((passTime_plantKept _ s).trans
      (.of_butSlots (takeStep_kept n runs).tables (takeStep_butSlots n (advanceTo w s))))
  · exact .plant (.refl s)

theorem execDwellExpiry_accrual (r : Nat) : AccrualBy s (execDwellExpiry r s) := by
  unfold execDwellExpiry
  split
  · rename_i c _
    exact .plant ((passTime_plantKept _ s).trans (.of_butSlots (completeConversion_kept _ _ _).tables
      (completeConversion_butSlots c r (advanceTo c.expiry s))))
  · exact .plant (.refl s)

/-! The engine's own commands. -/

theorem execTransmitCompletion_accrual : AccrualBy s (execTransmitCompletion s) := by
  unfold execTransmitCompletion
  split
  · rename_i hstate hx; exact .plant (transmitted_plantKept hx hstate)
  · exact .plant (.refl s)

theorem execReplyTake_accrual : AccrualBy s (execReplyTake s) := by
  unfold execReplyTake
  split
  · rename_i hx; exact .plant (takeFrame_plantKept hx)
  · exact .plant (.refl s)

theorem execReplyWindowExpiry_accrual : AccrualBy s (execReplyWindowExpiry s) := by
  unfold execReplyWindowExpiry
  split
  · rename_i x w _ hx _
    have held : (advanceTo w s).engine.txn = some x := (congrArg Engine.txn (passTime_engine s _)).trans hx
    exact .plant ((passTime_plantKept _ s).trans (failAttempt_plantKept held _))
  · exact .plant (.refl s)

/-- R71: a frame begins while the return is ON. -/
theorem startIndication_plantKept (on : s.engine.returnOn = true) :
    PlantKept s { s with engine := { s.engine with inFrame := true } } :=
  .of_engine (by rfl) (by rfl) rfl fun ⟨idle, awaiting, short, waits, attempts, retries, _⟩ =>
    ⟨idle, awaiting, short, waits, attempts, retries, fun h => absurd (on.symm.trans h) (by decide)⟩

theorem execFrameReceived_accrual (bytes : List SampledByte) (stops : List SampledStop) :
    AccrualBy s (execFrameReceived bytes stops s) := by
  refine .ite ?_ (.fault _)
  split
  · rename_i h
    exact .plant (receiveFrame_plantKept _ (Bool.and_eq_true_iff.1 h).1)
  · exact .plant (.refl s)

theorem execFrameStreamTimeout_accrual : AccrualBy s (execFrameStreamTimeout s) := by
  unfold execFrameStreamTimeout
  split
  · rename_i h
    exact .plant (receiveFrame_plantKept _ (Bool.and_eq_true_iff.1 h).1)
  · exact .plant (.refl s)

theorem execStartIndication_accrual (a b c : Bool) : AccrualBy s (execStartIndication a b c s) := by
  unfold execStartIndication
  split
  · rename_i h
    exact .plant (startIndication_plantKept (Bool.and_eq_true_iff.1 (Bool.and_eq_true_iff.1 h).1).1)
  · exact .plant (.refl s)

/-! The accrual engine and the ports. -/

theorem execSweepVisit_accrual : AccrualBy s (execSweepVisit s) := by
  unfold execSweepVisit
  split
  · exact .next (sweepOne_accrual _ s)
  · exact .plant (.refl s)

theorem acceptMessage_plantKept (p : Master) (m : Msg) (s : State) : PlantKept s (acceptMessage p m s) :=
  .ite (setPort_plantKept _ _ s) (.ite (putAnswer_plantKept _ _ _ s) (.refl s))

theorem execInterByteTimeout_accrual (p : Master) : AccrualBy s (execInterByteTimeout p s) := by
  unfold execInterByteTimeout
  split
  · exact .plant ((passTime_plantKept _ s).trans (setPort_plantKept _ _ _))
  · exact .plant (.refl s)

theorem execMessageSent_accrual (p : Master) : AccrualBy s (execMessageSent p s) := by
  unfold execMessageSent
  extract_lets q
  split
  · exact .plant (setPort_plantKept _ _ s)
  · exact .plant (.refl s)

theorem alarmResurvey_plantKept (a : Unit) (s : State) : PlantKept s (alarmResurvey a s).1 :=
  .of_butAlarms (resurvey_butAlarms s)

/-- Every command keeps the claims, the tests and the carrier. -/
theorem exec_accrual (c : Instr) (s : State) : AccrualBy s (exec c s) := by
  have same : ∀ u : State, PlantKept u u := PlantKept.refl
  cases c with
  | sourcePresenceLineChange n high => exact .ite (.ite (.plant (same s))
      (.plant (.of_carried (fun hs => hs.setSource n _) (by rfl)))) (.fault _)
  | sourceQualificationExpiry n => exact execSourceQualificationExpiry_accrual n
  | supplyLineChange line high =>
    cases line <;> exact .ite (.plant (same s)) (.plant (.of_records (by rfl) (by rfl)))
  | supplyQualificationExpiry line => exact execSupplyQualificationExpiry_accrual line
  | stepTimerExpiry n => exact execStepTimerExpiry_accrual n
  | transmitCompletion => exact execTransmitCompletion_accrual
  | frameReceived bytes stops => exact execFrameReceived_accrual bytes stops
  | frameStreamTimeout => exact execFrameStreamTimeout_accrual
  | replyTake => exact execReplyTake_accrual
  | replyWindowExpiry => exact execReplyWindowExpiry_accrual
  | pollDueTime b =>
    exact .ite (.plant (atSurveyTime_plantKept _ (fun u => (setWatch_tapsKept _ _ u).plant) s)) (.fault _)
  | stationDeadline b => exact .ite (.plant (atSurveyTime_plantKept _ (takeDeadline_plantKept b) s)) (.fault _)
  | recoveryDueTime b =>
    exact .ite (.plant (atSurveyTime_plantKept _ (fun u => (setWatch_tapsKept _ _ u).plant) s)) (.fault _)
  | auditStepTimerExpiry => exact .plant (atSurveyTime_plantKept _ (fun u => .of_records (by rfl) (by rfl)) s)
  | dwellExpiry r => exact execDwellExpiry_accrual r
  | minuteTick => exact .plant ((passTime_plantKept _ s).trans (takeTick_plantKept _))
  | sweepVisit => exact execSweepVisit_accrual
  | messageReceived p kind tag body =>
    exact .ite (.plant ((setPort_plantKept p _ s).trans (acceptMessage_plantKept _ _ _))) (.fault _)
  | interByteTimeout p => exact execInterByteTimeout_accrual p
  | messageSent p => exact execMessageSent_accrual p
  | unknownRequest p => exact .taken fun m u => (putAnswer_plantKept p m _ u).accrual
  | subscriberAdd p => exact .request subscriberAdd_plantKept p _ _ _
  | subscriberChange p => exact .request (fun a u => .guard _ fun _ => .guard _ fun _ => changeTiers_plantKept a.1 a.2 u) p _ _ _
  | subscriberRemove p => exact .request (fun n u => .guard _ fun _ => .guard _ fun _ => removeSubscriber_plantKept n u) p _ _ _
  | purchase p => exact .request purchase_plantKept p _ _ _
  | purchaseCancel p => exact .request purchaseCancel_plantKept p _ _ _
  | clockSet p => exact .request clockSet_plantKept p _ _ _
  | rateSet p =>
    exact .request (fun l u => .block_ite (same u) (.of_carried (setRates_kept l u).tables (by rfl))) p _ _ _
  | creditSet p => exact .request (fun _ u => .of_records (by rfl) (by rfl)) p _ _ _
  | cycleClose p => exact .taken (serveClose_accrual p)
  | statementRead p => exact .request statementRead_plantKept p _ _ _
  | portLock p => exact .request (portLocking_plantKept true) p _ _ _
  | portUnlock p => exact .request (portLocking_plantKept false) p _ _ _
  | tapInstall p => exact .request tapInstall_plantKept p _ _ _
  | tapRemove p => exact .request tapRemove_plantKept p _ _ _
  | branchSet p => exact .request branchSet_plantKept p _ _ _
  | branchForce p => exact .request (branchForcing_plantKept true) p _ _ _
  | branchRelease p => exact .request (branchForcing_plantKept false) p _ _ _
  | carrierOn p => exact .request (fun _ u => carrierOn_plantKept u) p _ _ _
  | carrierOff p => exact .request (fun _ u => .of_engine (by rfl) (by rfl) rfl id) p _ _ _
  | returnOn p => exact .request (fun _ u => returnOn_plantKept u) p _ _ _
  | returnOff p => exact .request (fun _ u => returnOff_plantKept u) p _ _ _
  | linkSet p => exact .request linkSet_plantKept p _ _ _
  | tapQuery p => exact .request tapQuery_plantKept p _ _ _
  | tapEcho p => exact .request tapEcho_plantKept p _ _ _
  | stationQuery p => exact .request stationQuery_plantKept p _ _ _
  | monitorSet p => exact .request monitorSet_plantKept p _ _ _
  | alarmResurvey p => exact .request alarmResurvey_plantKept p _ _ _
  | restart p b => exact .taken fun m u => (serveRestart_plantKept p m b u).accrual
  | slotSet p => exact .request slotSet_plantKept p _ _ _
  | eventSchedule p => exact .request (fun (a : ScheduleArgs) u => scheduleClamped_plantKept a.clamped u) p _ _ _
  | eventCancel p => exact .request eventCancel_plantKept p _ _ _
  | sponsor p => exact .request (sponsoring_plantKept p true) p _ _ _
  | withdraw p => exact .request (sponsoring_plantKept p false) p _ _ _
  | audienceSet p => exact .request (fun _ u => .of_records (by rfl) (by rfl)) p _ _ _
  | alarmAck p => exact .request (alarmAck_plantKept p) p _ _ _
  | identify p => exact .request (fun _ u => same u) p _ _ _
  | slotRead p => exact .request (reading_plantKept _ _) p _ _ _
  | subscriberRead p => exact .request subscriberRead_plantKept p _ _ _
  | tapRead p => exact .request (reading_plantKept _ _) p _ _ _
  | branchRead p => exact .request (reading_plantKept _ _) p _ _ _
  | stationRead p => exact .request (reading_plantKept _ _) p _ _ _
  | alarmListRead p => exact .request (reading_plantKept _ _) p _ _ _
  | eventRead p => exact .request (reading_plantKept _ _) p _ _ _
  | billingRead p => exact .request (fun _ u => same u) p _ _ _
  | linkRead p => exact .request (fun _ u => same u) p _ _ _
  | restartLine intact b => exact .plant (.ite (warmRestart_plantKept b s) (coldStart_plantKept b s))
  | startIndication a b c => exact execStartIndication_accrual a b c
  | masterPortByteReceived p byte stop =>
    exact .ite (.plant (takeByte_plantKept p byte s)) (.plant (setPort_plantKept _ _ s))

/-- A step runs the front command on the queue's rest, or 1 ms passes. -/
theorem step_accrual (h : step s = .next t) : AccrualKept s t := by
  unfold step at h
  split at h
  · rename_i c rest _
    exact .after (t := { s with pending := rest }) (.of_records (by rfl) (by rfl)) (fun _ ho => ho) (exec_accrual c _ t h)
  · injection h with h
    exact h ▸ (passTime_plantKept 1 s).accrual

/-- Settles O55: every command keeps the engine and the sync set sound, and every change of a desire is followed by the
entry tests of the taps it concerns. -/
theorem engineAndSyncStaySound : Obligations.EngineAndSyncStaySound := by
  unfold Obligations.EngineAndSyncStaySound
  exact ⟨fun s t hs he hq h => (step_accrual h).carrier hs he hq,
    fun s t hs hp hk h => (step_accrual h).steps (.of_purchases hp) hs hk⟩

/-- Settles O58: a record gains a claim only where no other holds it and its tap is installed, and no claimed tap is
removed. -/
theorem claimsStaySound : Obligations.ClaimsStaySound := by
  unfold Obligations.ClaimsStaySound
  exact fun s t hs hc h => (step_accrual h).claims hs hc

end Commands

end Sys2Proof.Machine


namespace Sys2Proof.Machine

/-! ## The entry test and the reply intake, as the table states them (R38, R47, R51) -/

section EntryTest
variable {s t : State}

/-! ### The desired mask -/

/-- R38: the tiers that an unlocked record passes. -/
theorem hasTier_wantedMask {r : Subscriber} (h : r.locked = false) {k : Nat} (hk : k < 8) :
    hasTier (s.wantedMask r) k = true ↔
      hasTier r.w k = true ∨ (k = 7 ∧ ∃ e ∈ r.purchases, (s.event e.event).state = .showing) := by
  have shows : s.holdsShowing r = true ↔ ∃ e ∈ r.purchases, (s.event e.event).state = .showing := by
    simp [State.holdsShowing, List.any_eq_true]
  rw [← shows]
  cases hshow : s.holdsShowing r
  · simp [State.wantedMask, h, hshow]
  · have bit : (0x80#8).getLsbD k = decide (k = 7) := by interval_cases k <;> rfl
    simp [State.wantedMask, h, hshow, hasTier, bit]

/-! ### Out of step -/

theorem exists_port_iff {P : Nat → Prop} : (∃ p, (1 ≤ p ∧ p ≤ 4) ∧ P p) ↔ P 1 ∨ P 2 ∨ P 3 ∨ P 4 := by
  constructor
  · rintro ⟨p, ⟨least, most⟩, hp⟩
    interval_cases p <;> simp [hp]
  · rintro (h | h | h | h)
    exacts [⟨1, by omega, h⟩, ⟨2, by omega, h⟩, ⟨3, by omega, h⟩, ⟨4, by omega, h⟩]

/-- R47: out of step by what the tap reports. -/
theorem outOfStepReported_iff {n : Nat} : s.outOfStepReported n = true ↔ (s.tap n).heldRev ≠ some s.revision ∨
    ∃ p, (1 ≤ p ∧ p ≤ 4) ∧ (s.tap n).reported.get p ≠ some (s.desiredMask n p) := by
  rw [exists_port_iff]
  simp only [State.outOfStepReported, State.desiredMasks, Quad.of, Quad.toList, Quad.get, Bool.or_eq_true, decide_eq_true_eq,
    List.map_cons, List.map_nil, ne_eq, List.cons.injEq, and_true]
  simp only [eq_comm (a := some _)]
  tauto

/-- R47: out of step by what was last sent to the tap. -/
theorem outOfStepSent_iff {n : Nat} {l : LastSent} (h : (s.tap n).lastSent = some l) : s.outOfStepSent n = true ↔
    s.revision ≠ l.revision ∨ ∃ p, (1 ≤ p ∧ p ≤ 4) ∧ l.masks.get p ≠ s.desiredMask n p := by
  obtain ⟨⟨p1, p2, p3, p4⟩, revision⟩ := l
  rw [exists_port_iff]
  simp only [State.outOfStepSent, h, State.desiredMasks, Quad.of, Quad.get, Bool.or_eq_true, decide_eq_true_eq, ne_eq,
    Quad.mk.injEq]
  simp only [eq_comm (a := s.desiredMask _ _)]
  tauto

/-! ### What the sync set does -/

/-- R47, R49: the sync set when the status of tap `n` goes from one value to another: a tap that becomes QUEUED joins the
back, and one that was leaves. -/
def syncMove (l : List Nat) (n : Nat) (before after : SyncStatus) : List Nat :=
  if before ≠ .queued ∧ after = .queued then l ++ [n]
  else if before = .queued ∧ after ≠ .queued then l.erase n
  else l

@[simp] theorem syncMove_same (l : List Nat) (n : Nat) (v : SyncStatus) : syncMove l n v v = l := by
  unfold syncMove
  cases v <;> rfl

theorem entryTest_syncSet (n : Nat) (s : State) :
    (entryTest n s).syncSet = syncMove s.syncSet n (s.tap n).sync (s.testedSync n) := by
  rcases entryTest_cases n s with ⟨same, status⟩ | ⟨enters, status, -, hv⟩ | ⟨leaves, status, -, hv⟩
  · rw [same, status, syncMove_same]
  · rw [enters, status, enterSync_syncSet, syncMove, if_pos ⟨hv, rfl⟩]
  · rw [leaves, status, leaveSync_syncSet, hv]; rfl

/-! ### The reply of an audit or a query (R51) -/

/-- R51: the sync status of a tap whose reply has been taken in. -/
def State.takenSync (s : State) (n : Nat) : SyncStatus :=
  match (s.tap n).sync with
  | .failed => .queued
  | .mismatch => if s.outOfStepReported n then s.testedSync n else .inStep
  | _ => s.testedSync n

/-- R51: a tap that is neither FAILED nor found in step is tested. -/
theorem takenSync_tested {n : Nat} (h : (s.tap n).sync = .inStep ∨ (s.tap n).sync = .queued ∨
    ((s.tap n).sync = .mismatch ∧ s.outOfStepReported n = true)) : s.takenSync n = s.testedSync n := by
  unfold State.takenSync
  rcases h with hv | hv | ⟨hv, hout⟩ <;> rw [hv]
  exact if_pos hout

section Intake
variable {n : Nat} (m : Quad TierSet) (rev : Nat) (housing : Bool)

theorem takeStatus_apart (hs : TablesSound s) : (takeStatus n m rev housing s).outOfStepReported n = true ↔
    rev ≠ s.revision ∨ ∃ p, (1 ≤ p ∧ p ≤ 4) ∧ m.get p ≠ s.desiredMask n p := by
  obtain ⟨revision, masks⟩ := takeStatus_desire hs n m rev housing n
  rw [outOfStepReported_iff, takeStatus_tap hs, if_pos rfl, revision, exists_port_iff, exists_port_iff]
  simp [masks, Tap.taken, Quad.get]

theorem takeStatus_changed (hs : TablesSound s) {l : LastSent} (h : (s.tap n).lastSent = some l) :
    (takeStatus n m rev housing s).outOfStepSent n = true ↔
      s.revision ≠ l.revision ∨ ∃ p, (1 ≤ p ∧ p ≤ 4) ∧ l.masks.get p ≠ s.desiredMask n p := by
  obtain ⟨revision, masks⟩ := takeStatus_desire hs n m rev housing n
  rw [outOfStepSent_iff (l := l) (by rw [takeStatus_tap hs, if_pos rfl]; exact h), revision]
  simp only [masks]

/-- What a tap reads when its reply has been taken in, and what the sync set and the records do. -/
theorem intakeReply_reads (hs : TablesSound s) (hi : (s.tap n).installed = true) :
    let v := (takeStatus n m rev housing s).takenSync n
    (∀ k, (intakeReply n m rev housing s).tap k =
      if k = n then { (s.tap n).taken m rev housing with sync := v } else s.tap k) ∧
    (intakeReply n m rev housing s).syncSet = syncMove s.syncSet n (s.tap n).sync v ∧
    (intakeReply n m rev housing s).subs = (takeStatus n m rev housing s).subs := by
  intro v
  have tables := (takeStatus_kept n m rev housing s).tables hs
  have read := takeStatus_tap hs n m rev housing
  have sync : ((takeStatus n m rev housing s).tap n).sync = (s.tap n).sync := (takeStatus_standing hs n m rev housing n).2
  have set := takeStatus_syncSet n m rev housing s
  have written : ∀ (w : SyncStatus) k, (if k = n then { (takeStatus n m rev housing s).tap n with sync := w }
      else (takeStatus n m rev housing s).tap k) =
      if k = n then { (s.tap n).taken m rev housing with sync := w } else s.tap k := fun w k => by
    rw [read, read, if_pos rfl]
    split <;> rfl
  rcases intakeReply_cases n m rev housing s with ⟨absent, -⟩ | ⟨-, act⟩
  · exact absurd (hi.symm.trans absent) (by decide)
  · rcases act with ⟨he, hv⟩ | ⟨he, hv⟩ | ⟨he, hv, hout⟩ | ⟨he, hv⟩
    · have hw : v = .queued := by simp [v, State.takenSync, hv]
      refine ⟨fun k => ?_, ?_, ?_⟩
      · rw [he, enterSync_tap tables, written, hw]
      · rw [he, enterSync_syncSet, set, hw, ← sync, hv]; rfl
      · rw [he, subs_of_butSync (enterSync_butSync _ _)]
    · have hw : v = .inFlight := by
        simp only [v, State.takenSync, hv, State.testedSync]
        split <;> rfl
      refine ⟨fun k => ?_, ?_, ?_⟩
      · have flies : { (s.tap n).taken m rev housing with sync := .inFlight } = (s.tap n).taken m rev housing := by
          rw [← hv, sync]; rfl
        rw [he, read, hw, flies]
      · rw [he, set, hw, ← sync, hv, syncMove_same]
      · rw [he]
    · have hw : v = .inStep := by simp [v, State.takenSync, hv, hout]
      refine ⟨fun k => ?_, ?_, ?_⟩
      · rw [he, setSync_tap tables, written, hw]
      · rw [he, setSync_syncSet, set, hw, ← sync, hv]; rfl
      · rw [he, subs_of_butSync (setSync_butSync _ _ _)]
    · have hw : v = (takeStatus n m rev housing s).testedSync n := takenSync_tested hv
      refine ⟨fun k => ?_, ?_, ?_⟩
      · rw [he, entryTest_tap tables, written, hw]
      · rw [he, entryTest_syncSet, set, hw, sync]
      · rw [he, subs_of_butSync (entryTest_butSync _ _)]

end Intake

/-! ### The table -/

section Table
variable {n : Nat}

theorem entryTest_out (h : (s.tap n).installed = false ∨ (s.tap n).sync = .inFlight ∨ (s.tap n).sync = .failed) :
    entryTest n s = s := by
  unfold entryTest
  rcases h with h | h | h <;> simp [h]

theorem entryTest_inStep (hi : (s.tap n).installed = true) (hv : (s.tap n).sync = .inStep) :
    entryTest n s = if s.outOfStepReported n then enterSync n s else s := by simp [entryTest, hi, hv]

theorem entryTest_queued (hi : (s.tap n).installed = true) (hv : (s.tap n).sync = .queued) :
    entryTest n s = if s.outOfStepReported n then s else leaveSync n s := by simp [entryTest, hi, hv]

theorem entryTest_mismatch (hi : (s.tap n).installed = true) (hv : (s.tap n).sync = .mismatch) :
    entryTest n s = if s.outOfStepSent n then enterSync n s else s := by simp [entryTest, hi, hv]

theorem testedSync_inStep (hi : (s.tap n).installed = true) (hv : (s.tap n).sync = .inStep ∨ (s.tap n).sync = .queued) :
    s.testedSync n = if s.outOfStepReported n then .queued else .inStep := by
  rcases hv with hv | hv <;> simp [State.testedSync, hi, hv]

theorem testedSync_mismatch (hi : (s.tap n).installed = true) (hv : (s.tap n).sync = .mismatch) :
    s.testedSync n = if s.outOfStepSent n then .queued else .mismatch := by simp [State.testedSync, hi, hv]

/-- Settles O44: the entry test's cases by the tap's sync status, and what the tap reads when its reply has been taken in. -/
theorem entryTestFollowsTheTable : Obligations.EntryTestFollowsTheTable := by
  unfold Obligations.EntryTestFollowsTheTable
  intro s n
  refine ⟨fun p hp => by rw [State.desiredMask, hp], fun p r hp hl => by simp [State.desiredMask, hp, State.wantedMask, hl],
    fun p r k hp hl hk => by rw [State.desiredMask, hp]; exact hasTier_wantedMask hl hk, ?_, fun m rev housing => ?_⟩
  · intro r apart enters
    have out : s.outOfStepReported n = true ↔ apart := outOfStepReported_iff
    refine ⟨entryTest_out, fun hi hv => ?_, fun hi hv => ?_, fun hi hv l hl => ?_⟩
    · have test := entryTest_inStep hi hv
      exact ⟨fun h => test.trans (if_pos (out.2 h)), fun h => test.trans (if_neg (mt out.1 h))⟩
    · have test := entryTest_queued hi hv
      exact ⟨fun h => test.trans (if_pos (out.2 h)), fun h => test.trans (if_neg (mt out.1 h))⟩
    · have test := entryTest_mismatch hi hv
      have changed := outOfStepSent_iff hl
      exact ⟨fun h => test.trans (if_pos (changed.2 h)), fun h => test.trans (if_neg (mt changed.1 h))⟩
  · intro u apart stays enters
    refine ⟨fun hi => by simp [u, intakeReply, hi], fun hi hs => ?_⟩
    obtain ⟨tap, set, subs⟩ := intakeReply_reads m rev housing hs hi
    have read := takeStatus_tap hs n m rev housing n
    rw [if_pos rfl] at read
    have installed : ((takeStatus n m rev housing s).tap n).installed = true := by rw [read]; exact hi
    have status : ((takeStatus n m rev housing s).tap n).sync = (s.tap n).sync := by rw [read]; rfl
    have out : (takeStatus n m rev housing s).outOfStepReported n = true ↔ apart := takeStatus_apart m rev housing hs
    have taken : u.tap n = { (s.tap n).taken m rev housing with sync := (takeStatus n m rev housing s).takenSync n } := by
      rw [tap, if_pos rfl]
    have becomes : (u.tap n).sync = (takeStatus n m rev housing s).takenSync n := by rw [taken]
    have tested : (s.tap n).sync = .inStep ∨ (s.tap n).sync = .queued →
        (apart → (takeStatus n m rev housing s).takenSync n = .queued) ∧
        (¬ apart → (takeStatus n m rev housing s).takenSync n = .inStep) := fun hv => by
      rw [takenSync_tested (by rw [status]; exact hv.imp_right .inl), testedSync_inStep installed (by rw [status]; exact hv)]
      exact ⟨fun h => if_pos (out.2 h), fun h => if_neg (mt out.1 h)⟩
    change u.syncSet = _ at set
    refine ⟨by rw [taken]; rfl, fun k => ?_, fun hv => ?_, fun hv => ?_, fun hv => ?_, fun hv => ?_, fun hv => ⟨fun ha => ?_,
      fun ha l hl => ?_⟩, fun k hk => by rw [tap, if_neg hk], intakeReply_butTaps n m rev housing s⟩
    · rw [State.sub, subs]; exact takeStatus_sub hs n m rev housing k
    · have same : (takeStatus n m rev housing s).takenSync n = .inFlight := by
        simp only [State.takenSync, status, hv, State.testedSync, installed, if_true]
      exact ⟨becomes.trans (same.trans hv.symm), by rw [set, same, hv, syncMove_same]⟩
    · have queued : (takeStatus n m rev housing s).takenSync n = .queued := by simp only [State.takenSync, status, hv]
      exact ⟨becomes.trans queued, by rw [set, queued, hv]; rfl⟩
    · obtain ⟨queued, calm⟩ := tested (.inl hv)
      exact ⟨fun h => ⟨becomes.trans (queued h), by rw [set, queued h, hv]; rfl⟩,
        fun h => ⟨becomes.trans ((calm h).trans hv.symm), by rw [set, calm h, hv]; rfl⟩⟩
    · obtain ⟨queued, calm⟩ := tested (.inr hv)
      exact ⟨fun h => ⟨becomes.trans ((queued h).trans hv.symm), by rw [set, queued h, hv]; rfl⟩,
        fun h => ⟨becomes.trans (calm h), by rw [set, calm h, hv]; rfl⟩⟩
    · have calm : (takeStatus n m rev housing s).takenSync n = .inStep := by
        simp only [State.takenSync, status, hv]
        exact if_neg (mt out.1 ha)
      exact ⟨becomes.trans calm, by rw [set, calm, hv]; rfl⟩
    · have changed := takeStatus_changed m rev housing hs hl
      have next := takenSync_tested (s := takeStatus n m rev housing s) (n := n)
        (by rw [status]; exact .inr (.inr ⟨hv, out.2 ha⟩))
      rw [testedSync_mismatch installed (by rw [status]; exact hv)] at next
      refine ⟨fun hc => ?_, fun hc => ?_⟩
      · have queued := next.trans (if_pos (changed.2 hc))
        exact ⟨becomes.trans queued, by rw [set, queued, hv]; rfl⟩
      · have same := next.trans (if_neg (mt changed.1 hc))
        exact ⟨becomes.trans (same.trans hv.symm), by rw [set, same, hv]; rfl⟩

end Table

end EntryTest

end Sys2Proof.Machine


namespace Sys2Proof.Machine

/-! ## Completions at their requester (R51 to R55, R68, R70, R91, R99, R106) -/

section Completions
variable {s t : State} {n : Nat}

/-! ### The completion of a port set -/

theorem replyMatches_iff {sent : Quad TierSet} {x : Option TierMap} {m : Quad TierSet} {rev : Nat} :
    replyMatches sent x m rev = true ↔ m = sent ∧ ∀ y, x = some y → rev = y.revision := by
  cases x <;> simp [replyMatches]

/-- A tap set to a status that is not QUEUED and tested: what it and the sync set then read. -/
theorem setTested_reads (hs : TablesSound s) {v : SyncStatus} (hv : v ≠ .queued) :
    let w := (setSync n v s).testedSync n
    (∀ k, (entryTest n (setSync n v s)).tap k = if k = n then { s.tap n with sync := w } else s.tap k) ∧
    (entryTest n (setSync n v s)).syncSet = if w = .queued then s.syncSet ++ [n] else s.syncSet := by
  intro w
  have tables := (setSync_kept n v s).tables hs
  have read := setSync_tap hs n v
  refine ⟨fun k => ?_, ?_⟩
  · rw [entryTest_tap tables, read, read, if_pos rfl]
    split <;> rfl
  · rw [entryTest_syncSet, setSync_syncSet, read, if_pos rfl]
    unfold syncMove
    by_cases hw : w = .queued
    · rw [if_pos ⟨hv, hw⟩, if_pos hw]
    · rw [if_neg fun h => hw h.2, if_neg fun h => hv h.1, if_neg hw]

/-- R52, R53: the sync status of a tap whose port set has been answered. -/
def State.answeredSync (s : State) (n : Nat) (agrees : Bool) : SyncStatus :=
  if agrees then (if s.outOfStepReported n then .queued else .inStep)
  else (if s.outOfStepSent n then .queued else .mismatch)

theorem testedSync_setSync (hs : TablesSound s) (hi : (s.tap n).installed = true) (agrees : Bool) :
    (setSync n (if agrees then .inStep else .mismatch) s).testedSync n = s.answeredSync n agrees := by
  have read := setSync_tap hs n (if agrees then .inStep else .mismatch) n
  rw [if_pos rfl] at read
  have same : SameDesire s (setSync n (if agrees then .inStep else .mismatch) s) n := .of_butSync (setSync_butSync _ _ _) n
  have measured : ((setSync n (if agrees then .inStep else .mismatch) s).tap n).measured = (s.tap n).measured := by rw [read]; rfl
  have installed : ((setSync n (if agrees then .inStep else .mismatch) s).tap n).installed = true := by rw [read]; exact hi
  cases agrees
  · exact (testedSync_mismatch installed (by rw [read]; rfl)).trans (by rw [outOfStepSent_congr same measured]; rfl)
  · exact (testedSync_inStep installed (.inl (by rw [read]; rfl))).trans (by rw [outOfStepReported_congr same measured]; rfl)

/-- R52, R53: what an answered port set leaves. -/
theorem portSetAnswered_reads (hs : TablesSound s) (hi : (s.tap n).installed = true) (sent : Quad TierSet)
    (x : Option TierMap) (m : Quad TierSet) (rev : Nat) (housing : Bool) :
    let w := (takeStatus n m rev housing s).answeredSync n (replyMatches sent x m rev)
    (∀ k, (portSetAnswered n sent x m rev housing s).tap k =
      if k = n then { (s.tap n).taken m rev housing with sync := w } else s.tap k) ∧
    (portSetAnswered n sent x m rev housing s).syncSet = (if w = .queued then s.syncSet ++ [n] else s.syncSet) ∧
    (portSetAnswered n sent x m rev housing s).subs = (takeStatus n m rev housing s).subs := by
  intro w
  have tables := (takeStatus_kept n m rev housing s).tables hs
  have read := takeStatus_tap hs n m rev housing
  have installed : ((takeStatus n m rev housing s).tap n).installed = true := (takeStatus_standing hs n m rev housing n).1.trans hi
  obtain ⟨tap, set⟩ := setTested_reads (n := n) tables
    (v := if replyMatches sent x m rev then .inStep else .mismatch) (by split <;> decide)
  rw [testedSync_setSync tables installed] at tap set
  rw [portSetAnswered_eq]
  refine ⟨fun k => ?_, ?_, ?_⟩
  · rw [tap, read, read, if_pos rfl]
    split <;> rfl
  · rw [set, takeStatus_syncSet]
  · rw [subs_of_butSync (entryTest_butSync _ _), subs_of_butSync (setSync_butSync _ _ _)]

/-- R54: a port set that failed with the return ON. -/
theorem portSetFailed_lost (hs : TablesSound s) {o : TxnOutcome} (ho : o ≠ .carrierOff) (hr : s.engine.returnOn = true) :
    (∀ k, (portSetFailed n o s).tap k = if k = n then { s.tap n with sync := .failed, reach := .unreachable } else s.tap k) ∧
    (portSetFailed n o s).syncSet = s.syncSet ∧ (portSetFailed n o s).subs = s.subs := by
  rw [portSetFailed, if_pos ⟨ho, hr⟩]
  have read := setSync_tap hs n .failed
  refine ⟨fun k => ?_, ?_, ?_⟩
  · rw [setReach_tap ((setSync_kept n _ s).tables hs), read, read, if_pos rfl]
    split <;> rfl
  · exact (syncSet_of_butBranches (setReach_butBranches _ _ _)).trans (setSync_syncSet n .failed s)
  · exact (subs_of_butBranches (setReach_butBranches _ _ _)).trans (subs_of_butSync (setSync_butSync n .failed s))

/-- R55: a port set that failed otherwise. -/
theorem portSetFailed_again (hs : TablesSound s) (hi : (s.tap n).installed = true) {o : TxnOutcome}
    (ho : o = .carrierOff ∨ s.engine.returnOn = false) :
    let w : SyncStatus := if s.outOfStepReported n then .queued else .inStep
    (∀ k, (portSetFailed n o s).tap k = if k = n then { s.tap n with sync := w } else s.tap k) ∧
    (portSetFailed n o s).syncSet = syncMove (s.syncSet ++ [n]) n .queued w ∧ (portSetFailed n o s).subs = s.subs := by
  intro w
  have notLost : ¬ (o ≠ .carrierOff ∧ s.engine.returnOn = true) := fun ⟨hc, hr⟩ =>
    ho.elim hc fun hoff => absurd (hr.symm.trans hoff) (by decide)
  rw [portSetFailed, if_neg notLost]
  have tables := (enterSync_kept n s).tables hs
  have read := enterSync_tap hs n
  have here := read n
  rw [if_pos rfl] at here
  have tested : (enterSync n s).testedSync n = w := by
    rw [testedSync_inStep (by rw [here]; exact hi) (.inr (by rw [here])),
      outOfStepReported_congr (.of_butSync (enterSync_butSync n s) n) (by rw [here]; rfl)]
  refine ⟨fun k => ?_, ?_, ?_⟩
  · rw [entryTest_tap tables, tested, read, read, if_pos rfl]
    split <;> rfl
  · rw [entryTest_syncSet, enterSync_syncSet, tested, here]
  · rw [subs_of_butSync (entryTest_butSync _ _), subs_of_butSync (enterSync_butSync _ _)]

theorem setReach_reads (hs : TablesSound s) (v : Reach) :
    (∀ k, (setReach n v s).tap k = if k = n then { s.tap n with reach := v } else s.tap k) ∧
    (setReach n v s).syncSet = s.syncSet ∧ (setReach n v s).subs = s.subs :=
  ⟨setReach_tap hs n v, (syncSet_of_butBranches (setReach_butBranches _ _ _)).trans rfl,
    (subs_of_butBranches (setReach_butBranches _ _ _)).trans rfl⟩

/-! ### Each requester -/

section Requesters
variable {c : Completion}

theorem handOver_broadcast (h : c.requester = .broadcast) : handOver c s = countRepeat s := by rw [handOver, h]
theorem handOver_technician (h : c.requester = .technician) : handOver c s = technicianCompleted c s := by rw [handOver, h]
theorem handOver_poll (h : c.requester = .survey) (hc : c.cls = .station) :
    handOver c s = pollCompleted c.addr c.outcome (stationOf c.reply) s := by rw [handOver, h]; simp only [surveyCompleted, hc]
theorem handOver_audit (h : c.requester = .survey) (hc : c.cls = .tap) : handOver c s = auditCompleted c s := by
  rw [handOver, h]; simp only [surveyCompleted, hc]

/-- R70: what a completed MAP LOAD does to the repeats. -/
theorem countRepeat_eq (s : State) : countRepeat s = { s with
    broadcast := if s.broadcast.revisionSent = s.revision then
        { s.broadcast with
          remaining := s.broadcast.remaining - 1
          wanted := decide (0 < s.broadcast.remaining - 1) }
      else s.broadcast } := by
  unfold countRepeat
  split <;> rfl

/-- R91: a query's completion is noticed, its entry removed, and its reply taken in. -/
theorem technicianCompleted_eq {q : Query} (hq : s.techQ.inFlight = some q) : technicianCompleted c s =
    technicianIntake c { putNotice .technician 163 (completionNotice q c) s with techQ := { s.techQ with inFlight := none } } := by
  rw [technicianCompleted, hq]

theorem syncCompleted_failed (hr : c.reply = none) : syncCompleted c s = portSetFailed c.addr c.outcome s := by
  unfold syncCompleted
  rw [hr]
  split
  · rename_i h; cases h
  · rfl

theorem syncCompleted_answered {sent : Quad TierSet} {x : Option TierMap} {m : Quad TierSet} {rev : Nat} {housing : Bool}
    (hc : c.cmd = .portSet sent x) (hr : c.reply = some (.tapStatus m rev housing)) :
    syncCompleted c s = portSetAnswered c.addr sent x m rev housing s := by
  unfold syncCompleted
  rw [hc, hr]

/-- R68, R91: what a completion does at the technician queue. -/
theorem technician_completion (h : c.requester = .technician) {q : Query} (hq : s.techQ.inFlight = some q) :
    let noticed := fun (reply : List Byte) => ({ putNotice .technician 163
        (u8 q.number ++ u8 q.kind.code ++ u8 c.cls.code ++ u16 c.addr ++ u8 c.used ++ u8 c.outcome.code ++ reply) s with
      techQ := { s.techQ with inFlight := none } } : State)
    (c.reply = none → handOver c s = noticed []) ∧
    (∀ token, c.reply = some (.echo token) → handOver c s = noticed token) ∧
    (∀ r, c.reply = some (.stationStatus r) → handOver c s = noticed (u8 r.supply.code ++ openClosed r.doorOpen ++ u16 r.level)) ∧
    (∀ m rev housing, c.reply = some (.tapStatus m rev housing) → c.cmd = .portRead →
      handOver c s = intakeReply c.addr m rev housing
        (noticed ([m.p1, m.p2, m.p3, m.p4] ++ u8 rev ++ yesNo housing))) := by
  intro noticed
  have kept : ∀ u, (∀ m rev housing, c.reply ≠ some (.tapStatus m rev housing)) → technicianIntake c u = u := fun u hr => by
    unfold technicianIntake
    split
    · rename_i h; exact absurd h (hr _ _ _)
    · rfl
  rw [handOver_technician h, technicianCompleted_eq hq]
  refine ⟨fun hr => ?_, fun token hr => ?_, fun r hr => ?_, fun m rev housing hr hc => ?_⟩
  · rw [kept _ (by simp [hr]), completionNotice, hr]
  · rw [kept _ (by simp [hr]), completionNotice, hr]; rfl
  · rw [kept _ (by simp [hr]), completionNotice, hr]; rfl
  · rw [technicianIntake, hc, hr, completionNotice, hr]; rfl

/-- R52, R53: the answer of a port set, at its tap. -/
theorem sync_answered (h : c.requester = .sync) (hs : TablesSound s) (hi : (s.tap c.addr).installed = true)
    (hv : (s.tap c.addr).sync = .inFlight) {sent : Quad TierSet} {x : Option TierMap} {m : Quad TierSet} {rev : Nat}
    {housing : Bool} (hc : c.cmd = .portSet sent x) (hr : c.reply = some (.tapStatus m rev housing)) :
    let t := handOver c s
    let agrees := m = sent ∧ ∀ y, x = some y → rev = y.revision
    let apart := rev ≠ s.revision ∨ ∃ p, (1 ≤ p ∧ p ≤ 4) ∧ m.get p ≠ s.desiredMask c.addr p
    { t.tap c.addr with sync := .inFlight } = { s.tap c.addr with
      reach := .reachable, heldRev := some rev, housingOpen := housing
      reported := ⟨some m.p1, some m.p2, some m.p3, some m.p4⟩ } ∧
    (agrees → ¬ apart → (t.tap c.addr).sync = .inStep ∧ t.syncSet = s.syncSet) ∧
    (agrees → apart → (t.tap c.addr).sync = .queued ∧ t.syncSet = s.syncSet ++ [c.addr]) ∧
    (¬ agrees → ∀ l, (s.tap c.addr).lastSent = some l →
      let changed := s.revision ≠ l.revision ∨ ∃ p, (1 ≤ p ∧ p ≤ 4) ∧ l.masks.get p ≠ s.desiredMask c.addr p
      (¬ changed → (t.tap c.addr).sync = .mismatch ∧ t.syncSet = s.syncSet) ∧
      (changed → (t.tap c.addr).sync = .queued ∧ t.syncSet = s.syncSet ++ [c.addr])) ∧
    (∀ n, t.sub n =
      if (s.sub n).status = .active ∧ (s.sub n).tap = some c.addr then
        { s.sub n with c := m.get ((s.sub n).port.getD 0) } else s.sub n) ∧
    (∀ k, k ≠ c.addr → t.tap k = s.tap k) ∧ t.butTaps = s.butTaps := by
  intro t agrees apart
  obtain ⟨tap, set, subs⟩ := portSetAnswered_reads hs hi sent x m rev housing
  have out : (takeStatus c.addr m rev housing s).outOfStepReported c.addr = true ↔ apart := takeStatus_apart m rev housing hs
  have eq : t = portSetAnswered c.addr sent x m rev housing s := (handOver_sync h s).trans (syncCompleted_answered hc hr)
  rw [← eq] at tap set subs
  have here := tap c.addr
  rw [if_pos rfl] at here
  have becomes : ∀ w, (takeStatus c.addr m rev housing s).answeredSync c.addr (replyMatches sent x m rev) = w →
      (t.tap c.addr).sync = w ∧ t.syncSet = if w = .queued then s.syncSet ++ [c.addr] else s.syncSet := fun w hw =>
    hw ▸ ⟨by rw [here], set⟩
  refine ⟨by rw [here, ← hv]; rfl, fun ha hn => ?_, fun ha hn => ?_, fun ha l hl => ⟨fun hn => ?_, fun hn => ?_⟩, fun n => ?_,
    fun k hk => by rw [tap, if_neg hk], eq ▸ portSetAnswered_butTaps _ _ _ _ _ _ s⟩
  · exact becomes .inStep (by rw [State.answeredSync, if_pos (replyMatches_iff.2 ha), if_neg (mt out.1 hn)])
  · exact becomes .queued (by rw [State.answeredSync, if_pos (replyMatches_iff.2 ha), if_pos (out.2 hn)])
  · exact becomes .mismatch (by
      rw [State.answeredSync, if_neg (mt replyMatches_iff.1 ha), if_neg (mt (takeStatus_changed m rev housing hs hl).1 hn)])
  · exact becomes .queued (by
      rw [State.answeredSync, if_neg (mt replyMatches_iff.1 ha), if_pos ((takeStatus_changed m rev housing hs hl).2 hn)])
  · rw [State.sub, subs]; exact takeStatus_sub hs c.addr m rev housing n

/-- R54, R55: a port set without an answer, at its tap. -/
theorem sync_failed (h : c.requester = .sync) (hs : TablesSound s) (hi : (s.tap c.addr).installed = true)
    (hr : c.reply = none) :
    let t := handOver c s
    (c.outcome ≠ .carrierOff → s.engine.returnOn = true →
      t.tap c.addr = { s.tap c.addr with sync := .failed, reach := .unreachable } ∧ t.syncSet = s.syncSet) ∧
    (c.outcome = .carrierOff ∨ s.engine.returnOn = false →
      let apart := (s.tap c.addr).heldRev ≠ some s.revision ∨
        ∃ p, (1 ≤ p ∧ p ≤ 4) ∧ (s.tap c.addr).reported.get p ≠ some (s.desiredMask c.addr p)
      (apart → t.tap c.addr = { s.tap c.addr with sync := .queued } ∧ t.syncSet = s.syncSet ++ [c.addr]) ∧
      (¬ apart → c.addr ∉ s.syncSet → t.tap c.addr = { s.tap c.addr with sync := .inStep } ∧ t.syncSet = s.syncSet)) ∧
    (∀ k, k ≠ c.addr → t.tap k = s.tap k) ∧ t.subs = s.subs ∧ t.butTaps = s.butTaps := by
  intro t
  have eq : t = portSetFailed c.addr c.outcome s := (handOver_sync h s).trans (syncCompleted_failed hr)
  have lost := fun ho hon => portSetFailed_lost (n := c.addr) hs (o := c.outcome) ho hon
  have again := fun ho => portSetFailed_again hs hi (o := c.outcome) ho
  rw [← eq] at lost again
  have others : (∀ k, k ≠ c.addr → t.tap k = s.tap k) ∧ t.subs = s.subs := by
    by_cases ho : c.outcome = .carrierOff ∨ s.engine.returnOn = false
    · obtain ⟨tap, -, subs⟩ := again ho
      exact ⟨fun k hk => by rw [tap, if_neg hk], subs⟩
    · obtain ⟨hc, hon⟩ := not_or.1 ho
      obtain ⟨tap, -, subs⟩ := lost hc (by simpa using hon)
      exact ⟨fun k hk => by rw [tap, if_neg hk], subs⟩
  refine ⟨fun ho hon => ?_, fun ho => ?_, others.1, others.2, eq ▸ portSetFailed_butTaps _ _ s⟩
  · obtain ⟨tap, set, -⟩ := lost ho hon
    exact ⟨by rw [tap, if_pos rfl], set⟩
  · intro apart
    have out : s.outOfStepReported c.addr = true ↔ apart := outOfStepReported_iff
    obtain ⟨tap, set, -⟩ := again ho
    refine ⟨fun ha => ?_, fun ha absent => ?_⟩
    · rw [if_pos (out.2 ha)] at set
      exact ⟨by rw [tap, if_pos rfl, if_pos (out.2 ha)], set⟩
    · rw [if_neg (mt out.1 ha)] at set
      refine ⟨by rw [tap, if_pos rfl, if_neg (mt out.1 ha)], set.trans ?_⟩
      simp [syncMove, List.erase_append_right _ absent]

/-- Settles O43, by the requester of the completion record. -/
theorem completionsReachTheirRequester : Obligations.CompletionsReachTheirRequester := by
  unfold Obligations.CompletionsReachTheirRequester
  intro s c t tp
  refine ⟨fun h => (handOver_broadcast h).trans (countRepeat_eq s), fun h q hq => technician_completion h hq,
    fun h hs hi hv => ⟨fun sent x m rev housing hc hr => sync_answered h hs hi hv hc hr, fun hr => sync_failed h hs hi hr⟩,
    fun h hc => ?_, fun h hc => ?_⟩
  · have polled := handOver_poll (s := s) h hc
    exact ⟨fun hr => by rw [hr] at polled; exact polled, fun r hr => by rw [hr] at polled; exact polled⟩
  · intro u
    have audited : t = auditCompleted c s := handOver_audit h hc
    have failed : c.reply = none → t = auditFailed tp c.outcome u := fun hr => by rw [audited, auditCompleted, hr]
    refine ⟨fun m rev housing hr => by rw [audited, auditCompleted, hr], fun hr ho => ?_, fun hr ho hon hi hs => ?_⟩
    · rw [failed hr, auditFailed, if_neg]
      rintro ⟨hne, hon, -⟩
      exact ho.elim hne fun hoff => absurd ((show s.engine.returnOn = true from hon).symm.trans hoff) (by decide)
    · have eq : t = setReach tp .unreachable u := by rw [failed hr, auditFailed, if_pos ⟨ho, hon, hi⟩]
      obtain ⟨tap, set, subs⟩ := setReach_reads (n := tp) (s := u) hs .unreachable
      rw [eq]
      exact ⟨by rw [tap, if_pos rfl]; rfl, fun k hk => by rw [tap, if_neg hk]; rfl, set, subs, setReach_butTaps _ _ u⟩

end Requesters

end Completions

end Sys2Proof.Machine


namespace Sys2Proof.Machine

/-! ## The frames of the control carrier (R59, R61, R177) -/

section Frames

/-! ### The check is linear -/

/-- One bit of the check: the byte moves up, and what leaves it comes back as the polynomial. -/
theorem crc8Bit_eq (c : Byte) : crc8Bit c = (c <<< 1) ^^^ (if c.getLsbD 7 then 7 else 0) := by
  unfold crc8Bit
  split
  · rfl
  · exact (BitVec.xor_zero).symm

theorem crc8Bit_xor (a b : Byte) : crc8Bit (a ^^^ b) = crc8Bit a ^^^ crc8Bit b := by
  have comesBack : ∀ x y : Bool, (if (x ^^ y) then 7 else 0 : Byte) = (if x then 7 else 0) ^^^ (if y then 7 else 0) := by decide
  rw [crc8Bit_eq, crc8Bit_eq, crc8Bit_eq, BitVec.shiftLeft_xor_distrib, BitVec.getLsbD_xor, comesBack]
  ac_rfl

/-- Eight bits of the check. -/
def crc8Bits (c : Byte) : Byte := crc8Bit (crc8Bit (crc8Bit (crc8Bit (crc8Bit (crc8Bit (crc8Bit (crc8Bit c)))))))

theorem crc8Bits_xor (a b : Byte) : crc8Bits (a ^^^ b) = crc8Bits a ^^^ crc8Bits b := by
  simp only [crc8Bits, crc8Bit_xor]

theorem crc8_one (b : Byte) : crc8 [b] = crc8Bits b := congrArg crc8Bits BitVec.zero_xor

theorem crc8_append (l : List Byte) (b : Byte) : crc8 (l ++ [b]) = crc8 [crc8 l ^^^ b] := by
  rw [crc8_one, crc8, List.foldl_append]
  rfl

/-- A byte that has not reached the top bit is checked as the byte below it, one bit later. -/
theorem crc8_shift {b : Byte} (h : b.getLsbD 7 = false) :
    crc8 [b <<< 1] = (crc8 [b] <<< 1) ^^^ (if (crc8 [b]).getLsbD 7 then 7 else 0) := by
  have up : b <<< 1 = crc8Bit b := by rw [crc8Bit_eq, h]; exact (BitVec.xor_zero).symm
  rw [crc8_one, crc8_one, ← crc8Bit_eq, up]
  rfl

/-! ### The bytes -/

theorem tierMap_wire (x : TierMap) : x.wire = BitVec.ofNat 8 x.revision :: x.tiers.map (BitVec.ofNat 8 ·) := by
  unfold TierMap.wire
  exact congrArg (u8 x.revision ++ ·) (List.flatMap_pure_eq_map _ _)

theorem tierMap_length {x : TierMap} (h : x.tiers.length = 40) : x.wire.length = 41 := by simp [tierMap_wire, h]

theorem addressFrame_eq (cls : UnitClass) (addr : Nat) : addressFrame cls addr =
    withCrc8 (1 :: (match cls with | .tap => 1 | .station => 2 | .allTaps => 3) :: u16 addr) := by
  cases cls <;> rfl

theorem commandMessage_portSet_map (m : Quad TierSet) {x : TierMap} (h : x.tiers.length = 40) :
    commandMessage (.portSet m (some x)) = withCrc8 ([2, 1, 46, m.p1, m.p2, m.p3, m.p4, 1, BitVec.ofNat 8 x.revision]
      ++ x.tiers.map (BitVec.ofNat 8 ·)) := by
  have length : (m.toList ++ 1 :: x.wire).length = 46 := by simp [Quad.toList, tierMap_length h]
  simp only [commandMessage, Command.wire]
  rw [length, tierMap_wire]
  rfl

theorem commandMessage_mapLoad {x : TierMap} (h : x.tiers.length = 40) :
    commandMessage (.mapLoad x) = withCrc8 ([2, 5, 41, BitVec.ofNat 8 x.revision] ++ x.tiers.map (BitVec.ofNat 8 ·)) := by
  simp only [commandMessage, Command.wire, tierMap_length h]
  rw [tierMap_wire]
  rfl

end Frames

end Sys2Proof.Machine


namespace Sys2Proof.Machine

/-! ## The choice of a poll and of an audit (R98, R104, R105), and what a grant builds (R50, R63, R70, R90) -/

section Choices
variable {s t : State}

/-! ### The due poll -/

/-- The poll chosen from a list of watch records is the earliest due, the lower branch first; none where none is due. -/
def IsEarliest (l : List (Nat × Watch)) : Option (Nat × Nat) → Prop
  | none => ∀ e ∈ l, e.2.dueTime = none
  | some (d, b) => (∃ w, (b, w) ∈ l ∧ w.dueTime = some d) ∧
      ∀ e ∈ l, ∀ v, e.2.dueTime = some v → d < v ∨ (d = v ∧ b ≤ e.1)

/-- A record with a higher branch number takes the place of the best so far only where it is due earlier. -/
theorem IsEarliest.next {l : List (Nat × Watch)} {best : Option (Nat × Nat)} (h : IsEarliest l best) {b : Nat} (w : Watch)
    (above : ∀ e ∈ l, e.1 < b) : IsEarliest (l ++ [(b, w)]) (earlierPoll best b w) := by
  cases hw : w.dueTime with
  | none =>
    have kept : earlierPoll best b w = best := by simp only [earlierPoll, hw]
    rw [kept]
    cases best with
    | none =>
      intro e he
      rcases List.mem_append.1 he with he | he
      · exact h e he
      · rw [List.mem_singleton.1 he]; exact hw
    | some x =>
      obtain ⟨⟨v, hv, hd⟩, first⟩ := h
      refine ⟨⟨v, List.mem_append_left _ hv, hd⟩, fun e he u hu => ?_⟩
      rcases List.mem_append.1 he with he | he
      · exact first e he u hu
      · rw [List.mem_singleton.1 he] at hu; exact absurd (hw.symm.trans hu) (by simp)
  | some d =>
    have mem : (b, w) ∈ l ++ [(b, w)] := List.mem_append_right _ (List.mem_singleton_self _)
    have here : ∀ e ∈ l ++ [(b, w)], ∀ u, e.2.dueTime = some u → e ∈ l ∨ (u = d ∧ e.1 = b) := fun e he u hu => by
      rcases List.mem_append.1 he with he | he
      · exact .inl he
      · rw [List.mem_singleton.1 he] at hu ⊢
        exact .inr ⟨Option.some.inj (hu.symm.trans hw), rfl⟩
    cases best with
    | none =>
      have takes : earlierPoll none b w = some (d, b) := by simp only [earlierPoll, hw]
      rw [takes]
      refine ⟨⟨w, mem, hw⟩, fun e he u hu => ?_⟩
      rcases here e he u hu with he | ⟨rfl, he⟩
      · exact absurd ((h e he).symm.trans hu) (by simp)
      · exact .inr ⟨rfl, he.ge⟩
    | some x =>
      obtain ⟨u, c⟩ := x
      obtain ⟨⟨v, hv, hd⟩, first⟩ := h
      have decides : earlierPoll (some (u, c)) b w = if d < u then some (d, b) else some (u, c) := by
        simp only [earlierPoll, hw]
      rw [decides]
      split
      · rename_i hlt
        refine ⟨⟨w, mem, hw⟩, fun e he x hx => ?_⟩
        rcases here e he x hx with he | ⟨rfl, he⟩
        · rcases first e he x hx with h | ⟨h, -⟩
          · exact .inl (by omega)
          · exact .inl (by omega)
        · exact .inr ⟨rfl, he.ge⟩
      · rename_i hge
        refine ⟨⟨v, List.mem_append_left _ hv, hd⟩, fun e he x hx => ?_⟩
        rcases here e he x hx with he | ⟨rfl, he⟩
        · exact first e he x hx
        · have below : c < b := above _ hv
          rw [he]
          omega

theorem foldl_earlierPoll (l : List (Nat × Watch)) (sorted : (l.map Prod.fst).Pairwise (· < ·)) :
    IsEarliest l (l.foldl (fun best e => earlierPoll best e.1 e.2) none) := by
  induction l using List.reverseRecOn with
  | nil => intro e he; cases he
  | append_singleton l e ih =>
    rw [List.map_append, List.pairwise_append] at sorted
    obtain ⟨sorted, -, above⟩ := sorted
    rw [List.foldl_append]
    exact (ih sorted).next e.2 fun x hx => above _ (List.mem_map_of_mem hx) _ (by simp)

/-- R98: branch `b` has a poll due at `d`. -/
def State.pollDueAt (s : State) (b d : Nat) : Prop :=
  ((s.watch b).state = .pollDue ∧ d = (s.watch b).due.getD 0) ∨
  ((s.watch b).state = .silent ∧ (s.watch b).recovery = .due ∧ d = (s.watch b).recoveryDue.getD 0)

theorem dueTime_eq_some {b d : Nat} : (s.watch b).dueTime = some d ↔ s.pollDueAt b d := by
  unfold Watch.dueTime State.pollDueAt
  cases (s.watch b).state <;> simp [eq_comm]

theorem keys_sorted {α : Type} [DecidableEq α] {d : α} {l : Table α} (h : tabWf d l = true) :
    (l.map Prod.fst).Pairwise (· < ·) := by
  have all : tabWhere (fun _ _ => true) l = l.map Prod.fst := by simp [tabWhere]
  exact all ▸ tabWhere_sorted h _

/-- R98: the chosen poll. -/
theorem choosePoll_eq_some (hs : TablesSound s) {b : Nat} (h : s.choosePoll = some b) :
    ∃ d, s.pollDueAt b d ∧ ∀ k e, s.pollDueAt k e → d < e ∨ (d = e ∧ b ≤ k) := by
  have wf : tabWf .cold s.watches = true := hs.watches
  have first := foldl_earlierPoll s.watches (keys_sorted wf)
  unfold State.choosePoll at h
  obtain ⟨⟨d, c⟩, hd, rfl⟩ := Option.map_eq_some_iff.1 h
  rw [hd] at first
  obtain ⟨⟨w, hw, due⟩, first⟩ := first
  have read : s.watch c = w := tabGet_of_mem wf hw
  refine ⟨d, dueTime_eq_some.1 (read ▸ due), fun k e hk => ?_⟩
  have listed : s.watch k ≠ .cold := fun hc => by
    have := dueTime_eq_some.2 hk
    rw [hc] at this
    cases this
  exact first _ (mem_of_tabGet_ne listed) e (dueTime_eq_some.2 hk)

theorem choosePoll_eq_none (hs : TablesSound s) (h : ∀ b d, ¬ s.pollDueAt b d) : s.choosePoll = none := by
  rw [Option.eq_none_iff_forall_ne_some]
  intro b hb
  obtain ⟨d, hd, -⟩ := choosePoll_eq_some hs hb
  exact h b d hd

/-- R98: the poll that no other comes before is chosen. -/
theorem choosePoll_of_first (hs : TablesSound s) {b d : Nat} (h : s.pollDueAt b d)
    (first : ∀ k e, s.pollDueAt k e → d < e ∨ (d = e ∧ b ≤ k)) : s.choosePoll = some b := by
  cases hc : s.choosePoll with
  | none =>
    have none := foldl_earlierPoll s.watches (keys_sorted hs.watches)
    rw [State.choosePoll, Option.map_eq_none_iff] at hc
    rw [hc] at none
    have listed : s.watch b ≠ .cold := fun hcold => by
      have := dueTime_eq_some.2 h
      rw [hcold] at this
      cases this
    exact absurd ((none _ (mem_of_tabGet_ne listed)).symm.trans (dueTime_eq_some.2 h)) (by simp)
  | some k =>
    obtain ⟨e, he, least⟩ := choosePoll_eq_some hs hc
    have := first k e he
    have := least b d h
    have : k = b := by omega
    rw [this]

/-! ### The audit -/

/-- R104: the taps that an audit may take. -/
def State.auditable (s : State) (n : Nat) : Prop :=
  (s.tap n).installed = true ∧ (s.tap n).sync ≠ .queued ∧ (s.tap n).sync ≠ .inFlight

theorem mem_eligibleTaps (hs : TablesSound s) {n : Nat} : n ∈ s.eligibleTaps ↔ s.auditable n := by
  unfold State.eligibleTaps State.auditable
  rw [mem_tabWhere hs.taps]
  change s.tap n ≠ .cold ∧ (s.tap n).eligible = true ↔ _
  simp only [Tap.eligible, Bool.and_eq_true, decide_eq_true_eq, ne_eq, and_assoc]
  refine ⟨fun h => h.2, fun h => ⟨fun hc => ?_, h⟩⟩
  have cold : (s.tap n).installed = false := congrArg Tap.installed hc
  exact absurd (cold.symm.trans h.1) (by decide)

/-- R105: the first tap after the cursor is audited, or else the first. -/
theorem chooseAudit_of_first (hs : TablesSound s) {n : Nat} (h : s.auditable n)
    (first : (s.survey.cursor < n ∧ ∀ k, s.auditable k → s.survey.cursor < k → n ≤ k) ∨
      ∀ k, s.auditable k → k ≤ s.survey.cursor ∧ n ≤ k) : s.chooseAudit = some n := by
  have sorted : s.eligibleTaps.Pairwise (· < ·) := tabWhere_sorted hs.taps _
  have after : ∀ k, s.eligibleTaps.find? (fun j => decide (s.survey.cursor < j)) = some k ↔
      (s.auditable k ∧ s.survey.cursor < k) ∧ ∀ j, s.auditable j → s.survey.cursor < j → k ≤ j := fun k => by
    rw [← List.head?_filter, head_sorted (sorted.filter _)]
    simp only [List.mem_filter, mem_eligibleTaps hs, decide_eq_true_eq, and_imp]
  unfold State.chooseAudit
  rcases first with ⟨behind, least⟩ | least
  · rw [(after n).2 ⟨⟨h, behind⟩, least⟩]
  · have none : s.eligibleTaps.find? (fun j => decide (s.survey.cursor < j)) = none := by
      rw [Option.eq_none_iff_forall_ne_some]
      intro k hk
      obtain ⟨⟨hk, behind⟩, -⟩ := (after k).1 hk
      exact absurd (least k hk).1 (by omega)
    rw [none]
    exact (head_sorted sorted).2 ⟨(mem_eligibleTaps hs).2 h, fun k hk => (least k ((mem_eligibleTaps hs).1 hk)).2⟩

theorem chooseAudit_eq_none (hs : TablesSound s) (h : ∀ n, ¬ s.auditable n) : s.chooseAudit = none := by
  have empty : s.eligibleTaps = [] := List.eq_nil_iff_forall_not_mem.2 fun n hn => h n ((mem_eligibleTaps hs).1 hn)
  simp [State.chooseAudit, empty]

/-! ### The transaction -/

/-- R63, R64: the engine holds the transaction and has sent its frames. -/
def Sends (s t : State) (r : Requester) (c : UnitClass) (addr : Nat) (cmd : Command) (limit : Nat) : Prop :=
  t.engine.state = .sending ∧ t.engine.txn = some ⟨r, c, addr, cmd, limit, 10 * s.link.window, 1, none⟩ ∧
  t.out.carrier = s.out.carrier ++ [addressFrame c addr, commandMessage cmd]

theorem takeTransaction_sends (r : Requester) (c : UnitClass) (addr : Nat) (cmd : Command) {u : State}
    (link : u.link = s.link) (out : u.out.carrier = s.out.carrier) :
    Sends s (takeTransaction r c addr cmd u) r c addr cmd (attemptLimit cmd s.link) := by
  refine ⟨rfl, ?_, congrArg (· ++ [addressFrame c addr, commandMessage cmd]) out⟩
  rw [← link]
  rfl

theorem markPolled_leaves (b : Nat) (s : State) : (markPolled b s).link = s.link ∧ (markPolled b s).out = s.out ∧
    (markPolled b s).survey = s.survey := by
  unfold markPolled
  extract_lets w
  split <;> exact ⟨rfl, rfl, rfl⟩

theorem grantTechnician_eq {q : Query} {rest : List Query} (h : s.techQ.waiting = q :: rest) : grantTechnician s =
    takeTransaction .technician q.cls q.addr q.command
      { s with techQ := { s.techQ with waiting := rest, inFlight := some q } } := by rw [grantTechnician, h]

theorem grantSync_eq {n : Nat} {rest : List Nat} (h : s.syncSet = n :: rest) : grantSync s =
    takeTransaction .sync .tap n (s.portSet n) (setSync n .inFlight (({ s with syncSet := rest } : State).setTap n
      { s.tap n with lastSent := some ⟨s.desiredMasks n, s.revision⟩ })) := by rw [grantSync, h]

theorem grantSurvey_poll {b : Nat} (h : s.choosePoll = some b) :
    grantSurvey s = takeTransaction .survey .station b .stationPoll (markPolled b s) := by rw [grantSurvey, h]

theorem grantSurvey_audit {n : Nat} (h : s.choosePoll = none) (ha : s.chooseAudit = some n) :
    grantSurvey s = takeTransaction .survey .tap n .portRead (markAudited n s) := by rw [grantSurvey, h, ha]

/-- R98: a poll that is handed over becomes POLLED. -/
theorem markPolled_due (hs : TablesSound s) {b d : Nat} (h : s.pollDueAt b d) :
    (((s.watch b).state = .pollDue ∧ (markPolled b s).watch b = { s.watch b with state := .polled }) ∨
      ((s.watch b).state = .silent ∧ (s.watch b).recovery = .due ∧
        (markPolled b s).watch b = { s.watch b with recovery := .polled })) ∧
    ∀ k, k ≠ b → (markPolled b s).watch k = s.watch k := by
  unfold markPolled
  rcases h with ⟨hv, -⟩ | ⟨hv, hr, -⟩ <;> simp only [hv]
  · refine ⟨.inl ⟨trivial, ?_⟩, fun k hk => ?_⟩
    · rw [watch_setWatch hs.watches, if_pos rfl]
    · rw [watch_setWatch hs.watches, if_neg hk]
  · refine ⟨.inr ⟨trivial, hr, ?_⟩, fun k hk => ?_⟩
    · rw [watch_setWatch hs.watches, if_pos rfl]
    · rw [watch_setWatch hs.watches, if_neg hk]

theorem grantTechnician_sends {q : Query} {rest : List Query} (h : s.techQ.waiting = q :: rest) :
    Sends s (grantTo .technician s) .technician (if q.kind = .stationQuery then .station else .tap) q.addr
      (match q.kind with
        | .tapQuery => .portRead
        | .tapEcho => .echo q.token
        | .stationQuery => .stationPoll) (s.link.retries + 1) := by
  change Sends s (grantTechnician s) _ _ _ _ _
  rw [grantTechnician_eq h]
  have sends := takeTransaction_sends (s := s) .technician q.cls q.addr q.command
    (u := { s with techQ := { s.techQ with waiting := rest, inFlight := some q } }) rfl rfl
  unfold Query.cls Query.command at *
  cases hk : q.kind <;> rw [hk] at sends <;> exact sends

theorem grantSync_sends {n : Nat} {rest : List Nat} (h : s.syncSet = n :: rest) :
    Sends s (grantTo .sync s) .sync .tap n
      (.portSet (s.desiredMasks n) (if (s.tap n).heldRev = some s.revision then none else some s.tierMap))
      (s.link.retries + 1) := by
  change Sends s (grantSync s) _ _ _ _ _
  rw [grantSync_eq h]
  have but := setSync_butSync n .inFlight (({ s with syncSet := rest } : State).setTap n
    { s.tap n with lastSent := some ⟨s.desiredMasks n, s.revision⟩ })
  exact takeTransaction_sends .sync .tap n (s.portSet n) (link_of_butSync but)
    (show (State.butSync _).out.carrier = _ from but ▸ rfl)

/-- Settles O42: the bytes of the frames, the choices of the survey unit, and each requester's transaction. -/
theorem grantsBuildTheirTransactions : Obligations.GrantsBuildTheirTransactions := by
  unfold Obligations.GrantsBuildTheirTransactions
  refine ⟨⟨addressFrame_eq, ⟨fun _ => rfl, fun m x h => commandMessage_portSet_map m h, rfl, fun _ => rfl, rfl,
    fun x h => commandMessage_mapLoad h⟩, rfl, by decide, crc8_append, fun a b => ?_, fun b h => crc8_shift h⟩, fun s => ?_⟩
  · rw [crc8_one, crc8_one, crc8_one, crc8Bits_xor]
  · intro sends
    refine ⟨⟨takeTransaction_sends .broadcast .allTaps 0 (.mapLoad s.tierMap) rfl rfl, rfl⟩,
      fun q rest h => ⟨grantTechnician_sends h, ?_⟩, fun n rest h hs => ⟨grantSync_sends h, grantSync_syncSet h, ?_, ?_⟩,
      fun hs => ⟨fun b d h first => choosePoll_of_first hs h first, fun h => choosePoll_eq_none hs h,
        fun n h first => chooseAudit_of_first hs h first, fun h => chooseAudit_eq_none hs h⟩,
      fun b h hs => ?_, fun n h ha => ?_⟩
    · change (grantTechnician s).techQ = _
      rw [grantTechnician_eq h]
      rfl
    · exact (grantSync_taps h hs n).trans (if_pos rfl)
    · exact fun k hk => (grantSync_taps h hs k).trans (if_neg hk)
    · obtain ⟨d, due, -⟩ := choosePoll_eq_some hs h
      obtain ⟨link, out, survey⟩ := markPolled_leaves b s
      obtain ⟨polled, others⟩ := markPolled_due hs due
      have granted : grantTo .survey s = takeTransaction .survey .station b .stationPoll (markPolled b s) := grantSurvey_poll h
      rw [granted]
      exact ⟨takeTransaction_sends .survey .station b .stationPoll link (congrArg Outputs.carrier out), polled, others, survey⟩
    · have granted : grantTo .survey s = takeTransaction .survey .tap n .portRead (markAudited n s) := grantSurvey_audit h ha
      rw [granted]
      exact ⟨takeTransaction_sends .survey .tap n .portRead rfl rfl, rfl⟩

end Choices

end Sys2Proof.Machine


namespace Sys2Proof.Machine

/-! ## The subscriber store's requests (R41 to R44) and the office's refusals (R156, R157) -/

section Store
variable {s : State} {p : Master} {m : Msg} {k : Nat}

/-! ### A request at its block -/

/-- R171: a request that its block answers. -/
theorem Asks.answered {α : Type} {parse : List Byte → Option α} {block : Block α} {a : α} {t : State} {r : Ans}
    (h : Asks s p k m) (hp : parse m.body = some a) (hb : block a (dropHead p s) = (t, r)) :
    Host.Outcome.next (Machine.takeRequest p k true parse block s) = (.next (putAnswer p m r t) : Result) := by
  rw [h.served hp, hb]

/-- R171: a request that its block refuses. -/
theorem Asks.refused {α : Type} {parse : List Byte → Option α} {block : Block α} {a : α} {c : AnswerCode}
    (h : Asks s p k m) (hp : parse m.body = some a) (hb : block a (dropHead p s) = refused c (dropHead p s)) :
    Host.Outcome.next (Machine.takeRequest p k true parse block s) = (.next (afterAnswer p m (refuse c) s) : Result) :=
  h.answered hp hb

theorem within_true {lo hi n : Nat} (h : lo ≤ n ∧ n ≤ hi) : within lo hi n = true := decide_eq_true h
theorem within_false {lo hi n : Nat} (h : ¬ (lo ≤ n ∧ n ≤ hi)) : within lo hi n = false := decide_eq_false h

/-! ### What a test and a decision leave (R48, R82) -/

/-- The records stand when a tap has been tested and the arbiter has decided. -/
theorem tested_subs (o : Option Nat) (u : State) : (arbitrate (entryTestOf o u)).subs = u.subs :=
  (subs_of_butCarrier (arbitrate_butCarrier _)).trans (subs_of_butSync (entryTestOf_butSync o u))

theorem tested_butGrant (o : Option Nat) (u : State) : (arbitrate (entryTestOf o u)).butGrant = u.butGrant :=
  (arbitrate_butGrant _).trans (butGrant_of_butTaps (entryTestOf_butTaps o u))

theorem tested_events (o : Option Nat) (u : State) : (arbitrate (entryTestOf o u)).events = u.events := by
  obtain ⟨-, -, -, events⟩ := fields_of_butSync (entryTestOf_butSync o u)
  exact (events_of_butCarrier (arbitrate_butCarrier _)).trans events

/-- A record written and its tap tested: every other record stands. -/
theorem setSub_tested (hs : TablesSound s) (n : Nat) (v : Subscriber) (o : Option Nat) :
    let t := arbitrate (entryTestOf o ((dropHead p s).setSub n v))
    t.sub n = v ∧ (∀ k, k ≠ n → t.sub k = s.sub k) ∧ t.butGrant = s.butGrant := by
  intro t
  have read : ∀ k, t.sub k = if k = n then v else (dropHead p s).sub k := fun k => by
    rw [State.sub, tested_subs]
    exact sub_setSub (dropHead_tables p hs).subs n k v
  refine ⟨by rw [read, if_pos rfl], fun k hk => by rw [read, if_neg hk, dropHead_get_sub], ?_⟩
  exact (tested_butGrant o _).trans ((butGrant_of_butTaps (setSub_butTaps n v _)).trans (dropHead_butGrant p s))

/-! ### SUBSCRIBER ADD (R41) -/

/-- R41, check 1: the number, the tap and the port are in their ranges and W does not hold tier 7. -/
def AddArgs.inRange (a : AddArgs) : Prop :=
  (∀ n, a.number = some n → 1 ≤ n ∧ n ≤ 2048) ∧ (1 ≤ a.tap ∧ a.tap ≤ 512) ∧ (1 ≤ a.port ∧ a.port ≤ 4) ∧ hasTier a.w 7 = false

section Add
variable {a : AddArgs}

theorem subscriberAdd_outOfRange (h : ¬ a.inRange) : subscriberAdd a s = refused .outOfRange s := by
  obtain ⟨number, tap, port, w⟩ := a
  unfold AddArgs.inRange at h
  unfold subscriberAdd
  rw [if_pos]
  by_contra hno
  refine h ?_
  cases number <;> simpa [within, orders7, and_assoc, Nat.one_le_iff_ne_zero] using hno

theorem subscriberAdd_notFound (h : a.inRange) (hi : (s.tap a.tap).installed = false) :
    subscriberAdd a s = refused .notFound s := by
  obtain ⟨number, tap, port, w⟩ := a
  obtain ⟨hn, ht, hp, hw⟩ := h
  cases number <;> simp_all [subscriberAdd, within, orders7]

theorem subscriberAdd_conflict (h : a.inRange) (hi : (s.tap a.tap).installed = true)
    (hc : (s.claimant a.tap a.port).isSome = true) : subscriberAdd a s = refused .conflict s := by
  obtain ⟨number, tap, port, w⟩ := a
  obtain ⟨hn, ht, hp, hw⟩ := h
  cases number <;> simp_all [subscriberAdd, within, orders7]

theorem subscriberAdd_full (h : a.inRange) (hi : (s.tap a.tap).installed = true) (hc : s.claimant a.tap a.port = none)
    (ht : s.addTarget a = none) : subscriberAdd a s = refused .full s := by
  obtain ⟨number, tap, port, w⟩ := a
  obtain ⟨hn, ht', hp, hw⟩ := h
  cases number <;> simp_all [subscriberAdd, within, orders7]

/-- R41: the record found is written where it is FREE. -/
theorem subscriberAdd_target (h : a.inRange) (hi : (s.tap a.tap).installed = true) (hc : s.claimant a.tap a.port = none)
    {n : Nat} (ht : s.addTarget a = some n) : subscriberAdd a s =
      if (s.sub n).status = .free then answered (addContent n a) (addSubscriber n a s) else refused .wrongState s := by
  obtain ⟨number, tap, port, w⟩ := a
  obtain ⟨hn, ht', hp, hw⟩ := h
  cases number <;> simp_all [subscriberAdd, within, orders7]

/-- R41: the record that an ADD without a number takes. -/
theorem addTarget_lowest {n : Nat} (hn : 1 ≤ n ∧ n ≤ 2048) (hfree : (s.sub n).status = .free)
    (h : a.number = some n ∨ (a.number = none ∧ ∀ k, 1 ≤ k → k < n → (s.sub k).status ≠ .free)) :
    s.addTarget a = some n := by
  unfold State.addTarget
  rcases h with h | ⟨h, lower⟩ <;> rw [h]
  refine List.find?_range'_eq_some.2 ⟨by simpa using hfree, by simp; omega, fun k hk hkn => by simpa using lower k hk hkn⟩

/-- R41: the record named is the one an ADD takes. -/
theorem addTarget_named {n : Nat} (h : a.number = some n) : s.addTarget a = some n := by
  unfold State.addTarget
  rw [h]

theorem addTarget_none (h : a.number = none) (hfull : ∀ n, 1 ≤ n → n ≤ 2048 → (s.sub n).status ≠ .free) :
    s.addTarget a = none := by
  unfold State.addTarget
  rw [h]
  refine List.find?_eq_none.2 fun n hn => ?_
  have range : 1 ≤ n ∧ n < 1 + 2048 := by simpa [subNumbers] using hn
  simpa using hfull n range.1 (by omega)

end Add

/-- Settles O11: the record is written, its tap tested, and the answer read after the arbiter's decision. -/
theorem subscriberAddWritesTheRecord : Obligations.SubscriberAddWritesTheRecord := by
  unfold Obligations.SubscriberAddWritesTheRecord
  intro s m a n hask hparse hs hn htap hport hw hinstalled alone hfree hnumber r t
  have range : a.inRange := by
    refine ⟨fun k hk => ?_, htap, hport, hw⟩
    rcases hnumber with h | ⟨h, -⟩
    · obtain rfl : n = k := by simpa [h] using hk
      exact hn
    · exact absurd (h.symm.trans hk) (by simp)
  have unclaimed : (dropHead .office s).claimant a.tap a.port = none :=
    (claimant_eq_none (dropHead_tables .office hs).subs).2 fun k hk hp => by
      rw [dropHead_get_sub] at hk hp
      exact alone k hk.1 ⟨hk.2, hp⟩
  have target : (dropHead .office s).addTarget a = some n := addTarget_lowest hn (by simpa using hfree) (by simpa using hnumber)
  have block := subscriberAdd_target range (by simpa using hinstalled) unclaimed target
  rw [dropHead_get_sub, if_pos hfree] at block
  have written : addSubscriber n a (dropHead .office s) = t := by
    simp only [addSubscriber, dropHead_get_sub, dropHead_get_tap]
    rfl
  obtain ⟨here, others, but⟩ := setSub_tested (p := .office) hs n r (some a.tap)
  change t.sub n = r at here
  rw [written] at block
  refine ⟨(Asks.answered hask hparse block).trans ?_, here, others, but⟩
  rw [addContent, here]
  rfl

/-! ### SUBSCRIBER CHANGE and SUBSCRIBER REMOVE (R42, R43) -/

theorem subscriberChange_outOfRange {n : Nat} {w : TierSet} (h : ¬ (1 ≤ n ∧ n ≤ 2048) ∨ hasTier w 7 = true) :
    subscriberChange (n, w) s = refused .outOfRange s := by
  have check : (!within 1 2048 n || orders7 w) = true := by
    rcases h with h | h
    · simp [within_false h]
    · simp [orders7, h]
  exact if_pos check

theorem subscriberChange_wrongState {n : Nat} {w : TierSet} (hn : 1 ≤ n ∧ n ≤ 2048) (hw : hasTier w 7 = false)
    (hv : (s.sub n).status ≠ .active) : subscriberChange (n, w) s = refused .wrongState s := by
  simp [subscriberChange, within_true hn, orders7, hw, hv]

theorem subscriberChange_changes {n : Nat} {w : TierSet} (hn : 1 ≤ n ∧ n ≤ 2048) (hw : hasTier w 7 = false)
    (hv : (s.sub n).status = .active) : subscriberChange (n, w) s = answered (changeContent n) (changeTiers n w s) := by
  simp [subscriberChange, within_true hn, orders7, hw, hv]

theorem subscriberRemove_outOfRange {n : Nat} (h : ¬ (1 ≤ n ∧ n ≤ 2048)) :
    subscriberRemove n s = refused .outOfRange s := by
  simp [subscriberRemove, within_false h]

theorem subscriberRemove_wrongState {n : Nat} (hn : 1 ≤ n ∧ n ≤ 2048) (hv : (s.sub n).status ≠ .active) :
    subscriberRemove n s = refused .wrongState s := by
  simp [subscriberRemove, within_true hn, hv]

theorem subscriberRemove_removes {n : Nat} (hn : 1 ≤ n ∧ n ≤ 2048) (hv : (s.sub n).status = .active) :
    subscriberRemove n s = answered noContent (removeSubscriber n s) := by
  simp [subscriberRemove, within_true hn, hv]

/-- R157: each event of a list without duplicates loses one buyer. -/
theorem dropBuyers_event (hs : TablesSound s) {l : List Nat} (hl : l.Nodup) (e : Nat) : (forEach l dropBuyer s).event e =
    if e ∈ l then { s.event e with buyers := (s.event e).buyers - 1 } else s.event e := by
  induction l generalizing s with
  | nil => simp
  | cons n l ih =>
    obtain ⟨hn, hl⟩ := List.nodup_cons.1 hl
    have tables : TablesSound (dropBuyer n s) := hs.setEvent n _
    have read : (dropBuyer n s).event e = if e = n then { s.event n with buyers := (s.event n).buyers - 1 } else s.event e :=
      event_setEvent hs.events n e _
    rw [forEach_cons, ih tables hl, read]
    by_cases he : e = n
    · subst e; simp [hn]
    · simp [he]

/-- R43: the state in which a record has been removed, before its tap is tested. -/
def State.withRemoved (s : State) (n : Nat) : State :=
  forEach (((s.sub n).purchases.filter s.isScheduled).map Purchase.event) dropBuyer (s.setSub n ((s.sub n).removedBy s))

theorem removeSubscriber_eq (n : Nat) (s : State) :
    removeSubscriber n s = arbitrate (entryTestOf (s.sub n).tap (s.withRemoved n)) := rfl

theorem withRemoved_keeps (n : Nat) (s : State) :
    { s.withRemoved n with subs := [], events := [] } = { s with subs := [], events := [] } := by
  have keeps := dropBuyers_keep (((s.sub n).purchases.filter s.isScheduled).map Purchase.event)
    (s.setSub n ((s.sub n).removedBy s))
  exact congrArg (fun u : State => { u with subs := [] }) keeps

theorem withRemoved_sub (hs : TablesSound s) (n k : Nat) :
    (s.withRemoved n).sub k = if k = n then (s.sub n).removedBy s else s.sub k := by
  have keeps := dropBuyers_keep (((s.sub n).purchases.filter s.isScheduled).map Purchase.event)
    (s.setSub n ((s.sub n).removedBy s))
  have subs : (s.withRemoved n).subs = (s.setSub n ((s.sub n).removedBy s)).subs := (congrArg State.subs keeps :)
  rw [State.sub, subs]
  exact sub_setSub hs.subs n k _

theorem withRemoved_event (hs : TablesSound s) {n : Nat} (hl : ((s.sub n).purchases.map Purchase.event).Nodup) (e : Nat) :
    (s.withRemoved n).event e =
      if (s.event e).state = .scheduled ∧ e ∈ (s.sub n).purchases.map Purchase.event then
        { s.event e with buyers := (s.event e).buyers - 1 }
      else s.event e := by
  have gone : (((s.sub n).purchases.filter s.isScheduled).map Purchase.event).Nodup :=
    hl.sublist (List.filter_sublist.map _)
  have mem : e ∈ ((s.sub n).purchases.filter s.isScheduled).map Purchase.event ↔
      (s.event e).state = .scheduled ∧ e ∈ (s.sub n).purchases.map Purchase.event := by
    simp only [List.mem_map, List.mem_filter, State.isScheduled, decide_eq_true_eq]
    constructor
    · rintro ⟨q, ⟨hq, hsched⟩, rfl⟩; exact ⟨hsched, q, hq, rfl⟩
    · rintro ⟨hsched, q, hq, rfl⟩; exact ⟨q, ⟨hq, hsched⟩, rfl⟩
  refine (dropBuyers_event (hs.setSub n _) gone e).trans ?_
  by_cases h : (s.event e).state = .scheduled ∧ e ∈ (s.sub n).purchases.map Purchase.event
  · rw [if_pos h, if_pos (mem.2 h)]; rfl
  · rw [if_neg h, if_neg (mt mem.1 h)]; rfl

/-- Settles O12: a CHANGE writes W where it differs, a REMOVE the record and the buyer counts, and each tests the tap. -/
theorem subscriberChangeAndRemove : Obligations.SubscriberChangeAndRemove := by
  unfold Obligations.SubscriberChangeAndRemove
  intro s m n hs hn hv
  refine ⟨fun w tp hask hparse hw htap => ?_, fun hask hparse hnodup => ?_⟩
  · intro t
    have block := subscriberChange_changes (s := dropHead .office s) hn hw (by simpa using hv)
    have written : changeTiers n w (dropHead .office s) = t := by
      have test : entryTestOf (s.sub n).tap = entryTest tp := by rw [htap]; rfl
      rw [changeTiers, dropHead_get_sub, test]
    have facts : t.sub n = { s.sub n with w := w } ∧ (∀ k, k ≠ n → t.sub k = s.sub k) ∧ t.butGrant = s.butGrant := by
      by_cases hw' : w = (s.sub n).w
      · have same : t = dropHead .office s := if_pos hw'
        rw [same]
        exact ⟨by rw [dropHead_get_sub, hw'], fun k _ => dropHead_get_sub .office s k, dropHead_butGrant .office s⟩
      · have tested : t = arbitrate (entryTest tp ((dropHead .office s).setSub n { s.sub n with w := w })) := if_neg hw'
        rw [tested]
        exact setSub_tested (p := .office) hs n _ (some tp)
    rw [written] at block
    obtain ⟨here, others, but⟩ := facts
    refine ⟨(Asks.answered hask hparse block).trans ?_, here, others, but⟩
    rw [changeContent, here, htap]
    rfl
  · have tables := dropHead_tables .office hs
    have nodup : (((dropHead .office s).sub n).purchases.map Purchase.event).Nodup := by rw [dropHead_get_sub]; exact hnodup
    have block := subscriberRemove_removes (s := dropHead .office s) hn (by simpa using hv)
    rw [removeSubscriber_eq, dropHead_get_sub] at block
    refine ⟨(dropHead .office s).withRemoved n, Asks.answered hask hparse block, withRemoved_keeps _ _, ?_, fun k hk => ?_,
      fun e => ?_, tested_subs _ _, ?_, ?_⟩
    · rw [withRemoved_sub tables, if_pos rfl, dropHead_get_sub]
      simp [Subscriber.removedBy, State.isScheduled]
    · rw [withRemoved_sub tables, if_neg hk, dropHead_get_sub]
    · rw [withRemoved_event tables nodup, dropHead_get_event, dropHead_get_sub]
    · exact tested_events _ _
    · refine (butEvents_of_butGrant (tested_butGrant _ _)).trans ?_
      have keeps := withRemoved_keeps n (dropHead .office s)
      exact (congrArg State.butEvents keeps).trans (dropHead_butEvents .office s)

end Store

end Sys2Proof.Machine


namespace Sys2Proof.Machine

/-! ## The refusals of the office's requests (R41 to R43, R156, R157) -/

section Refusals
variable {s : State} {n e : Nat}

/-- R156, check 1: the numbers of a purchase's record and event are in their ranges. -/
def PurchaseInRange (n e : Nat) : Prop := (1 ≤ n ∧ n ≤ 2048) ∧ (1 ≤ e ∧ e ≤ 16)

theorem purchase_outOfRange (h : ¬ PurchaseInRange n e) : purchase (n, e) s = refused .outOfRange s := by
  refine if_pos ?_
  by_contra hno
  exact h (by simpa [within, PurchaseInRange, Nat.one_le_iff_ne_zero] using hno)

theorem purchase_notFound (h : PurchaseInRange n e) (he : (s.event e).state = .free) :
    purchase (n, e) s = refused .notFound s := by
  simp [purchase, within_true h.1, within_true h.2, he]

theorem purchase_wrongState (h : PurchaseInRange n e) (he : (s.event e).state ≠ .free)
    (hw : (s.sub n).status ≠ .active ∨ s.onSale e = false) : purchase (n, e) s = refused .wrongState s := by
  rcases hw with hw | hw <;> simp [purchase, within_true h.1, within_true h.2, he, hw]

/-- An event on sale is not FREE. -/
theorem not_free_of_onSale (h : s.onSale e = true) : (s.event e).state ≠ .free := by
  intro hf
  simp [State.onSale, hf] at h

theorem purchase_conflict (h : PurchaseInRange n e) (hsale : s.onSale e = true) (hv : (s.sub n).status = .active)
    (hh : (s.sub n).holds e = true) : purchase (n, e) s = refused .conflict s := by
  simp [purchase, within_true h.1, within_true h.2, not_free_of_onSale hsale, hsale, hv, hh]

theorem purchase_full (h : PurchaseInRange n e) (hsale : s.onSale e = true) (hv : (s.sub n).status = .active)
    (hh : (s.sub n).holds e = false) (hl : 4 ≤ (s.sub n).purchases.length) : purchase (n, e) s = refused .full s := by
  simp [purchase, within_true h.1, within_true h.2, not_free_of_onSale hsale, hsale, hv, hh, hl]

theorem purchaseCancel_outOfRange (h : ¬ PurchaseInRange n e) : purchaseCancel (n, e) s = refused .outOfRange s := by
  refine if_pos ?_
  by_contra hno
  exact h (by simpa [within, PurchaseInRange, Nat.one_le_iff_ne_zero] using hno)

theorem purchaseCancel_notFound (h : PurchaseInRange n e) (hh : (s.sub n).holds e = false) :
    purchaseCancel (n, e) s = refused .notFound s := by
  simp [purchaseCancel, within_true h.1, within_true h.2, hh]

theorem purchaseCancel_wrongState (h : PurchaseInRange n e) (hh : (s.sub n).holds e = true)
    (he : (s.event e).state ≠ .scheduled) : purchaseCancel (n, e) s = refused .wrongState s := by
  simp [purchaseCancel, within_true h.1, within_true h.2, hh, he]

theorem holds_iff {r : Subscriber} : r.holds e = true ↔ ∃ q ∈ r.purchases, q.event = e := by simp [Subscriber.holds]

theorem not_holds_iff {r : Subscriber} : r.holds e = false ↔ ∀ q ∈ r.purchases, q.event ≠ e := by simp [Subscriber.holds]

/-- R156, check 5: what is over, withdrawn or half gone is not on sale. -/
theorem offSale (h : (s.event e).state = .ended ∨ (s.event e).state = .cancelled ∨
      ((s.event e).state = .showing ∧ (s.event e).duration.getD 0 ≤ (s.billing.clock - s.startOf e) * 2)) :
    (s.event e).state ≠ .free ∧ s.onSale e = false := by
  rcases h with h | h | ⟨h, late⟩
  · simp [State.onSale, h]
  · simp [State.onSale, h]
  · simpa [State.onSale, h] using late

@[simp] theorem dropHead_get_claimant (p : Master) (s : State) (k q : Nat) :
    (dropHead p s).claimant k q = s.claimant k q := by
  rw [State.claimant, dropHead_subs]; rfl

@[simp] theorem dropHead_get_onSale (p : Master) (s : State) (e : Nat) : (dropHead p s).onSale e = s.onSale e := by
  cases p <;> rfl

end Refusals

/-- R41: an ADD out of range is one that fails the first check. -/
theorem AddArgs.inRange_iff {a : AddArgs} : a.inRange ↔ ¬ ((∃ n, a.number = some n ∧ ¬ (1 ≤ n ∧ n ≤ 2048)) ∨
    ¬ (1 ≤ a.tap ∧ a.tap ≤ 512) ∨ ¬ (1 ≤ a.port ∧ a.port ≤ 4) ∨ hasTier a.w 7 = true) := by
  unfold AddArgs.inRange
  simp only [not_or, not_exists, not_and_not_right, Bool.not_eq_true, not_not]

/-- R41: the refusals of SUBSCRIBER ADD, in the order of its checks. -/
theorem subscriberAdd_refusals {s : State} {m : Msg} {a : AddArgs} (hask : Asks s .office 1 m) (hparse : parseAdd m.body = some a) :
    let no := fun c => Host.Outcome.next (afterAnswer .office m (refuse c) s)
    (¬ a.inRange → exec (.subscriberAdd .office) s = no .outOfRange) ∧
    (a.inRange → (s.tap a.tap).installed = false → exec (.subscriberAdd .office) s = no .notFound) ∧
    (a.inRange → (s.tap a.tap).installed = true → (s.claimant a.tap a.port).isSome = true →
      exec (.subscriberAdd .office) s = no .conflict) ∧
    (a.inRange → (s.tap a.tap).installed = true → s.claimant a.tap a.port = none →
      (∀ n, a.number = some n → (s.sub n).status ≠ .free → exec (.subscriberAdd .office) s = no .wrongState) ∧
      (a.number = none → (∀ n, 1 ≤ n → n ≤ 2048 → (s.sub n).status ≠ .free) → exec (.subscriberAdd .office) s = no .full)) := by
  intro no
  have refuses : ∀ c, subscriberAdd a (dropHead .office s) = refused c (dropHead .office s) →
      exec (.subscriberAdd .office) s = no c := fun c => Asks.refused hask hparse
  refine ⟨fun h => refuses _ (subscriberAdd_outOfRange h), fun h hi => refuses _ (subscriberAdd_notFound h (by simpa using hi)),
    fun h hi hc => refuses _ (subscriberAdd_conflict h (by simpa using hi) (by simpa using hc)),
    fun h hi hc => ⟨fun n hn hf => refuses _ ?_, fun hn hf => refuses _ ?_⟩⟩
  · rw [subscriberAdd_target h (by simpa using hi) (by simpa using hc) (addTarget_named hn), if_neg (by simpa using hf)]
  · exact subscriberAdd_full h (by simpa using hi) (by simpa using hc) (addTarget_none hn (by simpa using hf))

/-- Settles O18: each request is refused by the first of its checks that fails. -/
theorem officeRefusals : Obligations.OfficeRefusals := by
  unfold Obligations.OfficeRefusals
  intro s m no
  have purchased : ∀ {n e}, ¬ (¬ (1 ≤ n ∧ n ≤ 2048) ∨ ¬ (1 ≤ e ∧ e ≤ 16)) → PurchaseInRange n e := fun h => by
    simpa only [PurchaseInRange, not_or, not_not] using h
  refine ⟨fun a hask hparse => ?_, fun n w hask hparse => ?_, fun n hask hparse => ?_, fun n e hask hparse => ?_,
    fun n e hask hparse => ?_⟩
  · intro out
    obtain ⟨range, notFound, conflict, target⟩ := subscriberAdd_refusals hask hparse
    have inRange : ¬ out → a.inRange := AddArgs.inRange_iff.2
    exact ⟨fun h => range fun hin => AddArgs.inRange_iff.1 hin h, fun h => notFound (inRange h), fun h => conflict (inRange h),
      fun h => target (inRange h)⟩
  · have refuses : ∀ c, subscriberChange (n, w) (dropHead .office s) = refused c (dropHead .office s) →
        exec (.subscriberChange .office) s = no c := fun c => Asks.refused hask hparse
    refine ⟨fun h => refuses _ (subscriberChange_outOfRange h), fun h hv => ?_⟩
    simp only [not_or, not_not, Bool.not_eq_true] at h
    exact refuses _ (subscriberChange_wrongState h.1 h.2 (by simpa using hv))
  · have refuses : ∀ c, subscriberRemove n (dropHead .office s) = refused c (dropHead .office s) →
        exec (.subscriberRemove .office) s = no c := fun c => Asks.refused hask hparse
    exact ⟨fun h => refuses _ (subscriberRemove_outOfRange h),
      fun h hv => refuses _ (subscriberRemove_wrongState h (by simpa using hv))⟩
  · have refuses : ∀ c, purchase (n, e) (dropHead .office s) = refused c (dropHead .office s) →
        exec (.purchase .office) s = no c := fun c => Asks.refused hask hparse
    refine ⟨fun h => refuses _ (purchase_outOfRange fun hin => ?_), fun h he => ?_, fun h he hv => ?_, fun h he => ?_,
      fun h hsale hv hh => ?_, fun h hsale hv hh hl => ?_⟩
    · exact h.elim (· hin.1) (· hin.2)
    · exact refuses _ (purchase_notFound (purchased h) (by simpa using he))
    · exact refuses _ (purchase_wrongState (purchased h) (by simpa using he) (.inl (by simpa using hv)))
    · obtain ⟨notFree, unsold⟩ := offSale he
      exact refuses _ (purchase_wrongState (purchased h) (by simpa using notFree) (.inr (by simpa using unsold)))
    · exact refuses _ (purchase_conflict (purchased h) (by simpa using hsale) (by simpa using hv)
        (holds_iff.2 (by simpa using hh)))
    · exact refuses _ (purchase_full (purchased h) (by simpa using hsale) (by simpa using hv)
        (not_holds_iff.2 (by simpa using hh)) (by simpa using hl))
  · have refuses : ∀ c, purchaseCancel (n, e) (dropHead .office s) = refused c (dropHead .office s) →
        exec (.purchaseCancel .office) s = no c := fun c => Asks.refused hask hparse
    refine ⟨fun h => refuses _ (purchaseCancel_outOfRange fun hin => ?_), fun h hh => ?_, fun h hh he => ?_⟩
    · exact h.elim (· hin.1) (· hin.2)
    · exact refuses _ (purchaseCancel_notFound (purchased h) (not_holds_iff.2 (by simpa using hh)))
    · exact refuses _ (purchaseCancel_wrongState (purchased h) (holds_iff.2 (by simpa using hh)) (by simpa using he))

end Sys2Proof.Machine


namespace Sys2Proof.Machine

/-! ## PORT LOCK and PORT UNLOCK (R44) -/

section Locks
variable {s : State} {v : Bool} {k q : Nat}

theorem portLocking_outOfRange (h : ¬ ((1 ≤ k ∧ k ≤ 512) ∧ 1 ≤ q ∧ q ≤ 4)) :
    portLocking v (k, q) s = refused .outOfRange s := by
  refine if_pos ?_
  by_contra hno
  exact h (by simpa [within, Nat.one_le_iff_ne_zero] using hno)

theorem portLocking_notFound (hk : 1 ≤ k ∧ k ≤ 512) (hq : 1 ≤ q ∧ q ≤ 4) (hc : s.claimant k q = none) :
    portLocking v (k, q) s = refused .notFound s := by
  simp [portLocking, within_true hk, within_true hq, hc]

theorem portLocking_locks (hk : 1 ≤ k ∧ k ≤ 512) (hq : 1 ≤ q ∧ q ≤ 4) {n : Nat} (hc : s.claimant k q = some n) :
    portLocking v (k, q) s = answered (lockContent n k) (lockRecord v n s) := by
  simp [portLocking, within_true hk, within_true hq, hc]

end Locks

/-- Settles O19: the record that claims the port is locked or unlocked, and a change tests its tap. -/
theorem portLockAndUnlock : Obligations.PortLockAndUnlock := by
  unfold Obligations.PortLockAndUnlock
  intro s m tp q v c hask hparse
  have answers : ∀ {t r}, portLocking v (tp, q) (dropHead .technician s) = (t, r) →
      exec c s = .next (putAnswer .technician m r t) := fun h => by
    cases v <;> exact Asks.answered hask hparse h
  refine ⟨fun h => answers (portLocking_outOfRange h),
    fun hk hq hc => answers (portLocking_notFound hk hq (by simpa using hc)), fun hk hq hs n hc => ?_⟩
  intro t
  have tap : (s.sub n).tap = some tp := (claimant_names hs.subs hc).2
  have locked : lockRecord v n (dropHead .technician s) = t := by
    have test : entryTestOf (s.sub n).tap = entryTest tp := by rw [tap]; rfl
    rw [lockRecord, dropHead_get_sub, test]
  have facts : t.sub n = { s.sub n with locked := v } ∧ (∀ k, k ≠ n → t.sub k = s.sub k) ∧ t.butGrant = s.butGrant := by
    by_cases hv : (s.sub n).locked = v
    · have same : t = dropHead .technician s := if_pos hv
      rw [same]
      exact ⟨by rw [dropHead_get_sub, ← hv], fun k _ => dropHead_get_sub .technician s k, dropHead_butGrant .technician s⟩
    · have tested : t = arbitrate (entryTest tp ((dropHead .technician s).setSub n { s.sub n with locked := v })) := if_neg hv
      rw [tested]
      exact setSub_tested (p := .technician) hs n _ (some tp)
  obtain ⟨here, others, but⟩ := facts
  have block := portLocking_locks (v := v) hk hq (s := dropHead .technician s) (by simpa using hc)
  rw [locked] at block
  refine ⟨(answers block).trans ?_, here, others, but⟩
  rw [lockContent, here]
  rfl

end Sys2Proof.Machine


namespace Sys2Proof.Machine

/-! ## TAP INSTALL and TAP REMOVE (R45, R46) -/

section Branches
variable {s t : State}

/-- What a decision of the branches leaves of each: all but its state and its two flags. -/
theorem decideBranches_stands {β : Type} {g : Branch → β}
    (hg : ∀ (r : Branch) (o a h : Bool), g { r with out := o, affected := a, shadowed := h } = g r) (s : State) :
    Stands (fun u k => g (u.branch k)) s (decideBranches s) := by
  have decided : Stands (fun u k => g (u.branch k)) s { s with branches := tabMap .cold Branch.decided s.branches } :=
    fun h => ⟨by simp_all [TablesSound, tabWf_tabMap], fun k => by
      simp only [State.branch]
      rw [tabGet_tabMap (by rfl) h.branches]
      exact hg _ _ _ _⟩
  have flags : ∀ n u, Stands (fun u k => g (u.branch k)) u (decideFlags n u) := fun n u h =>
    ⟨h.setBranch n _, fun k => by
      simp only [decideFlags, branch_setBranch h.branches]
      split
      · subst k; exact hg _ _ _ _
      · rfl⟩
  have handed : ∀ old n u, Stands (fun u k => g (u.branch k)) u (handOnBranch old n u) := fun old n u =>
    .of_kept (handOnBranch_kept old n u) fun k => by rw [State.branch, handOnBranch_branches]; rfl
  exact (decided.trans (forEach_stands _ flags _)).trans (forEach_stands _ (fun n u => handed (s.branch n) n u) _)

/-- R40: a posting to branch `n` changes what it writes there, and the decisions follow. -/
theorem changeBranch_read {β : Type} {g : Branch → β}
    (hg : ∀ (r : Branch) (o a h : Bool), g { r with out := o, affected := a, shadowed := h } = g r)
    (hs : TablesSound s) (n : Nat) (f : Branch → Branch) (k : Nat) :
    g ((changeBranch n f s).branch k) = if k = n then g (f (s.branch n)) else g (s.branch k) := by
  refine ((decideBranches_stands hg _ (hs.setBranch n _)).2 k).trans ((congrArg g (branch_setBranch hs.branches n k _)).trans ?_)
  exact apply_ite g _ _ _

theorem postInstalled_count (hs : TablesSound s) (n k : Nat) : ((postInstalled n s).branch k).installedTaps =
    (s.branch k).installedTaps + if k = n then 1 else 0 := by
  refine (changeBranch_read (g := Branch.installedTaps) (fun _ _ _ _ => rfl) hs n _ k).trans ?_
  split
  · subst k; rfl
  · rfl

theorem postTapGone_count (hs : TablesSound s) (r : Tap) (k : Nat) : ((postTapGone r s).branch k).installedTaps =
    (s.branch k).installedTaps - if r.branch = some k then 1 else 0 := by
  unfold postTapGone
  cases r.branch with
  | none => rfl
  | some n =>
    refine (changeBranch_read (g := Branch.installedTaps) (fun _ _ _ _ => rfl) hs n _ k).trans ?_
    by_cases hk : k = n
    · subst k; simp
    · rw [if_neg hk, if_neg (by simpa using Ne.symm hk)]; rfl

end Branches

section Taps
variable {s t : State}

theorem endIf_butAlarms (c : Bool) (a : AlarmKind) (n : Nat) (s : State) : (endIf c a n s).butAlarms = s.butAlarms := by
  unfold endIf
  split
  · exact endAlarm_butAlarms a n s
  · rfl

theorem endIf_branches (c : Bool) (a : AlarmKind) (n : Nat) (s : State) : (endIf c a n s).branches = s.branches :=
  (congrArg State.branches (endIf_butAlarms c a n s) :)

/-- R46: a removal lowers the count of the branch that the tap hung on. -/
theorem removeTap_count (hs : TablesSound s) (n k : Nat) : ((removeTap n s).branch k).installedTaps =
    (s.branch k).installedTaps - if (s.tap n).branch = some k then 1 else 0 := by
  unfold removeTap
  extract_lets r s1 s2
  have ended : s1.butAlarms = ({ s with syncSet := s.syncSet.erase n } : State).butAlarms := by
    simp only [s1, endTapConditions, endIf_butAlarms]
  have tables : TablesSound s1 := (HeadKept.of_butAlarms ended).tables hs
  have branches : s1.branches = s.branches := (congrArg State.branches ended :)
  have same : ∀ u v : State, u.branches = v.branches → u.branch k = v.branch k := fun u v h => by rw [State.branch, h]; rfl
  rw [same _ s2 (endIf_branches _ _ _ _), ← same s1 s branches]
  exact postTapGone_count tables r k

/-- R50, R82: a decision leaves a tap's record, or puts the tap in flight. -/
theorem arbitrate_tap (hs : TablesSound s) (k : Nat) :
    (arbitrate s).tap k = s.tap k ∨ ((arbitrate s).tap k).sync = .inFlight := by
  have granted : ∀ (r : Requester) (u : State), TablesSound u → (grantTo r u).tap k = u.tap k ∨ ((grantTo r u).tap k).sync = .inFlight :=
    fun r u hu => by
      by_cases hr : r = .sync
      · subst hr
        cases hset : u.syncSet with
        | nil => exact .inl (by simp [grantTo, grantSync, hset])
        | cons n rest =>
          change (grantSync u).tap k = _ ∨ ((grantSync u).tap k).sync = _
          rw [grantSync_taps hset hu]
          split
          · exact .inr rfl
          · exact .inl rfl
      · exact .inl (tap_of_taps (grantTo_taps hr u).1 k)
  unfold arbitrate
  split
  · split
    · exact granted _ { s with arbiter := _ } hs
    · exact .inl rfl
  · exact .inl rfl

theorem installTap_eq (n b : Nat) (s : State) :
    installTap n b s = arbitrate (entryTest n (postInstalled b (s.setTap n (.installedOn b)))) := rfl

/-- R45, R47: an installed tap is written, tested and, where the arbiter chooses it, granted. -/
theorem installTap_tap (hs : TablesSound s) (n b : Nat) :
    (((installTap n b s).tap n).sync = .queued ∨ ((installTap n b s).tap n).sync = .inFlight) ∧
      ((installTap n b s).tap n).unsynced = .installedOn b := by
  rw [installTap_eq]
  generalize hu : postInstalled b (s.setTap n (.installedOn b)) = u
  have tables : TablesSound u := hu ▸ (changeBranch_kept _ _ _).tables (hs.setTap n _)
  have written : u.tap n = .installedOn b := by
    have but : u.butBranches = _ := hu ▸ postInstalled_butBranches b (s.setTap n (.installedOn b))
    rw [tap_of_taps (taps_of_butBranches but), tap_setTap hs.taps, if_pos rfl]
  have queued : u.testedSync n = .queued := by
    simp [State.testedSync, State.outOfStepReported, written, Tap.installedOn, Tap.cold]
  have tested : (entryTest n u).tap n = { Tap.installedOn b with sync := .queued } := by
    rw [entryTest_tap tables, if_pos rfl, written, queued]
  have testedTables := (entryTest_kept n u).tables tables
  refine ⟨?_, ((arbitrate_reports _ testedTables).2 n).trans ?_⟩
  · refine (arbitrate_tap testedTables n).imp_left fun h => ?_
    rw [h, tested]
  · rw [State.reports, tested]; rfl

theorem branches_of_butCarrier (h : t.butCarrier = s.butCarrier) : t.branches = s.branches :=
  show t.butCarrier.branches = _ from h ▸ rfl

theorem installTap_count (hs : TablesSound s) (n b k : Nat) : ((installTap n b s).branch k).installedTaps =
    (s.branch k).installedTaps + if k = b then 1 else 0 := by
  rw [installTap_eq]
  obtain ⟨-, -, tested, -⟩ := fields_of_butSync (entryTest_butSync n (postInstalled b (s.setTap n (.installedOn b))))
  have branches := (branches_of_butCarrier (arbitrate_butCarrier _)).trans tested
  rw [State.branch, branches]
  exact postInstalled_count (hs.setTap n _) b k

theorem installTap_butGrant (n b : Nat) (s : State) : (installTap n b s).butGrant = s.butGrant := by
  rw [installTap_eq, arbitrate_butGrant]
  refine butGrant_of_butTaps ?_
  rw [entryTest_butTaps, butTaps_of_butBranches (postInstalled_butBranches b _), setTap_butTaps]

theorem installTap_subs (n b : Nat) (s : State) : (installTap n b s).subs = s.subs := by
  rw [installTap_eq]
  refine (subs_of_butCarrier (arbitrate_butCarrier _)).trans ((subs_of_butSync (entryTest_butSync n _)).trans ?_)
  exact (subs_of_butBranches (postInstalled_butBranches b _)).trans rfl

end Taps

/-! ### The blocks -/

section Blocks
variable {s : State} {n b : Nat}

theorem tapInstall_outOfRange (h : ¬ ((1 ≤ n ∧ n ≤ 512) ∧ 1 ≤ b ∧ b ≤ 64)) : tapInstall (n, b) s = refused .outOfRange s := by
  refine if_pos ?_
  by_contra hno
  exact h (by simpa [within, Nat.one_le_iff_ne_zero] using hno)

theorem tapInstall_eq (hn : 1 ≤ n ∧ n ≤ 512) (hb : 1 ≤ b ∧ b ≤ 64) : tapInstall (n, b) s =
    if (s.tap n).installed then refused .conflict s
    else if (s.branch b).defined then answered noContent (installTap n b s) else refused .notFound s := by
  cases hd : (s.branch b).defined <;> simp [tapInstall, within_true hn, within_true hb, hd]

theorem tapRemove_outOfRange (h : ¬ (1 ≤ n ∧ n ≤ 512)) : tapRemove n s = refused .outOfRange s := by
  simp [tapRemove, within_false h]

/-- R46: what keeps a tap from being removed. -/
def State.tapHeld (s : State) (n : Nat) : Prop :=
  (∃ k, (s.sub k).names n) ∨ (s.tap n).sync = .inFlight ∨ s.survey.auditInFlight = some n

theorem tapClaimed_iff (hs : TablesSound s) : s.tapClaimed n = true ↔ ∃ k, (s.sub k).names n := by
  constructor
  · intro h
    obtain ⟨⟨k, r⟩, mem, hr⟩ := List.any_eq_true.1 h
    have read : s.sub k = r := tabGet_of_mem hs.subs mem
    exact ⟨k, by rw [read]; simpa [Subscriber.names] using hr⟩
  · rintro ⟨k, hk⟩
    by_contra h
    exact tapClaimed_eq_false (by simpa using h) k hk

theorem tapRemove_notFound (hn : 1 ≤ n ∧ n ≤ 512) (hi : (s.tap n).installed = false) :
    tapRemove n s = refused .notFound s := by
  simp [tapRemove, within_true hn, hi]

theorem tapRemove_conflict (hs : TablesSound s) (hn : 1 ≤ n ∧ n ≤ 512) (hi : (s.tap n).installed = true)
    (h : s.tapHeld n) : tapRemove n s = refused .conflict s := by
  rcases h with h | h | h
  · simp [tapRemove, within_true hn, hi, (tapClaimed_iff hs).2 h]
  · simp [tapRemove, within_true hn, hi, h]
  · simp [tapRemove, within_true hn, hi, h]

theorem tapRemove_removes (hs : TablesSound s) (hn : 1 ≤ n ∧ n ≤ 512) (hi : (s.tap n).installed = true)
    (h : ¬ s.tapHeld n) : tapRemove n s = answered noContent (removeTap n s) := by
  obtain ⟨free, still, unaudited⟩ := by simpa only [State.tapHeld, not_or] using h
  have unclaimed : s.tapClaimed n = false := by
    cases hc : s.tapClaimed n with
    | false => rfl
    | true => exact absurd ((tapClaimed_iff hs).1 hc) free
  simp [tapRemove, within_true hn, hi, unclaimed, still, unaudited]

end Blocks

/-- Settles O20: an installed tap is written, posted and tested; a removed one leaves the set, its branch and the table. -/
theorem tapInstallAndRemove : Obligations.TapInstallAndRemove := by
  unfold Obligations.TapInstallAndRemove
  intro s m tp b no
  refine ⟨fun hask hparse => ?_, fun hask hparse => ?_⟩
  · have answers : ∀ {t r}, tapInstall (tp, b) (dropHead .technician s) = (t, r) →
        exec (.tapInstall .technician) s = .next (putAnswer .technician m r t) := Asks.answered hask hparse
    refine ⟨fun h => answers (tapInstall_outOfRange h), fun hk hb => ?_⟩
    have block := tapInstall_eq (s := dropHead .technician s) hk hb
    rw [dropHead_get_tap, dropHead_get_branch] at block
    refine ⟨fun hi => answers (by rw [block, if_pos hi]; rfl), fun hi hd => answers (by rw [block, hi, hd]; rfl),
      fun hi hd hs => ?_⟩
    have tables := dropHead_tables .technician hs
    obtain ⟨status, reports⟩ := installTap_tap tables tp b
    refine ⟨installTap tp b (dropHead .technician s), answers (by rw [block, hi, hd]; rfl), status, reports, fun k => ?_, ?_, ?_⟩
    · rw [installTap_count tables, dropHead_get_branch]
    · rw [installTap_subs, dropHead_subs]
    · rw [installTap_butGrant, dropHead_butGrant]
  · have answers : ∀ {t r}, tapRemove tp (dropHead .technician s) = (t, r) →
        exec (.tapRemove .technician) s = .next (putAnswer .technician m r t) := Asks.answered hask hparse
    refine ⟨fun h => answers (tapRemove_outOfRange h), fun hk =>
      ⟨fun hi => answers (tapRemove_notFound hk (by simpa using hi)), fun hs hi => ?_⟩⟩
    have tables := dropHead_tables .technician hs
    have installed : ((dropHead .technician s).tap tp).installed = true := by rw [dropHead_get_tap]; exact hi
    refine ⟨fun h => answers (tapRemove_conflict tables hk installed (by simpa [State.tapHeld, Subscriber.names] using h)),
      fun hfree hstill haudit => ?_⟩
    have removed := tapRemove_removes tables hk installed (by
      simpa [State.tapHeld, Subscriber.names] using ⟨hfree, hstill, haudit⟩)
    have but := removeTap_butBranches tp (dropHead .technician s)
    have read : ∀ k, (removeTap tp (dropHead .technician s)).tap k = if k = tp then .cold else s.tap k := fun k => by
      rw [tap_of_taps (taps_of_butBranches but)]
      refine (tap_setTap (s := { dropHead .technician s with syncSet := _ }) tables.taps tp k _).trans ?_
      rw [← dropHead_get_tap .technician s k]
      rfl
    refine ⟨_, answers removed, by rw [read, if_pos rfl], fun k hne => by rw [read, if_neg hne], ?_, ?_, fun k => ?_, ?_⟩
    · exact (subs_of_butBranches but).trans rfl
    · exact (syncSet_of_butBranches but).trans rfl
    · rw [removeTap_count tables, dropHead_get_branch, dropHead_get_tap]
    · exact (butTaps_of_butBranches but).trans rfl

end Sys2Proof.Machine


namespace Sys2Proof.Machine

/-! ## The reads (R166, R174) -/

section Reads
variable {s : State} {p : Master} {m : Msg} {k n hi : Nat}

/-- R174: a read within its range answers the content as it stands, and one outside it is refused. -/
theorem reading_eq (content : Nat → State → List Byte) (s : State) : reading hi content n s =
    (s, if 1 ≤ n ∧ n ≤ hi then answerDone (content n s) else refuse .outOfRange) := by
  unfold reading
  by_cases h : 1 ≤ n ∧ n ≤ hi
  · rw [within_true h, if_pos h]; rfl
  · rw [within_false h, if_neg h]; rfl

/-- R171, R174: a read of an identity, whose content the input queues are no part of. -/
theorem Asks.reads {parse : List Byte → Option Nat} {content : Nat → State → List Byte} (h : Asks s p k m)
    (hp : parse m.body = some n) (same : content n (dropHead p s) = content n s) :
    Host.Outcome.next (Machine.takeRequest p k true parse (reading hi content) s) = (.next
      (if 1 ≤ n ∧ n ≤ hi then afterAnswer p m (answerDone (content n s)) s
        else afterAnswer p m (refuse .outOfRange) s) : Result) := by
  refine (h.answered hp (reading_eq content _)).trans ?_
  rw [same]
  split <;> rfl

/-- R171, R174: a read without an identity. -/
theorem Asks.readsAll {content : State → List Byte} (h : Asks s p k m) (hb : m.body = [])
    (same : content (dropHead p s) = content s) :
    Host.Outcome.next (Machine.takeRequest p k true parseEmpty (fun _ s => Machine.answered content s) s) =
      (.next (afterAnswer p m (answerDone (content s)) s) : Result) := by
  have parsed : parseEmpty m.body = some () := by rw [hb]; rfl
  refine (h.answered parsed rfl).trans ?_
  rw [same]
  rfl

/-! ### SUBSCRIBER READ (R36, log 4) -/

theorem subscriberContent_dropHead (v : Byte) (n : Nat) (p : Master) (s : State) :
    subscriberContent v n (dropHead p s) = subscriberContent v n s := by
  cases p <;> rfl

/-- The free standing is no part of the content of a record with a tap. -/
theorem subscriberContent_of_tap {t : Nat} (h : (s.sub n).tap = some t) (v v' : Byte) :
    subscriberContent v n s = subscriberContent v' n s := by
  simp only [subscriberContent, State.standing, h]

theorem subscriberRead_outOfRange (h : ¬ (1 ≤ n ∧ n ≤ 2048)) : subscriberRead n s = refused .outOfRange s := by
  simp [subscriberRead, reading, within_false h]

theorem subscriberRead_tap (hn : 1 ≤ n ∧ n ≤ 2048) {t : Nat} (h : (s.sub n).tap = some t) (v : Byte) :
    subscriberRead n s = answered (subscriberContent v n) s := by
  simp only [subscriberRead, reading, within_true hn, h, Option.isNone_some, Bool.and_false, Bool.false_eq_true,
    if_false, if_true, answered, subscriberContent_of_tap h _ v]

theorem subscriberRead_noTap (hn : 1 ≤ n ∧ n ≤ 2048) (h : (s.sub n).tap = none) : subscriberRead n s =
    ({ s with freeIdx := s.freeIdx + 1 },
      answerDone (subscriberContent (Config.syncStandingOfNoTap s.freeIdx) n s)) := by
  simp [subscriberRead, reading, within_true hn, h, answered]

/-! ### STATEMENT READ (R166) -/

/-- R166: the answer to STATEMENT READ. -/
def State.statementAnswer (s : State) (n : Nat) : Ans :=
  if 1 ≤ n ∧ n ≤ 2048 then
    match s.snapshot with
    | none => refuse .notFound
    | some x =>
      match x.entries.find? fun e => decide (e.number = n) with
      | none => refuse .notFound
      | some e => answerDone (x.statement e)
  else refuse .outOfRange

theorem statementRead_eq (n : Nat) (s : State) : statementRead n s = (s, s.statementAnswer n) := by
  unfold statementRead State.statementAnswer
  by_cases h : 1 ≤ n ∧ n ≤ 2048
  · rw [within_true h, if_pos h]
    cases hx : s.snapshot with
    | none => rfl
    | some x => cases he : x.entries.find? fun e => decide (e.number = n) <;> simp [Snapshot.entry, he, refused, answered]
  · rw [within_false h, if_neg h]
    rfl

end Reads

/-- Settles O9: each read answers its content, and moves no more than the free value that a record without a tap reports. -/
theorem readsAnswerFromTheTables : Obligations.ReadsAnswerFromTheTables := by
  unfold Obligations.ReadsAnswerFromTheTables
  intro s p m n out reads
  refine ⟨fun hask hb => ?_, fun hask hp => hask.reads hp (by cases p <;> rfl), fun hask hp => ?_,
    fun hask hp => hask.reads hp (by cases p <;> rfl), fun hask hp => hask.reads hp (by cases p <;> rfl),
    fun hask hp => hask.reads hp (by cases p <;> rfl), fun hask hp => hask.reads hp (by cases p <;> rfl),
    fun hask hp => hask.reads hp (by cases p <;> rfl), fun hask hb => hask.readsAll hb (by cases p <;> rfl),
    fun hask hb => hask.readsAll hb (by cases p <;> rfl), fun hask hp => ?_⟩
  · have identity : identContent s = [4, 23, 1, 60, 3, if s.ident.coldStarted then 0 else 1] ++ u16 s.ident.restarts := by
      unfold identContent Ident.stateByte
      cases s.ident.coldStarted <;> rfl
    rw [← identity]
    exact hask.readsAll hb (by cases p <;> rfl)
  · have answers : ∀ {t r}, subscriberRead n (dropHead p s) = (t, r) →
        exec (.subscriberRead p) s = .next (putAnswer p m r t) := Asks.answered hask hp
    refine ⟨fun h => answers (subscriberRead_outOfRange h), fun h1 h2 t ht v => ?_, fun h1 h2 ht => ?_⟩
    · refine (answers (subscriberRead_tap ⟨h1, h2⟩ (by simpa using ht) v)).trans ?_
      rw [subscriberContent_dropHead]
      rfl
    · refine (answers (subscriberRead_noTap ⟨h1, h2⟩ (by simpa using ht))).trans ?_
      rw [subscriberContent_dropHead, dropHead_freeIdx]
      cases p <;> rfl
  · refine (Asks.answered hask hp (statementRead_eq n _)).trans ?_
    have same : (dropHead .office s).statementAnswer n = s.statementAnswer n := rfl
    rw [same]
    rfl

end Sys2Proof.Machine


namespace Sys2Proof.Machine

/-! ## What every operation keeps of the settings, of the arbiter's order and of the port queues

`Held s t` says that an act leaves every setting, permutes the arbiter's order and gives the ports notices alone. It is
reflexive and transitive and holds of nearly every operation. `BlockKept` is what a request's block keeps, whether or not it
writes a setting, and `BoundsKept` is what a whole command keeps. -/

/-- What the ranges of the settings are read from: the settings, with the slot of the conversion in progress. -/
structure Regulation where
  link : Link
  wanted : Bool
  remaining : Nat
  monitor : Monitor
  scanned : Option Nat
  selected : Option Nat
  tc : Nat

/-- The settings as they stand. -/
def State.regulation (s : State) : Regulation where
  link := s.link
  wanted := s.broadcast.wanted
  remaining := s.broadcast.remaining
  monitor := { s.monitor with conversion := none }
  scanned := s.monitor.conversion.map Conversion.slot
  selected := s.out.slotSelect
  tc := s.billing.tc

/-- The settings, the arbiter and the ports. -/
def State.bounded (s : State) : Regulation × Arbiter × Ports := (s.regulation, s.arbiter, s.ports)

/-- Any notice. -/
def AnyNotice (_ : Byte) : Prop := True

/-- An act that leaves the settings, permutes the arbiter's order and gives the ports notices alone. -/
structure Held (s t : State) : Prop where
  regulation : t.regulation = s.regulation
  order : t.arbiter.order.Perm s.arbiter.order
  told : Told AnyNotice s t

/-- What a request's block keeps: it places no answer itself. -/
structure BlockKept (s t : State) : Prop where
  arbiter : ArbiterSound s → ArbiterSound t
  settings : SettingsSound s → SettingsSound t
  told : Told AnyNotice s t

/-- What a command keeps. -/
structure BoundsKept (s t : State) : Prop where
  arbiter : ArbiterSound s → ArbiterSound t
  settings : SettingsSound s → SettingsSound t
  ports : PortsSound s → PortsSound t

section Relation
variable {s t u : State}

/-! ### The ranges of the settings -/

/-- R78: the ranges of the link settings. -/
def Link.InRange (l : Link) : Prop :=
  within 1 25 l.window = true ∧ l.retries ≤ 3 ∧ within 1 4 l.repeats = true ∧ within 1 60 l.auditInterval = true

/-- R111, R112: the ranges of the monitor's settings and of its scan cursor. -/
def Monitor.InRange (m : Monitor) : Prop :=
  within 10 100 m.tolerance = true ∧ m.hysteresis ≤ m.tolerance ∧ within 1 8 m.persistence = true ∧
    within 1 40 m.cursor = true

/-- R78, R111, R161, R69: every setting lies in its range, and repeats remain exactly while the broadcast is wanted. -/
structure RangesSound (s : State) : Prop where
  link : s.link.InRange
  monitor : s.monitor.InRange
  tc : s.billing.tc ≤ 240
  few : s.broadcast.remaining ≤ 4
  wanted : s.broadcast.wanted = true ↔ 0 < s.broadcast.remaining

/-- R110, R112: a conversion is in progress exactly while `on`, and the slot-select output stands at its slot. -/
structure Scans (on : Bool) (s : State) : Prop where
  converts : s.monitor.conversion.isSome = true ↔ on = true
  driven : s.out.slotSelect = s.monitor.conversion.map Conversion.slot

theorem settingsSound_iff : SettingsSound s ↔ RangesSound s ∧ Scans s.monitor.enable s := by
  constructor
  · rintro ⟨window, retries, repeats, audit, tolerance, hysteresis, persistence, tc, few, wanted, converts, cursor, driven⟩
    exact ⟨⟨⟨window, retries, repeats, audit⟩, ⟨tolerance, hysteresis, persistence, cursor⟩, tc, few, wanted⟩,
      ⟨converts, driven⟩⟩
  · rintro ⟨⟨⟨window, retries, repeats, audit⟩, ⟨tolerance, hysteresis, persistence, cursor⟩, tc, few, wanted⟩,
      ⟨converts, driven⟩⟩
    exact ⟨window, retries, repeats, audit, tolerance, hysteresis, persistence, tc, few, wanted, converts, cursor, driven⟩

/-- The ranges are read from the settings alone. -/
theorem RangesSound.congr (hs : RangesSound s) (h : t.regulation = s.regulation) : RangesSound t := by
  obtain ⟨link, wanted, remaining, monitor, -, -, tc⟩ := Regulation.mk.inj h
  exact ⟨link ▸ hs.link, (congrArg Monitor.InRange monitor).mpr hs.monitor, tc ▸ hs.tc, remaining ▸ hs.few,
    by rw [remaining, wanted]; exact hs.wanted⟩

theorem enable_of_regulation (h : t.regulation = s.regulation) : t.monitor.enable = s.monitor.enable :=
  (congrArg (fun g : Regulation => g.monitor.enable) h :)

theorem converts_of_regulation (h : t.regulation = s.regulation) :
    t.monitor.conversion.isSome = s.monitor.conversion.isSome := by
  have scanned : t.monitor.conversion.map Conversion.slot = s.monitor.conversion.map Conversion.slot :=
    congrArg Regulation.scanned h
  rw [← Option.isSome_map (f := Conversion.slot), scanned, Option.isSome_map]

theorem SettingsSound.congr (hs : SettingsSound s) (h : t.regulation = s.regulation) : SettingsSound t := by
  obtain ⟨ranges, converts, driven⟩ := settingsSound_iff.1 hs
  have selected : t.out.slotSelect = s.out.slotSelect := congrArg Regulation.selected h
  have scanned : t.monitor.conversion.map Conversion.slot = s.monitor.conversion.map Conversion.slot :=
    congrArg Regulation.scanned h
  refine settingsSound_iff.2 ⟨ranges.congr h, ?_, ?_⟩
  · rw [converts_of_regulation h, enable_of_regulation h]; exact converts
  · rw [selected, scanned]; exact driven

/-! ### The relations -/

theorem Port.Told.mono {K L : Byte → Prop} (h : ∀ k, K k → L k) {q q' : Port} (ht : Port.Told K q q') : Port.Told L q q' := by
  obtain ⟨frame, ⟨rest, queue, kinds⟩, room, missed⟩ := ht
  exact ⟨frame, ⟨rest, queue, fun x hx => ⟨(kinds x hx).1, h _ (kinds x hx).2⟩⟩, room, missed⟩

/-- Notices of whatever kinds are notices. -/
theorem Told.any {K : Byte → Prop} (h : Told K s t) : Told AnyNotice s t := fun p => (h p).mono fun _ _ => trivial

theorem Held.refl (s : State) : Held s s := ⟨rfl, .refl _, .refl s⟩

theorem Held.trans (h : Held s t) (h' : Held t u) : Held s u :=
  ⟨h'.regulation.trans h.regulation, h'.order.trans h.order, h.told.trans h'.told⟩

theorem Held.ite {c : Prop} [Decidable c] (h : Held s t) (h' : Held s u) : Held s (if c then t else u) := by
  split <;> assumption

/-- An act beside the settings, the arbiter and the ports. -/
theorem Held.beside (h : t.bounded = s.bounded) : Held s t := by
  obtain ⟨regulation, rest⟩ := Prod.mk.inj h
  obtain ⟨arbiter, ports⟩ := Prod.mk.inj rest
  exact ⟨regulation, .of_eq (congrArg Arbiter.order arbiter), .of_ports ports⟩

theorem Held.of_butTaps {K : Byte → Prop} (h : t.butTaps = s.butTaps) (told : Told K s t) : Held s t :=
  ⟨show t.butTaps.regulation = _ from h ▸ rfl, .of_eq (show t.butTaps.arbiter.order = _ from h ▸ rfl), told.any⟩

theorem Held.of_butAlarms {K : Byte → Prop} (h : t.butAlarms = s.butAlarms) (told : Told K s t) : Held s t :=
  .of_butTaps (butTaps_of_butAlarms h) told

theorem forEach_held (l : List Nat) {f : Nat → State → State} (h : ∀ n s, Held s (f n s)) (s : State) :
    Held s (forEach l f s) :=
  forEach_keeps (P := Held s) l f (fun n _ t ht => ht.trans (h n t)) s (.refl s)

theorem Held.block (h : Held s t) : BlockKept s t :=
  ⟨h.order.trans, fun hs => hs.congr h.regulation, h.told⟩

theorem BlockKept.refl (s : State) : BlockKept s s := (Held.refl s).block

theorem BlockKept.trans (h : BlockKept s t) (h' : BlockKept t u) : BlockKept s u :=
  ⟨fun hs => h'.arbiter (h.arbiter hs), fun hs => h'.settings (h.settings hs), h.told.trans h'.told⟩

theorem BlockKept.ite {c : Prop} [Decidable c] (h : BlockKept s t) (h' : BlockKept s u) :
    BlockKept s (if c then t else u) := by split <;> assumption

/-- An act that writes settings, and leaves the arbiter and the ports. -/
theorem BlockKept.of_settings (arbiter : t.arbiter = s.arbiter) (ports : t.ports = s.ports)
    (settings : SettingsSound s → SettingsSound t) : BlockKept s t :=
  ⟨fun h => (congrArg (fun b : Arbiter => b.order.Perm fixedOrder) arbiter).mpr h, settings, .of_ports ports⟩

/-- R172: notices leave room for an answer, and the requests as they were. -/
theorem PortSound.told {K : Byte → Prop} {q q' : Port} (h : PortSound q) (told : Port.Told K q q') : PortSound q' := by
  obtain ⟨frame, -, room, -⟩ := told
  obtain ⟨waiting, short, answerable⟩ := h
  have inQ : q'.inQ = q.inQ := (congrArg Port.inQ frame :)
  have inProgress : q'.inProgress = q.inProgress := (congrArg Port.inProgress frame :)
  refine ⟨inQ ▸ waiting, by omega, fun hp => ?_⟩
  have := answerable (inProgress ▸ hp)
  omega

theorem BlockKept.bounds (h : BlockKept s t) : BoundsKept s t :=
  ⟨h.arbiter, h.settings, fun hs p => (hs p).told (h.told p)⟩

theorem Held.bounds (h : Held s t) : BoundsKept s t := h.block.bounds

theorem BoundsKept.refl (s : State) : BoundsKept s s := (Held.refl s).bounds

theorem BoundsKept.trans (h : BoundsKept s t) (h' : BoundsKept t u) : BoundsKept s u :=
  ⟨fun hs => h'.arbiter (h.arbiter hs), fun hs => h'.settings (h.settings hs), fun hs => h'.ports (h.ports hs)⟩

theorem BoundsKept.ite {c : Prop} [Decidable c] (h : BoundsKept s t) (h' : BoundsKept s u) :
    BoundsKept s (if c then t else u) := by split <;> assumption

end Relation

section Acts
variable {s t u : State}

/-! ### Time, messages and alarms -/

theorem passTime_held (d : Nat) (s : State) : Held s (passTime d s) :=
  .beside (by unfold passTime; split <;> [split; skip] <;> rfl)

theorem noticeTo_held (a : MasterSet) (k : Byte) (b : List Byte) (s : State) : Held s (noticeTo a k b s) :=
  .of_butAlarms (butAlarms_of_butPorts (noticeTo_butPorts a k b s)) (noticeTo_told (K := AnyNotice) trivial a b s)

theorem raiseAlarm_held (k : AlarmKind) (o : Nat) (s : State) : Held s (raiseAlarm k o s) :=
  .of_butAlarms (raiseAlarm_butAlarms k o s) (raiseAlarm_told k o s)

theorem endAlarm_held (k : AlarmKind) (o : Nat) (s : State) : Held s (endAlarm k o s) :=
  .of_butAlarms (endAlarm_butAlarms k o s) (endAlarm_told k o s)

theorem postChange_held (k : AlarmKind) (o : Nat) (b a : Bool) (s : State) : Held s (postChange k o b a s) :=
  .of_butAlarms (postChange_butAlarms k o b a s) (postChange_told k o b a s)

theorem clearUntrue_held (s : State) : Held s (clearUntrue s) :=
  .of_butAlarms (clearUntrue_butAlarms s) (clearUntrue_told s)

theorem resurvey_held (s : State) : Held s (resurvey s).1 := by
  refine .of_butAlarms (resurvey_butAlarms s) (K := StartNotice) ?_
  unfold resurvey
  generalize s.trueConditions = l, 0 = n
  induction l generalizing n s with
  | nil => exact .of_ports rfl
  | cons e l ih =>
    obtain ⟨k, o⟩ := e
    unfold resurveyList
    split
    · exact ih s n
    · split
      · exact (newRecord_told k o s).trans (ih _ _)
      · exact .of_ports rfl

/-! ### The outage correlator -/

theorem decideBranches_held (s : State) : Held s (decideBranches s) := by
  refine .of_butTaps (butTaps_of_butBranches (decideBranches_butBranches s)) (K := StartNotice) ?_
  unfold decideBranches
  extract_lets keys s1 s2
  have h : Told StartNotice s s2 :=
    (Told.of_ports (by rfl)).trans (forEach_told keys (fun _ _ => .of_ports (by rfl)) s1)
  exact h.trans (forEach_told keys (fun n v => handOnBranch_told (s.branch n) n v) s2)

theorem changeBranch_held (n : Nat) (f : Branch → Branch) (s : State) : Held s (changeBranch n f s) :=
  (Held.beside (by rfl)).trans (decideBranches_held (s.setBranch n (f (s.branch n))))

theorem postReach_held (b : Option Nat) (x y : Bool) (s : State) : Held s (postReach b x y s) := by
  unfold postReach
  split
  · exact .refl s
  · exact .ite (changeBranch_held _ _ s) (.ite (changeBranch_held _ _ s) (.refl s))

theorem decideTier_held (n : Nat) (s : State) : Held s (decideTier n s) := .beside rfl

theorem decideTiers_held (s : State) : Held s (decideTiers s) := forEach_held _ decideTier_held s

/-! ### Taps and the port synchroniser -/

theorem setTap_held (n : Nat) (v : Tap) (s : State) : Held s (s.setTap n v) := .beside rfl
theorem setSub_held (n : Nat) (v : Subscriber) (s : State) : Held s (s.setSub n v) := .beside rfl

theorem setSync_held (n : Nat) (v : SyncStatus) (s : State) : Held s (setSync n v s) :=
  .of_butTaps (setSync_butTaps n v s) (setSync_told n v s)

theorem enterSync_held (n : Nat) (s : State) : Held s (enterSync n s) :=
  (Held.beside (by rfl)).trans (setSync_held n .queued { s with syncSet := s.syncSet ++ [n] })

theorem entryTest_held (n : Nat) (s : State) : Held s (entryTest n s) :=
  .of_butTaps (entryTest_butTaps n s) (entryTest_told n s)

theorem entryTestOf_held (n : Option Nat) (s : State) : Held s (entryTestOf n s) := by
  cases n with
  | none => exact .refl s
  | some n => exact entryTest_held n s

theorem setReach_held (n : Nat) (v : Reach) (s : State) : Held s (setReach n v s) :=
  (setTap_held n _ s).trans ((postReach_held _ _ _ _).trans (postChange_held _ _ _ _ _))

theorem takeStatus_held (n : Nat) (m : Quad TierSet) (r : Nat) (h : Bool) (s : State) :
    Held s (takeStatus n m r h s) :=
  ((setTap_held n _ s).trans (forEach_held _ (fun _ _ => setSub_held _ _ _) _)).trans
    (((postReach_held _ _ _ _).trans (postChange_held _ _ _ _ _)).trans (postChange_held _ _ _ _ _))

theorem intakeReply_held (n : Nat) (m : Quad TierSet) (r : Nat) (h : Bool) (s : State) :
    Held s (intakeReply n m r h s) := by
  unfold intakeReply
  refine .ite ((takeStatus_held n m r h s).trans ?_) (.refl s)
  extract_lets t
  split
  · exact enterSync_held n t
  · exact entryTest_held n t
  · exact entryTest_held n t
  · exact .ite (entryTest_held n t) (setSync_held n .inStep t)
  · exact .refl t

theorem portSetAnswered_held (n : Nat) (q : Quad TierSet) (x : Option TierMap) (m : Quad TierSet) (r : Nat)
    (h : Bool) (s : State) : Held s (portSetAnswered n q x m r h s) :=
  have taken := takeStatus_held n m r h s
  .ite (taken.trans ((setSync_held _ _ _).trans (entryTest_held _ _)))
    (taken.trans ((setSync_held _ _ _).trans (entryTest_held _ _)))

theorem portSetFailed_held (n : Nat) (o : TxnOutcome) (s : State) : Held s (portSetFailed n o s) :=
  .ite ((setSync_held _ _ s).trans (setReach_held _ _ _)) ((enterSync_held n s).trans (entryTest_held _ _))

/-! ### The plant survey -/

theorem setWatch_held (b : Nat) (w : Watch) (s : State) : Held s (s.setWatch b w) := .beside rfl

theorem postReport_held (b : Nat) (old new : Option StationReport) (s : State) : Held s (postReport b old new s) := by
  have ends : ∀ k f u, Held u (endStation k f b old new u) := fun k f u => .ite (endAlarm_held k b u) (.refl u)
  have raises : ∀ k f u, Held u (raiseStation k f b old new u) := fun k f u => .ite (raiseAlarm_held k b u) (.refl u)
  unfold postReport
  extract_lets s1 s2 s3 s4 s5 s6
  have h3 : Held s s3 := (ends _ _ s).trans ((ends _ _ s1).trans (ends _ _ s2))
  have h6 : Held s s6 := h3.trans ((raises _ _ s3).trans ((raises _ _ s4).trans (raises _ _ s5)))
  exact .ite h6 (h6.trans (changeBranch_held _ _ _))

theorem becomeSilent_held (b : Nat) (s : State) : Held s (becomeSilent b s) :=
  (setWatch_held b _ s).trans ((changeBranch_held _ _ _).trans (raiseAlarm_held _ _ _))

theorem postSilenceEnd_held (b : Nat) (s : State) : Held s (postSilenceEnd b s) :=
  (changeBranch_held b _ s).trans (endAlarm_held _ _ _)

theorem takeDeadline_held (b : Nat) (s : State) : Held s (takeDeadline b s) := by
  unfold takeDeadline
  extract_lets w
  split
  · exact setWatch_held _ _ s
  · exact setWatch_held _ _ s
  · exact becomeSilent_held b s
  · exact .refl s
  · exact .refl s

theorem postStation_held (n : Nat) (x y : Bool) (s : State) : Held s (postStation n x y s) := by
  have lost : Held s (stationLost n s) := by
    unfold stationLost
    extract_lets w _ s1 s2
    have h : Held s s2 := (setWatch_held n _ s).trans (postReport_held _ _ _ _)
    exact .ite (h.trans (postSilenceEnd_held n _)) h
  exact .ite (setWatch_held _ _ s) (.ite lost (.refl s))

theorem pollCompleted_held (b : Nat) (o : TxnOutcome) (r : Option StationReport) (s : State) :
    Held s (pollCompleted b o r s) := by
  have answered : ∀ r, Held s (pollAnswered b r s) := fun r =>
    (Held.ite ((setWatch_held b _ s).trans (postSilenceEnd_held b _)) (setWatch_held b _ s)).trans
      (postReport_held _ _ _ _)
  have failed : Held s (pollFailed b s) := by
    unfold pollFailed
    extract_lets w
    split
    · exact .ite (becomeSilent_held b s) (setWatch_held _ _ s)
    · exact setWatch_held _ _ s
    · exact .refl s
  have saidNothing : Held s (pollSaidNothing b s) := by
    unfold pollSaidNothing
    extract_lets w
    split
    · exact setWatch_held _ _ s
    · exact setWatch_held _ _ s
    · exact .refl s
  refine .ite ?_ (.refl s)
  split
  · exact answered _
  · exact .refl s
  · exact saidNothing
  · exact .ite failed saidNothing
  · exact .ite failed saidNothing

/-! ### The control carrier -/

theorem beginAttempt_held (x : Txn) (s : State) : Held s (beginAttempt x s) := .beside rfl

theorem countNoise_held (s : State) : Held s (countNoise s) :=
  .ite ((Held.beside (by rfl)).trans (raiseAlarm_held _ _ _)) (.beside rfl)

theorem countFrames_held (n : Nat) (s : State) : Held s (countFrames n s) := by
  induction n generalizing s with
  | zero => exact .refl s
  | succ n ih => exact (countNoise_held s).trans (ih _)

theorem closeNoiseMinute_held (s : State) : Held s (closeNoiseMinute s) :=
  .ite ((Held.beside (by rfl)).trans (endAlarm_held _ _ _)) (.beside rfl)

theorem closeAttempt_held (s : State) : Held s (closeAttempt s) :=
  (Held.beside (by rfl)).trans (countFrames_held _ _)

theorem receiveFrame_held (f : Frame) (s : State) : Held s (receiveFrame f s) := by
  unfold receiveFrame
  extract_lets _ s1
  have h1 : Held s s1 := .beside rfl
  split
  · exact .ite (.beside rfl) (.beside rfl)
  · exact h1.trans (countNoise_held _)
  · exact h1.trans (countNoise_held _)

/-- R84: the requester that is granted stands in the order, and moves to its end. -/
theorem Arbiter.granted_perm {a : Arbiter} {r : Requester} (h : r ∈ a.choiceOrder) : (a.granted r).order.Perm a.order := by
  unfold Arbiter.granted
  cases hm : a.mode with
  | fixed => exact .refl _
  | rotating =>
    have listed : r ∈ a.order := by simpa [Arbiter.choiceOrder, hm] using h
    exact (List.perm_append_singleton r _).trans (List.perm_cons_erase listed).symm

theorem arbiter_of_butTaps (h : t.butTaps = s.butTaps) : t.arbiter = s.arbiter :=
  show t.butTaps.arbiter = _ from h ▸ rfl

theorem grantTo_arbiter (r : Requester) (s : State) : (grantTo r s).arbiter = s.arbiter := by
  cases r with
  | broadcast => rfl
  | technician => show (grantTechnician s).arbiter = _; unfold grantTechnician; split <;> rfl
  | sync =>
    show (grantSync s).arbiter = _
    unfold grantSync
    split
    · extract_lets sent _ g
      exact (show _ = g.arbiter from rfl).trans (arbiter_of_butTaps (setSync_butTaps _ _ _))
    · rfl
  | survey =>
    show (grantSurvey s).arbiter = _
    unfold grantSurvey
    split
    · unfold markPolled; extract_lets w; split <;> rfl
    · split <;> rfl

/-- What a grant leaves holds every setting. -/
theorem regulation_of_grant (h : t.butGrant = s.butGrant) (h' : t.beneathGrant = s.beneathGrant) :
    t.regulation = s.regulation :=
  show ({ t.butGrant.regulation with
    wanted := t.beneathGrant.broadcast.wanted, remaining := t.beneathGrant.broadcast.remaining
    selected := t.beneathGrant.out.slotSelect } : Regulation) = _ from by rw [h, h']; rfl

theorem arbitrate_held (s : State) : Held s (arbitrate s) := by
  refine ⟨regulation_of_grant (arbitrate_butGrant s) (arbitrate_beneathGrant s), ?_, (arbitrate_told s).any⟩
  unfold arbitrate
  split
  · split
    · rename_i r hr
      rw [grantTo_arbiter]
      exact Arbiter.granted_perm (List.mem_of_find?_eq_some hr)
    · exact .refl _
  · exact .refl _

theorem atSurveyTime_held (o : Option Nat) {f : State → State} (hf : ∀ u, Held u (f u)) (s : State) :
    Held s (atSurveyTime o f s) := by
  unfold atSurveyTime
  split
  · exact .ite ((passTime_held _ s).trans ((hf _).trans (arbitrate_held _))) (.refl s)
  · exact .refl s

/-! ### The end of a transaction -/

/-- R70: a repeat that is counted leaves the broadcast wanted while others remain. -/
theorem countRepeat_blockKept (s : State) : BlockKept s (countRepeat s) := by
  unfold countRepeat
  refine .ite (.of_settings rfl rfl fun hs => ?_) (.refl s)
  obtain ⟨⟨link, monitor, tc, few, -⟩, scans⟩ := settingsSound_iff.1 hs
  exact settingsSound_iff.2 ⟨⟨link, monitor, tc, (Nat.sub_le _ _).trans few, by simp⟩, ⟨scans.converts, scans.driven⟩⟩

theorem technicianCompleted_held (c : Completion) (s : State) : Held s (technicianCompleted c s) := by
  have intake : ∀ u, Held u (technicianIntake c u) := fun u => by
    unfold technicianIntake
    split
    · exact intakeReply_held _ _ _ _ u
    · exact .refl u
  have noticed : ∀ b, Held s (putNotice .technician 163 b s) := fun b =>
    noticeTo_held ⟨false, true, false⟩ 163 b s
  unfold technicianCompleted
  split
  · exact (noticed _).trans ((Held.beside (by rfl)).trans (intake _))
  · exact .refl s

theorem syncCompleted_held (c : Completion) (s : State) : Held s (syncCompleted c s) := by
  unfold syncCompleted
  split
  · exact portSetAnswered_held _ _ _ _ _ _ s
  · exact portSetFailed_held _ _ s

theorem surveyCompleted_held (c : Completion) (s : State) : Held s (surveyCompleted c s) := by
  have audit : Held s (auditCompleted c s) := by
    unfold auditCompleted
    extract_lets _ s1
    have h1 : Held s s1 := .beside rfl
    split
    · exact h1.trans (intakeReply_held _ _ _ _ _)
    · exact h1.trans (.ite (setReach_held _ _ _) (.refl _))
  unfold surveyCompleted
  split
  · exact pollCompleted_held _ _ _ s
  · exact audit

theorem handOver_blockKept (c : Completion) (s : State) : BlockKept s (handOver c s) := by
  unfold handOver
  split
  · exact countRepeat_blockKept s
  · exact (technicianCompleted_held c s).block
  · exact (syncCompleted_held c s).block
  · exact (surveyCompleted_held c s).block

theorem completeTxn_blockKept (x : Txn) (o : TxnOutcome) (r : Option Reply) (s : State) :
    BlockKept s (completeTxn x o r s) :=
  (handOver_blockKept _ s).trans ((Held.beside (by rfl)).trans (arbitrate_held _)).block

theorem failAttempt_blockKept (x : Txn) (f : Failure) (s : State) : BlockKept s (failAttempt x f s) :=
  (closeAttempt_held s).block.trans
    (.ite (completeTxn_blockKept _ _ _ _) (.ite (beginAttempt_held _ _).block (completeTxn_blockKept _ _ _ _)))

theorem takeFrame_blockKept (x : Txn) (s : State) : BlockKept s (takeFrame x s) := by
  have reply : ∀ f u, BlockKept u (judgeReply x f u) := fun f u => by
    unfold judgeReply
    split
    · exact .ite ((closeAttempt_held u).block.trans (completeTxn_blockKept _ _ _ _)) (failAttempt_blockKept _ _ u)
    · exact failAttempt_blockKept _ _ u
  have frame : ∀ f u, BlockKept u (judgeFrame x f u) := fun f u =>
    have counted := (countNoise_held u).block
    .ite (counted.trans (failAttempt_blockKept _ _ _))
      (.ite (.ite (counted.trans (failAttempt_blockKept _ _ _)) counted) (reply f u))
  unfold takeFrame
  split
  · exact (Held.beside (by rfl)).block.trans (frame _ _)
  · exact .refl s

theorem transmitted_blockKept (x : Txn) (s : State) : BlockKept s (transmitted x s) := by
  unfold transmitted
  split
  · exact completeTxn_blockKept _ _ _ s
  · exact (Held.beside (by rfl)).block

/-! ### The slots and the level monitor -/

theorem setSlot_held (n : Nat) (v : Slot) (s : State) : Held s (s.setSlot n v) := .beside rfl

theorem setJudgement_held (n : Nat) (j : Judgement) (l h c : Nat) (s : State) : Held s (setJudgement n j l h c s) :=
  have left := setJudgement_butAlarms n j l h c s
  ⟨show (setJudgement n j l h c s).butAlarms.regulation = _ from left ▸ rfl,
    .of_eq (show (setJudgement n j l h c s).butAlarms.arbiter.order = _ from left ▸ rfl), (setJudgement_told n j l h c s).any⟩

/-- R115: a posting about the slot of the conversion in progress leaves it in progress. -/
theorem disturb_held (n : Nat) (s : State) : Held s (disturb n s) := by
  unfold disturb
  split
  · rename_i c hc
    exact .ite (.beside (by simp [State.bounded, State.regulation, hc])) (.refl s)
  · exact .refl s

theorem rampPosted_held (n : Nat) (b : Bool) (s : State) : Held s (rampPosted n b s) :=
  .ite ((disturb_held n s).trans (setJudgement_held _ _ _ _ _ _)) (disturb_held n s)

theorem recomputeAim_held (n : Nat) (s : State) : Held s (recomputeAim n s) := by
  have turned : ∀ u, Held u (turnOn n u) := fun u => (Held.beside (by rfl)).trans (rampPosted_held n true _)
  have aimed : ∀ u, Held u (reAim n u) := fun u => by
    unfold reAim
    extract_lets r
    split
    · exact .refl u
    · exact (setSlot_held _ _ u).trans (rampPosted_held n true _)
  have written := fun v => setSlot_held n v s
  rw [recomputeAim_eq]
  exact .ite (written _) (.ite ((written _).trans (aimed _)) (.ite (written _) ((written _).trans (turned _))))

theorem decideOwed_held (n : Nat) (s : State) : Held s (decideOwed n s) := .beside rfl

theorem refreshSlot_held (n : Nat) (s : State) : Held s (refreshSlot n s) :=
  ((decideOwed_held n s).trans (recomputeAim_held n _)).trans (decideTiers_held _)

theorem takeStep_held (n : Nat) (s : State) : Held s (takeStep n s) := by
  have sent : ∀ a b u, Held u (sendIfMoved n a b u) := fun a b u => .ite (.refl u) (.beside rfl)
  have off : Held s (turnOff n s) :=
    ((Held.beside (by rfl)).trans (rampPosted_held n true _)).trans (decideTiers_held _)
  unfold takeStep
  extract_lets r level next
  exact .ite (.ite off ((setSlot_held n _ s).trans ((sent _ _ _).trans (rampPosted_held n false _))))
    ((setSlot_held n _ s).trans (sent _ _ _))

theorem presenceTaken_held (n : Nat) (s : State) : Held s (presenceTaken n s) :=
  (Held.ite (endAlarm_held _ _ s) (raiseAlarm_held _ _ s)).trans
    (forEach_held _ (fun k u => .ite (decideOwed_held k u) (.refl u)) _)

theorem announceMode_held (old new : PowerMode) (s : State) : Held s (announceMode old new s) :=
  .of_butAlarms (announceMode_butAlarms old new s) (announceMode_told old new s)

theorem decideMode_held (s : State) : Held s (decideMode s) := by
  unfold decideMode
  extract_lets old new _ s1 s2
  have h1 : Held s s1 := .beside rfl
  have h2 : Held s1 s2 := forEach_held _ (fun n u => (recomputeAim_held n u).trans (decideTiers_held _)) s1
  exact .ite (.refl s) ((h1.trans h2).trans (announceMode_held _ _ _))

theorem scanSlot_held (n l : Nat) (d : Bool) (s : State) : Held s (scanSlot n l d s) := by
  unfold scanSlot
  extract_lets _ s1 v
  have h1 : Held s s1 := setSlot_held _ _ s
  exact .ite h1 (h1.trans ((setJudgement_held _ _ _ _ _ _).trans (decideTiers_held _)))

theorem clearJudgements_held (s : State) : Held s (clearJudgements s) :=
  forEach_held _ (fun n u => (setSlot_held n _ u).trans (setJudgement_held _ _ _ _ _ _)) s

end Acts

end Sys2Proof.Machine


namespace Sys2Proof.Machine

section Scan
variable {s t u : State}

/-! ### The conversions of the level monitor (R110 to R113) -/

/-- R112: a conversion that begins drives the output to its slot. -/
theorem beginConversion_sound {n : Nat} (h : RangesSound s) (on : s.monitor.enable = true) :
    SettingsSound (beginConversion n s) :=
  settingsSound_iff.2 ⟨⟨h.link, h.monitor, h.tc, h.few, h.wanted⟩, iff_of_true rfl on, rfl⟩

/-- R112: where a conversion is in progress, the next one begins. -/
theorem beginConversion_blockKept (hc : s.monitor.conversion.isSome = true) {n : Nat} (v : Bool)
    (hn : within 1 40 s.monitor.cursor = true → within 1 40 n = true) :
    BlockKept s (beginConversion n { s with monitor := { s.monitor with cursor := n, settling := v } }) := by
  refine .of_settings rfl rfl fun hs => ?_
  obtain ⟨⟨link, ⟨tolerance, hysteresis, persistence, cursor⟩, tc, few, wanted⟩, converts, -⟩ := settingsSound_iff.1 hs
  exact beginConversion_sound ⟨link, ⟨tolerance, hysteresis, persistence, hn cursor⟩, tc, few, wanted⟩ (converts.1 hc)

theorem slotAfter_range {n : Nat} (h : within 1 40 n = true) : within 1 40 (slotAfter n) = true := by
  simp only [within, decide_eq_true_eq] at *
  unfold slotAfter
  split <;> omega

/-- R112: the scan goes on to a slot of the head end. -/
theorem completeConversion_blockKept {c : Conversion} (hc : s.monitor.conversion = some c) (r : Nat) :
    BlockKept s (completeConversion c r s) := by
  unfold completeConversion
  split
  · exact beginConversion_blockKept (by simp [hc]) false id
  · extract_lets s1 next
    have scanned : Held s s1 := scanSlot_held _ _ _ s
    have converts : s1.monitor.conversion.isSome = true := by
      rw [converts_of_regulation scanned.regulation, hc]; rfl
    clear_value s1
    exact scanned.block.trans (beginConversion_blockKept converts s1.monitor.settling slotAfter_range)

/-- A setting that is clamped where it is given stays in its range. -/
theorem givenOr_range {lo hi held : Nat} (h : within lo hi held = true) (n : Option Nat) :
    within lo hi (givenOr held lo hi n) = true := by
  simp only [within, decide_eq_true_eq] at *
  cases n with
  | none => exact h
  | some n => simp only [givenOr, clamp]; omega

/-- R111: the settings given are clamped into their ranges. -/
theorem Monitor.InRange.withArgs {m : Monitor} (h : m.InRange) (a : MonitorArgs) : (m.withArgs a).InRange := by
  obtain ⟨tolerance, -, persistence, cursor⟩ := h
  exact ⟨givenOr_range tolerance _, Nat.min_le_left _ _, givenOr_range persistence _, cursor⟩

/-- R113: a conversion that is begun again is one of the same slot. -/
theorem restartConversion_scans {on : Bool} (h : RangesSound s) (hs : Scans on s) :
    RangesSound (restartConversion s) ∧ Scans on (restartConversion s) ∧
      (restartConversion s).monitor.enable = s.monitor.enable := by
  unfold restartConversion
  split
  · rename_i c hc
    exact ⟨⟨h.link, h.monitor, h.tc, h.few, h.wanted⟩, ⟨iff_of_true rfl (hs.converts.1 (by simp [hc])), rfl⟩, rfl⟩
  · exact ⟨h, hs, rfl⟩

/-- R110: the enable goes ON, and a conversion of slot 1 begins. -/
theorem monitorEnabled_sound (h : RangesSound s) (on : s.monitor.enable = true) : SettingsSound (monitorEnabled s) := by
  obtain ⟨link, ⟨tolerance, hysteresis, persistence, -⟩, tc, few, wanted⟩ := h
  unfold monitorEnabled
  extract_lets _ s1
  have posted : Held s1 (endAlarm .monitorOff 0 s1) := endAlarm_held _ _ _
  have settled : RangesSound s1 := ⟨link, ⟨tolerance, hysteresis, persistence, rfl⟩, tc, few, wanted⟩
  exact beginConversion_sound (settled.congr posted.regulation) ((enable_of_regulation posted.regulation).trans on)

/-- R110: the enable goes OFF: no conversion is in progress, and the output is not driven. -/
theorem monitorDisabled_sound (h : RangesSound s) (off : s.monitor.enable = false) : SettingsSound (monitorDisabled s) := by
  unfold monitorDisabled
  extract_lets _ s1
  have off' : s1.monitor.enable = false := off
  have stopped : SettingsSound (driveSelect none s1) :=
    settingsSound_iff.2 ⟨⟨h.link, h.monitor, h.tc, h.few, h.wanted⟩, iff_of_false (by simp [s1]) (by simp [off']), rfl⟩
  exact stopped.congr ((((clearJudgements_held _).trans (decideTiers_held _)).trans (raiseAlarm_held _ _ _)).regulation)

/-- R110, R113: a change of the monitor's settings tells the masters of MONITOR_OFF and of judgements alone. -/
theorem applyMonitor_told (old : Monitor) (s : State) : Told AnyNotice s (applyMonitor old s) := by
  have restarted : Told AnyNotice s (restartConversion s) := by
    unfold restartConversion
    split <;> exact .of_ports rfl
  have enabled : ∀ u, Told AnyNotice u (monitorEnabled u) := fun u =>
    ((Told.of_ports (by rfl)).trans (endAlarm_held .monitorOff 0 _).told).trans (.of_ports rfl)
  have disabled : ∀ u, Told AnyNotice u (monitorDisabled u) := fun u => by
    unfold monitorDisabled
    extract_lets _ u1
    have stopped : Told AnyNotice u (driveSelect none u1) := .of_ports rfl
    exact stopped.trans (((clearJudgements_held _).trans (decideTiers_held _)).trans (raiseAlarm_held .monitorOff 0 _)).told
  unfold applyMonitor
  extract_lets s1
  have h1 : Told AnyNotice s s1 := .ite (.refl s) restarted
  exact .ite (h1.trans (enabled _)) (.ite (h1.trans (disabled _)) h1)

/-- R110, R113: the settings, in their ranges, are applied to a monitor whose scan stood as the enable before said. -/
theorem applyMonitor_sound {old : Monitor} (h : RangesSound s) (hs : Scans old.enable s) :
    SettingsSound (applyMonitor old s) := by
  obtain ⟨ranges', scans', enable'⟩ := restartConversion_scans h hs
  unfold applyMonitor
  extract_lets s1
  obtain ⟨ranges, scans⟩ : RangesSound s1 ∧ Scans old.enable s1 := by
    show RangesSound (ite _ _ _) ∧ Scans _ (ite _ _ _)
    split
    · exact ⟨h, hs⟩
    · exact ⟨ranges', scans'⟩
  clear_value s1
  split
  · rename_i on
    exact monitorEnabled_sound ranges (by simp_all)
  · split
    · rename_i off
      exact monitorDisabled_sound ranges (by simp_all)
    · rename_i on off
      have same : s1.monitor.enable = old.enable := by
        cases hn : s1.monitor.enable <;> cases ho : old.enable <;> simp_all
      exact settingsSound_iff.2 ⟨ranges, same ▸ scans⟩

/-- R110, R111, R113: a MONITOR SET. -/
theorem monitorSet_blockKept (a : MonitorArgs) (s : State) : BlockKept s (monitorSet a s).1 := by
  have left := applyMonitor_butSlots s.monitor { s with monitor := s.monitor.withArgs a }
  refine ⟨fun h => ?_, fun hs => ?_, (Told.of_ports (by rfl)).trans (applyMonitor_told s.monitor _)⟩
  · exact (congrArg (fun u : State => u.arbiter.order.Perm fixedOrder) left).mpr h
  · obtain ⟨⟨link, monitor, tc, few, wanted⟩, converts, driven⟩ := settingsSound_iff.1 hs
    exact applyMonitor_sound ⟨link, monitor.withArgs a, tc, few, wanted⟩ ⟨converts, driven⟩

end Scan

end Sys2Proof.Machine


namespace Sys2Proof.Machine

section Records
variable {s t u : State}

/-! ### The events -/

theorem setEvent_held (e : Nat) (v : Event) (s : State) : Held s (s.setEvent e v) := .beside rfl

theorem eventNotice_held (e : Nat) (o : EventState) (s : State) : Held s (eventNotice e o s) := noticeTo_held _ _ _ s

theorem mapPurchases_held (e : Nat) (f : Purchase → Purchase) (s : State) : Held s (mapPurchases e f s) :=
  forEach_held _ (fun _ _ => setSub_held _ _ _) s

theorem cancelScheduled_held (e : Nat) (s : State) : Held s (cancelScheduled e s) :=
  ((forEach_held _ (fun _ _ => setSub_held _ _ _) s).trans (setEvent_held e _ _)).trans (eventNotice_held _ _ _)

section Decide
variable {f : State → State} (hf : ∀ s, Held s (f s))
include hf

theorem announceEvent_held (e : Nat) (o : EventState) (s : State) : Held s (announceEvent f e o s) :=
  have tested : Held s (testBuyers e s) := forEach_held _ (fun _ _ => entryTestOf_held _ _) s
  ((tested.trans (hf _)).trans (decideTiers_held _)).trans (eventNotice_held _ _ _)

theorem startEvent_held (e : Nat) (s : State) : Held s (startEvent f e s) :=
  (setEvent_held e _ s).trans (announceEvent_held hf e _ _)

theorem endEvent_held (e : Nat) (s : State) : Held s (endEvent f e s) :=
  ((setEvent_held e _ s).trans (mapPurchases_held _ _ _)).trans (announceEvent_held hf e _ _)

theorem evaluateEvents_held (m : Nat) (s : State) : Held s (evaluateEvents f m s) := by
  have shown : Held s (endShowing f m s) := by
    unfold endShowing
    split
    · exact .ite (endEvent_held hf _ s) (.refl s)
    · exact .refl s
  have starts : ∀ e u, Held u (takeStart f m e u) := fun e u =>
    .ite ((startEvent_held hf e u).trans (endEvent_held hf e _)) (startEvent_held hf e u)
  exact shown.trans (forEach_held _ starts _)

end Decide

theorem cancelShowing_held (e : Nat) (s : State) : Held s (cancelShowing e s) :=
  ((setEvent_held e _ s).trans (mapPurchases_held _ _ _)).trans (announceEvent_held arbitrate_held e _ _)

/-! ### Accrual -/

theorem visitRecord_held (shown : Option Nat) (n : Nat) (s : State) : Held s (visitRecord shown n s) := by
  unfold visitRecord
  extract_lets r
  split
  · exact .refl s
  · exact setSub_held _ _ s

theorem countCleanSweep_held (s : State) : Held s (countCleanSweep s) :=
  .ite ((Held.beside (by rfl)).trans (endAlarm_held _ _ _)) (.beside rfl)

theorem startSweep_held (s : State) : Held s (startSweep s) := by
  have counted : ∀ e u, Held u (countShown e u) := fun e u => by
    cases e with
    | none => exact .refl u
    | some e => exact setEvent_held e _ u
  have begins : Held s (beginSweep s) := by
    unfold beginSweep
    extract_lets e s1 _ s2
    have h2 : Held s s2 := ((Held.beside (by rfl)).trans (counted e (ageEpisodes s))).trans (.beside rfl)
    exact .ite (h2.trans (raiseAlarm_held _ _ _)) h2
  exact .ite begins ((Held.beside (by rfl)).trans (countCleanSweep_held _))

theorem tickSweep_held (s : State) : Held s (tickSweep s) := by
  unfold tickSweep
  split
  · exact startSweep_held s
  · exact .beside rfl
  · exact (Held.beside (by rfl)).trans (raiseAlarm_held _ _ _)

theorem closeCycle_held (s : State) : Held s (closeCycle s).1 := by
  have reset : ∀ u, Held u (resetCycle u) := fun u => by
    unfold resetCycle
    extract_lets overdue held u1
    have h1 : Held u u1 := .beside rfl
    exact .ite (h1.trans (endAlarm_held _ _ _)) h1
  exact (Held.beside (by rfl)).trans (reset { s with snapshot := some s.takeSnapshot })

theorem takeTick_held (s : State) : Held s (takeTick s) := by
  unfold takeTick
  extract_lets clock _ s1
  have h1 : Held s s1 := .beside rfl
  exact ((h1.trans (evaluateEvents_held arbitrate_held clock s1)).trans (tickSweep_held _)).trans
    (closeNoiseMinute_held _)

end Records

end Sys2Proof.Machine




namespace Sys2Proof.Machine

section Ports
variable {s t u : State} {p : Master}

/-! ### The queues of a port (R170, R172) -/

theorem regulation_of_butPorts (h : t.butPorts = s.butPorts) : t.regulation = s.regulation :=
  show t.butPorts.regulation = _ from h ▸ rfl
theorem arbiter_of_butPorts (h : t.butPorts = s.butPorts) : t.arbiter = s.arbiter :=
  show t.butPorts.arbiter = _ from h ▸ rfl

/-- A port is written. -/
theorem setPort_boundsKept {q : Port} (h : PortSound (s.port p) → PortSound q) : BoundsKept s (s.setPort p q) := by
  have left := setPort_butPorts p q s
  refine ⟨fun hs => ?_, fun hs => hs.congr (regulation_of_butPorts left), fun hs p' => ?_⟩
  · exact (congrArg (fun b : Arbiter => b.order.Perm fixedOrder) (arbiter_of_butPorts left)).mpr hs
  · by_cases hp : p' = p
    · subst hp; rw [setPort_port_self]; exact h (hs p')
    · rw [setPort_port_ne _ hp]; exact hs p'

/-- R172: an answer is placed behind at most 15 messages, and behind at most 14 while a request is in progress. -/
theorem putAnswer_boundsKept (m : Msg) (a : Ans) (short : (s.port p).outQ.length ≤ 15)
    (spare : (s.port p).inProgress.isSome = true → (s.port p).outQ.length ≤ 14) : BoundsKept s (putAnswer p m a s) :=
  setPort_boundsKept fun h => ⟨h.1, by simp; omega, fun hp => by have := spare hp; simp; omega⟩

/-- R170: a port that can place the answer of a request it has taken. -/
def CanAnswer (q : Port) : Prop := q.inProgress = none ∧ q.outQ.length ≤ 15

theorem CanAnswer.told {K : Byte → Prop} {q q' : Port} (h : CanAnswer q) (told : Port.Told K q q') : CanAnswer q' := by
  obtain ⟨frame, -, room, -⟩ := told
  obtain ⟨free, short⟩ := h
  have inProgress : q'.inProgress = q.inProgress := (congrArg Port.inProgress frame :)
  exact ⟨inProgress.trans free, by omega⟩

theorem CanAnswer.answered (h : CanAnswer (s.port p)) (m : Msg) (a : Ans) : BoundsKept s (putAnswer p m a s) :=
  putAnswer_boundsKept m a h.2 fun hp => by simp [h.1] at hp

/-- R170: a request is taken where its answer will find room. -/
theorem takable_canAnswer {f : Nat → Bool} {m : Msg} (h : s.takable p f = some m) : CanAnswer ((dropHead p s).port p) := by
  unfold State.takable at h
  split at h
  · split at h
    · rename_i hc
      simp only [State.canTake, Bool.and_eq_true, Option.isNone_iff_eq_none, decide_eq_true_eq] at hc
      obtain ⟨⟨free, short⟩, -⟩ := hc
      rw [dropHead, setPort_port_self]
      exact ⟨free, Nat.le_of_lt_succ short⟩
    · cases h
  · cases h

theorem dropHead_boundsKept (p : Master) (s : State) : BoundsKept s (dropHead p s) :=
  setPort_boundsKept fun ⟨waiting, short, answerable⟩ => ⟨by simp; omega, short, answerable⟩

/-- R171: a request is served. -/
theorem serve_boundsKept {α : Type} {block : Block α} (hb : ∀ a u, BlockKept u (block a u).1) (m : Msg) (ok : Bool)
    (parse : List Byte → Option α) (h : CanAnswer (s.port p)) : BoundsKept s (serve p m ok parse block s) := by
  unfold serve
  split
  · split
    · rename_i a _
      exact (hb a s).bounds.trans ((h.told ((hb a s).told p)).answered m _)
    · exact h.answered m _
  · exact h.answered m _

theorem setReceiver_boundsKept (p : Master) (rx : Receiver) (s : State) : BoundsKept s (setReceiver p rx s) :=
  setPort_boundsKept fun h => h

/-- R170, R172: a message joins fewer than 4 requests, or is answered FULL behind fewer than 15 messages. -/
theorem acceptMessage_boundsKept (p : Master) (m : Msg) (s : State) : BoundsKept s (acceptMessage p m s) := by
  unfold acceptMessage
  extract_lets q
  split
  · rename_i hq
    exact setPort_boundsKept fun ⟨_, short, answerable⟩ => ⟨by simp; omega, short, answerable⟩
  · split
    · rename_i hq
      exact putAnswer_boundsKept m _ (Nat.le_of_lt hq) fun _ => Nat.le_of_lt_succ hq
    · exact .refl s

theorem takeByte_boundsKept (p : Master) (b : Byte) (s : State) : BoundsKept s (takeByte p b s) := by
  have sets := fun rx => setReceiver_boundsKept p rx s
  have hunts : BoundsKept s (huntByte p b s) := .ite (sets _) (sets _)
  have finishes : ∀ l, BoundsKept s (finishMessage p l s) := fun l => by
    unfold finishMessage
    extract_lets s1
    have h1 : BoundsKept s s1 := sets _
    split
    · exact .ite (h1.trans (acceptMessage_boundsKept _ _ _)) h1
    · exact h1
  unfold takeByte
  split
  · exact hunts
  · exact .ite (sets _) hunts
  · exact .ite (sets _) (finishes _)

/-! ### The close of a cycle (R147, R162) -/

/-- R162: the request that waited in progress is answered, and ends. -/
theorem answerInProgress_boundsKept (p : Master) (a : Ans) (s : State) : BoundsKept s (answerInProgress p a s) := by
  unfold answerInProgress
  split
  · rename_i m hm
    rw [putAnswer, setPort_port_self, setPort_setPort]
    exact setPort_boundsKept fun ⟨waiting, _, answerable⟩ =>
      ⟨waiting, by have := answerable (by simp [hm]); simp; omega, by simp⟩
  · exact .refl s

theorem completeSweep_boundsKept (s : State) : BoundsKept s (completeSweep s) := by
  have closed : ∀ u, BoundsKept u (takeWaitingClose u) := fun u =>
    .ite ((closeCycle_held u).bounds.trans (answerInProgress_boundsKept _ _ _)) (.refl u)
  have pending : ∀ u, Held u (takePendingTick u) := fun u =>
    .ite ((Held.beside (by rfl)).trans (startSweep_held _)) (.refl u)
  have counted : Held s (countCleanSweep { s with billing := { s.billing with sweep := none } }) :=
    (Held.beside (by rfl)).trans (countCleanSweep_held _)
  exact counted.bounds.trans ((closed _).trans (pending _).bounds)

theorem sweepOne_boundsKept (w : Sweep) (s : State) : BoundsKept s (sweepOne w s) := by
  unfold sweepOne
  extract_lets s1
  have h1 : Held s s1 := visitRecord_held _ _ s
  clear_value s1
  have goesOn : ∀ w', Held s1 { s1 with billing := { s1.billing with sweep := w' } } := fun _ => .beside rfl
  exact .ite (h1.bounds.trans (completeSweep_boundsKept _)) (h1.trans (goesOn _)).bounds

/-- R162: a CYCLE CLOSE is answered at once, or stays in progress with room for its answer. -/
theorem serveClose_boundsKept (m : Msg) (h : CanAnswer (s.port p)) : BoundsKept s (serveClose p m s) := by
  unfold serveClose
  split
  · split
    · unfold closeOrWait
      split
      · exact (closeCycle_held s).bounds.trans ((h.told ((closeCycle_held s).told p)).answered m _)
      · have waits : Held s { s with billing := { s.billing with closeWaiting := true } } := .beside rfl
        exact waits.bounds.trans (setPort_boundsKept fun ⟨waiting, short, _⟩ => ⟨waiting, short, fun _ => h.2⟩)
    · exact h.answered m _
  · exact h.answered m _

end Ports

section Restarts
variable {s t u : State}

/-! ### The restarts (R175, R176) -/

/-- R175, R176: the queues of a port at a start hold the notices of the start alone. -/
theorem Port.Restarted.sound {K : Byte → Prop} {x : StrapPair} {sent : List (List Byte)} {body : List Byte} {q : Port}
    (h : Port.Restarted K x sent body q) : PortSound q := by
  obtain ⟨-, -, -, waiting, free, -, rest, queue, -, few, -⟩ := h
  have length : q.outQ.length = rest.length + 1 := by simp [queue]
  exact ⟨by simp [waiting], by omega, by simp [free]⟩

/-- R121: the settings with the level monitor as a warm restart leaves it until its scan resumes. -/
def Regulation.warm (g : Regulation) : Regulation := { g with monitor := g.monitor.warm, scanned := none }

theorem warmSponsors_held (n : Nat) (s : State) : Held s (warmSponsors n s) := by
  unfold warmSponsors
  extract_lets r
  split <;> exact .beside rfl

theorem takeSource_held (n : Nat) (s : State) : Held s (takeSource n s) :=
  .ite (.beside rfl) ((Held.beside (by rfl)).trans (presenceTaken_held n _))

theorem restartRamp_held (s : State) : Held s (restartRamp s) := by
  have drops : ∀ n u, Held u (dropCarrier n u) := fun _ _ => .beside rfl
  have mode : ∀ u, Held u (warmMode u) := fun u =>
    .ite (.beside rfl) ((Held.beside (by rfl)).trans (announceMode_held _ _ _))
  exact ((forEach_held _ drops s).trans (mode _)).trans (forEach_held _ recomputeAim_held _)

theorem restartMonitor_regulation (s : State) : (restartMonitor s).regulation = s.regulation.warm := by
  unfold restartMonitor
  extract_lets _ s1
  have h1 : s1.regulation = s.regulation.warm := rfl
  exact (clearJudgements_held s1).regulation.trans h1

/-- R173, R174: the queues, the restart count and the part-started notice are beside the settings. -/
theorem restartStarted_regulation (b : Straps) (s : State) :
    (announceStart (countRestart (restartPorts b s))).regulation = s.regulation := by
  have ports : (restartPorts b s).butPorts = s.butPorts := rfl
  have counted : ∀ u, (countRestart u).regulation = u.regulation := fun _ => rfl
  have told : ∀ u, (announceStart u).regulation = u.regulation := fun u =>
    regulation_of_butPorts (noticeTo_butPorts _ _ _ u)
  rw [told, counted, regulation_of_butPorts ports]

theorem restartHeadEnd_regulation (s : State) : (restartHeadEnd s).regulation = s.regulation.warm := by
  have linedUp : Held s (forEach slotNumbers warmSponsors (forEach sourceNumbers takeSource s)) :=
    (forEach_held _ takeSource_held s).trans (forEach_held _ warmSponsors_held _)
  rw [restartHeadEnd, (restartRamp_held _).regulation, restartMonitor_regulation, linedUp.regulation]

theorem restartPlant_regulation (s : State) : (restartPlant s).regulation = s.regulation :=
  have after : ∀ u, (restartAccrual (restartSurvey u)).regulation = u.regulation := fun _ => rfl
  have synced : ∀ u, (rebuildSync u).regulation = u.regulation := fun u =>
    show (rebuildSync u).butSync.regulation = _ from rebuildSync_butSync u ▸ rfl
  (after _).trans ((synced _).trans rfl)

theorem restartedRecords_regulation (b : Straps) (s : State) : (restartedRecords b s).regulation = s.regulation.warm := by
  have recounted : ∀ n u, Held u (recountTaps n u) := fun _ _ => .beside rfl
  have correlated : ∀ u, Held u (restartCorrelator u) := fun u =>
    ((forEach_held _ recounted u).trans (decideBranches_held _)).trans (decideTiers_held _)
  rw [restartedRecords, (correlated _).regulation, restartPlant_regulation, restartHeadEnd_regulation,
    restartStarted_regulation]

theorem restartedLists_regulation (b : Straps) (s : State) : (restartedLists b s).regulation = s.regulation.warm := by
  have evaluated := evaluateEvents_held (f := id) Held.refl (restartedRecords b s).billing.clock (restartedRecords b s)
  rw [restartedLists, (clearUntrue_held _).regulation, evaluated.regulation, restartedRecords_regulation]

/-- R121: with the enable ON a conversion of slot 1 begins, and with it OFF none is in progress. -/
theorem restartedAll_sound (b : Straps) (hs : SettingsSound s) : SettingsSound (restartedAll b s) := by
  obtain ⟨⟨link, ⟨tolerance, hysteresis, persistence, -⟩, tc, few, wanted⟩, converts, driven⟩ := settingsSound_iff.1 hs
  have ranges : RangesSound { s with monitor := s.monitor.warm } :=
    ⟨link, ⟨tolerance, hysteresis, persistence, rfl⟩, tc, few, wanted⟩
  have minute : ∀ u, (restartMinute u).regulation = u.regulation := fun _ => rfl
  have regulation : (restartMinute (restartedLists b s)).regulation
      = ({ s with monitor := s.monitor.warm } : State).regulation :=
    (minute _).trans (restartedLists_regulation b s)
  rw [restartedAll, resumeMonitor]
  split
  · rename_i on
    exact beginConversion_sound (ranges.congr regulation) on
  · rename_i off
    have off' : s.monitor.enable = false :=
      (enable_of_regulation regulation).symm.trans (Bool.eq_false_iff.2 off)
    have still : s.monitor.conversion = none := by
      rw [← Option.not_isSome_iff_eq_none, converts, off']; decide
    refine SettingsSound.congr (settingsSound_iff.2 ⟨ranges, ?_, ?_⟩) regulation
    · exact iff_of_false (by simp [Monitor.warm]) (by simp [Monitor.warm, off'])
    · exact driven.trans (by rw [still]; rfl)

theorem warmRestart_boundsKept (b : Straps) (s : State) : BoundsKept s (warmRestart b s) := by
  have order : (restartedAll b s).arbiter.order = fixedOrder := by
    obtain ⟨-, -, -, -, -, -, arbiter, -⟩ := fields_of_blocks (restartedAll_blocks b s)
    rw [arbiter]; rfl
  have grant := (arbitrate_held (restartedAll b s)).block
  rw [warmRestart_grant]
  exact ⟨fun _ => grant.arbiter (.of_eq order), fun hs => grant.settings (restartedAll_sound b hs),
    fun _ p => warmRestart_grant b s ▸ (warmRestart_ports b s p).sound⟩

theorem coldTables_regulation (s : State) : (coldTables s).regulation = State.reset.regulation := by
  have tc : (coldTables s).billing.tc = 30 := rfl
  have tc' : State.reset.billing.tc = 30 := rfl
  unfold State.regulation
  rw [tc, tc']
  rfl

theorem regulation_of_butAlarms (h : t.butAlarms = s.butAlarms) : t.regulation = s.regulation :=
  show t.butAlarms.regulation = _ from h ▸ rfl
theorem arbiter_of_butAlarms (h : t.butAlarms = s.butAlarms) : t.arbiter = s.arbiter :=
  show t.butAlarms.arbiter = _ from h ▸ rfl

theorem coldStart_boundsKept (b : Straps) (s : State) : BoundsKept s (coldStart b s) := by
  obtain ⟨-, -, settings, -⟩ := resetMeetsEveryInvariant
  have left := coldStart_butAlarms b s
  have order : (coldStart b s).arbiter.order = fixedOrder := congrArg Arbiter.order (arbiter_of_butAlarms left)
  exact ⟨fun _ => .of_eq order,
    fun _ => settings.congr ((regulation_of_butAlarms left).trans (coldTables_regulation s)),
    fun _ p => (coldStart_ports b s p).sound⟩

theorem serveRestart_boundsKept {p : Master} (m : Msg) (b : Straps) (h : CanAnswer (s.port p)) :
    BoundsKept s (serveRestart p m b s) := by
  unfold serveRestart
  split
  · split
    · exact warmRestart_boundsKept b s
    · exact h.answered m _
  · exact h.answered m _

end Restarts

end Sys2Proof.Machine


namespace Sys2Proof.Machine

section Requests
variable {s t : State}

/-! ### Requests -/

/-- A block that chooses by a check. -/
theorem BlockKept.block_ite {c : Prop} [Decidable c] {x y : State × Ans} (h : BlockKept s x.1) (h' : BlockKept s y.1) :
    BlockKept s (if c then x else y).1 := by split <;> assumption

/-- A block that refuses where a check fails. -/
theorem BlockKept.guard {c : Prop} [Decidable c] {x : State × Ans} {a : AnswerCode} (h : BlockKept s x.1) :
    BlockKept s (if c then refused a s else x).1 := .block_ite (.refl s) h

/-- A block that acts and leaves the settings. -/
theorem Held.answered (h : Held s t) (content : State → List Byte) : BlockKept s (answered content t).1 := h.block

theorem tested_held (o : Option Nat) (s : State) : Held s (arbitrate (entryTestOf o s)) :=
  (entryTestOf_held o s).trans (arbitrate_held _)

theorem subscriberAdd_blockKept (a : AddArgs) (s : State) : BlockKept s (subscriberAdd a s).1 := by
  unfold subscriberAdd
  refine .guard (.guard (.guard ?_))
  split
  · exact .refl s
  · exact .block_ite ((setSub_held _ _ s).trans (tested_held (some a.tap) _)).block (.refl s)

theorem subscriberChange_blockKept (a : Nat × TierSet) (s : State) : BlockKept s (subscriberChange a s).1 :=
  .guard (.guard (Held.answered (.ite (.refl s) ((setSub_held _ _ s).trans (tested_held _ _))) _))

theorem subscriberRemove_blockKept (n : Nat) (s : State) : BlockKept s (subscriberRemove n s).1 :=
  .guard (.guard (Held.answered ((setSub_held _ _ s).trans
    ((forEach_held _ (fun e u => setEvent_held e _ u) _).trans (tested_held _ _))) _))

theorem purchase_blockKept (a : Nat × Nat) (s : State) : BlockKept s (purchase a s).1 := by
  have added : Held s (addPurchase a.1 a.2 s) := by
    unfold addPurchase
    extract_lets r s1
    have h1 : Held s s1 := (setSub_held _ _ s).trans (setEvent_held _ _ _)
    exact .ite (h1.trans (tested_held _ _)) h1
  exact .guard (.guard (.guard (.guard (.guard (.guard (added.answered _))))))

theorem purchaseCancel_blockKept (a : Nat × Nat) (s : State) : BlockKept s (purchaseCancel a s).1 :=
  .guard (.guard (.guard (Held.answered ((setSub_held _ _ s).trans (setEvent_held _ _ _)) _)))

theorem clockSet_blockKept (m : Nat) (s : State) : BlockKept s (clockSet m s).1 :=
  ((Held.beside (by rfl)).trans
    (evaluateEvents_held arbitrate_held m { s with billing := { s.billing with clock := m } })).block

/-- R161: the credit threshold is clamped to 240. -/
theorem creditSet_blockKept (v : Nat) (s : State) : BlockKept s (creditSet v s).1 :=
  .of_settings rfl rfl fun hs => by
    obtain ⟨⟨link, monitor, -, few, wanted⟩, converts, driven⟩ := settingsSound_iff.1 hs
    exact settingsSound_iff.2 ⟨⟨link, monitor, Nat.min_le_left _ _, few, wanted⟩, converts, driven⟩

theorem statementRead_blockKept (n : Nat) (s : State) : BlockKept s (statementRead n s).1 := by
  rw [statementRead_eq]; exact .refl s

theorem portLocking_blockKept (v : Bool) (a : Nat × Nat) (s : State) : BlockKept s (portLocking v a s).1 := by
  unfold portLocking
  refine .guard ?_
  split
  · exact Held.answered (.ite (.refl s) ((setSub_held _ _ s).trans (tested_held _ _))) _
  · exact .refl s

theorem tapInstall_blockKept (a : Nat × Nat) (s : State) : BlockKept s (tapInstall a s).1 :=
  .guard (.guard (.guard (Held.answered
    ((setTap_held _ _ s).trans ((changeBranch_held _ _ _).trans (tested_held (some a.1) _))) _)))

theorem removeTap_held (n : Nat) (s : State) : Held s (removeTap n s) := by
  have ends : ∀ c k u, Held u (endIf c k n u) := fun c k u => .ite (endAlarm_held _ _ u) (.refl u)
  have gone : ∀ r u, Held u (postTapGone r u) := fun r u => by
    unfold postTapGone
    split
    · exact changeBranch_held _ _ u
    · exact .refl u
  unfold removeTap
  extract_lets r s1 s2
  have h1 : Held s s1 := (Held.beside (by rfl)).trans
    ((ends _ _ { s with syncSet := s.syncSet.erase n }).trans ((ends _ _ _).trans (ends _ _ _)))
  exact ((h1.trans (gone r s1)).trans (setTap_held _ _ _)).trans (ends _ _ _)

theorem tapRemove_blockKept (n : Nat) (s : State) : BlockKept s (tapRemove n s).1 :=
  .guard (.guard (.guard ((removeTap_held n s).answered _)))

theorem branchSet_blockKept (a : BranchArgs) (s : State) : BlockKept s (branchSet a s).1 := by
  have written : ∀ n v, Held s (s.setBranch n v) := fun _ _ => .beside rfl
  have interval : ∀ n i u, Held u (postInterval n i u) := fun n i u => .ite (.refl u) (setWatch_held _ _ u)
  have removal : BlockKept s (branchRemoval a.branch s).1 :=
    .guard (.guard (Held.answered ((written _ _).trans ((postStation_held _ _ _ _).trans
      ((decideBranches_held _).trans (setWatch_held _ _ _)))) _))
  have change : BlockKept s (branchChange a s).1 := by
    unfold branchChange
    split
    · exact .refl s
    · exact Held.answered ((written _ _).trans ((interval _ _ _).trans
        ((postStation_held _ _ _ _).trans ((decideBranches_held _).trans (arbitrate_held _))))) _
  exact .guard (.block_ite removal change)

theorem branchForcing_blockKept (v : Bool) (n : Nat) (s : State) : BlockKept s (branchForcing v n s).1 :=
  .guard (.guard (Held.answered (.ite (.refl s) (changeBranch_held _ _ s)) _))

theorem carrierOn_held (s : State) : Held s (carrierOn s) :=
  .ite (.refl s) ((Held.beside (by rfl)).trans (arbitrate_held _))

theorem returnOn_held (s : State) : Held s (returnOn s) :=
  .ite (.refl s) ((Held.beside (by rfl)).trans (arbitrate_held _))

theorem returnOff_held (s : State) : Held s (returnOff s) := .ite (.beside rfl) (.refl s)

/-- R78, R85: the settings given are clamped into their ranges, and a new mode takes the fixed order. -/
theorem linkSet_blockKept (a : LinkArgs) (s : State) : BlockKept s (linkSet a s).1 := by
  refine ⟨fun h => ?_, fun hs => ?_, .of_ports rfl⟩
  · show (s.arbiter.withMode a.mode).order.Perm fixedOrder
    unfold Arbiter.withMode
    split
    · split
      · exact h
      · exact .refl _
    · exact h
  · obtain ⟨⟨⟨window, retries, repeats, audit⟩, monitor, tc, few, wanted⟩, converts, driven⟩ := settingsSound_iff.1 hs
    have retries' := givenOr_range (lo := 0) (hi := 3) (by simpa [within] using retries) a.retries
    have few' : givenOr s.link.retries 0 3 a.retries ≤ 3 := by simpa [within] using retries'
    exact settingsSound_iff.2 ⟨⟨⟨givenOr_range window _, few', givenOr_range repeats _,
      givenOr_range audit _⟩, monitor, tc, few, wanted⟩, converts, driven⟩

theorem rateSet_blockKept (l : List (Nat × Nat)) (s : State) : BlockKept s (rateSet l s).1 :=
  .guard (Held.answered (s := s) (t := setRates l s) (.beside rfl) _)

theorem acceptQuery_blockKept (k : QueryKind) (n : Nat) (l : List Byte) (s : State) :
    BlockKept s (acceptQuery k n l s).1 :=
  .block_ite ((Held.beside (by rfl)).trans (arbitrate_held (enqueueQuery k n l s))).block (.refl s)

theorem tapQuery_blockKept (n : Nat) (s : State) : BlockKept s (tapQuery n s).1 :=
  .block_ite (acceptQuery_blockKept .tapQuery n [] s) (.refl s)
theorem tapEcho_blockKept (a : Nat × List Byte) (s : State) : BlockKept s (tapEcho a s).1 :=
  .block_ite (acceptQuery_blockKept .tapEcho a.1 a.2 s) (.refl s)
theorem stationQuery_blockKept (n : Nat) (s : State) : BlockKept s (stationQuery n s).1 :=
  .block_ite (acceptQuery_blockKept .stationQuery n [] s) (.refl s)

/-- R69: a new revision is broadcast with the repeats of the link settings. -/
theorem postRevision_blockKept (s : State) : BlockKept s (postRevision s) := by
  have reloaded : BlockKept s (reloadBroadcast s) := .of_settings rfl rfl fun hs => by
    obtain ⟨⟨link, monitor, tc, -, -⟩, converts, driven⟩ := settingsSound_iff.1 hs
    obtain ⟨-, -, repeats, -⟩ := id link
    simp only [within, decide_eq_true_eq] at repeats
    exact settingsSound_iff.2 ⟨⟨link, monitor, tc, repeats.2, iff_of_true rfl repeats.1⟩, converts, driven⟩
  exact reloaded.trans ((arbitrate_held _).trans ((forEach_held _ entryTest_held _).trans (arbitrate_held _))).block

theorem slotSet_blockKept (a : SlotArgs) (s : State) : BlockKept s (slotSet a s).1 := by
  have written : Held s (s.settingsWritten a) := by
    unfold State.settingsWritten selectIfChanged
    extract_lets old new s1
    split <;> split <;> exact .beside rfl
  have refreshed : Held s (refreshSlot a.slot (s.settingsWritten a)) := written.trans (refreshSlot_held _ _)
  refine .guard (.guard ?_)
  show BlockKept s (setSlotSettings a s)
  rw [setSlotSettings_eq]
  exact .ite refreshed.block (refreshed.block.trans (postRevision_blockKept _))

theorem eventSchedule_blockKept (a : ScheduleArgs) (s : State) : BlockKept s (eventSchedule a s).1 := by
  unfold eventSchedule scheduleClamped
  refine .guard (.guard (.guard (.guard ?_)))
  split
  · exact (setEvent_held _ _ s).answered _
  · exact .refl s

theorem eventCancel_blockKept (e : Nat) (s : State) : BlockKept s (eventCancel e s).1 := by
  unfold eventCancel
  refine .block_ite ?_ (.refl s)
  split
  · exact .refl s
  · exact (cancelScheduled_held e s).answered _
  · exact (cancelShowing_held e s).answered _
  · exact .refl s
  · exact .refl s

theorem sponsoring_blockKept (p : Master) (v : Bool) (n : Nat) (s : State) : BlockKept s (sponsoring p v n s).1 :=
  .block_ite (Held.answered ((setSlot_held n _ s).trans (refreshSlot_held n _)) _) (.refl s)

theorem alarmAck_blockKept (p : Master) (n : Nat) (s : State) : BlockKept s (alarmAck p n s).1 := by
  have retired : ∀ r u, Held u (retire r u) := fun r u => .ite (.beside rfl) (.refl u)
  unfold alarmAck
  refine .block_ite ?_ (.refl s)
  split
  · exact .refl s
  · exact .block_ite (Held.answered ((Held.beside (by rfl)).trans (retired _ _)) _) (.refl s)

theorem reading_blockKept (hi : Nat) (content : Nat → State → List Byte) (n : Nat) (s : State) :
    BlockKept s (reading hi content n s).1 := .block_ite (.refl s) (.refl s)

theorem subscriberRead_blockKept (n : Nat) (s : State) : BlockKept s (subscriberRead n s).1 := by
  have read := fun c => reading_blockKept 2048 c n s
  exact .block_ite ((read _).trans (Held.beside (by rfl)).block) (read _)

end Requests

end Sys2Proof.Machine


namespace Sys2Proof.Machine

section Commands
variable {s t : State}

/-! ### Every command -/

/-- Where a command answers a next state, the bounds are kept. -/
def BoundsBy (s : State) (r : Result) : Prop := ∀ t, r = .next t → BoundsKept s t

theorem BoundsBy.next (h : BoundsKept s t) : BoundsBy s (.next t) := fun u hu => by
  obtain rfl : t = u := by injection hu
  exact h

theorem BoundsBy.block (h : BlockKept s t) : BoundsBy s (.next t) := .next h.bounds

theorem BoundsBy.held (h : Held s t) : BoundsBy s (.next t) := .next h.bounds

theorem BoundsBy.stays : BoundsBy s (.next s) := .next (.refl s)

theorem BoundsBy.fault (f : Fault) : BoundsBy s (.fault f) := fun _ hu => by cases hu

theorem BoundsBy.ite {c : Prop} [Decidable c] {x y : Result} (h : BoundsBy s x) (h' : BoundsBy s y) :
    BoundsBy s (if c then x else y) := by split <;> assumption

/-- A request that its port takes now, with room for its answer. -/
theorem BoundsBy.taken {p : Master} {f : Nat → Bool} {g : Msg → State → State}
    (hg : ∀ m u, CanAnswer (u.port p) → BoundsKept u (g m u)) :
    BoundsBy s (match s.takable p f with
      | some m => .next (g m (dropHead p s))
      | none => .next s) := by
  split
  · rename_i m hm
    exact .next ((dropHead_boundsKept p s).trans (hg m _ (takable_canAnswer hm)))
  · exact .stays

theorem BoundsBy.request {α : Type} {block : Block α} (hb : ∀ a u, BlockKept u (block a u).1) (p : Master) (k : Nat)
    (ok : Bool) (parse : List Byte → Option α) : BoundsBy s (.next (takeRequest p k ok parse block s)) := by
  unfold takeRequest
  split
  · rename_i m hm
    exact .next ((dropHead_boundsKept p s).trans (serve_boundsKept hb m ok parse (takable_canAnswer hm)))
  · exact .stays

/-! The events at the pins, lines and timers. -/

theorem qualifySource_held (n : Nat) (s : State) : Held s (qualifySource n s) := by
  unfold qualifySource
  extract_lets r
  have written : ∀ v, Held s (s.setSource n v) := fun _ => .beside rfl
  exact (written _).trans ((presenceTaken_held n _).trans (decideTiers_held _))

theorem execSourceQualificationExpiry_bounds (n : Nat) : BoundsBy s (execSourceQualificationExpiry n s) := by
  unfold execSourceQualificationExpiry
  refine .ite ?_ (.fault _)
  split
  · exact .held ((passTime_held _ s).trans (qualifySource_held n _))
  · exact .stays

theorem execSupplyLineChange_bounds (line : SupplyLine) (high : Bool) : BoundsBy s (execSupplyLineChange line high s) := by
  cases line <;> exact .ite .stays (.held (.beside rfl))

theorem execSupplyQualificationExpiry_bounds (line : SupplyLine) : BoundsBy s (execSupplyQualificationExpiry line s) := by
  have mains : ∀ u, Held u (qualifyMains u) := fun u => (Held.beside (by rfl)).trans (decideMode_held _)
  have reserve : ∀ u, Held u (qualifyReserve u) := fun u => (Held.beside (by rfl)).trans (decideMode_held _)
  cases line <;> unfold execSupplyQualificationExpiry <;> dsimp only <;> split
  · exact .held ((passTime_held _ s).trans (mains _))
  · exact .stays
  · exact .held ((passTime_held _ s).trans (reserve _))
  · exact .stays

theorem execStepTimerExpiry_bounds (n : Nat) : BoundsBy s (execStepTimerExpiry n s) := by
  unfold execStepTimerExpiry
  refine .ite ?_ (.fault _)
  split
  · exact .held ((passTime_held _ s).trans (takeStep_held n _))
  · exact .stays

theorem execTransmitCompletion_bounds : BoundsBy s (execTransmitCompletion s) := by
  unfold execTransmitCompletion
  split
  · exact .block (transmitted_blockKept _ s)
  · exact .stays

theorem execReplyTake_bounds : BoundsBy s (execReplyTake s) := by
  unfold execReplyTake
  split
  · exact .block (takeFrame_blockKept _ s)
  · exact .stays

theorem execReplyWindowExpiry_bounds : BoundsBy s (execReplyWindowExpiry s) := by
  unfold execReplyWindowExpiry
  split
  · exact .block ((passTime_held _ s).block.trans (failAttempt_blockKept _ _ _))
  · exact .stays

theorem execDwellExpiry_bounds (r : Nat) : BoundsBy s (execDwellExpiry r s) := by
  unfold execDwellExpiry
  split
  · rename_i c hc
    exact .block ((passTime_held _ s).block.trans (completeConversion_blockKept (by simpa using hc) r))
  · exact .stays

theorem execSweepVisit_bounds : BoundsBy s (execSweepVisit s) := by
  unfold execSweepVisit
  split
  · exact .next (sweepOne_boundsKept _ s)
  · exact .stays

theorem execInterByteTimeout_bounds (p : Master) : BoundsBy s (execInterByteTimeout p s) := by
  unfold execInterByteTimeout
  split
  · exact .next ((passTime_held _ s).bounds.trans (setReceiver_boundsKept _ _ _))
  · exact .stays

/-- R172: a message that is sent leaves its queue. -/
theorem execMessageSent_bounds (p : Master) : BoundsBy s (execMessageSent p s) := by
  unfold execMessageSent
  extract_lets q
  split
  · rename_i m rest hq
    have length : (s.port p).outQ.length = rest.length + 1 := by rw [show (s.port p).outQ = m :: rest from hq]; rfl
    exact .next (setPort_boundsKept fun ⟨waiting, short, answerable⟩ =>
      ⟨waiting, show rest.length ≤ 16 by omega, fun hp => show rest.length ≤ 15 by have := answerable hp; omega⟩)
  · exact .stays

/-- Every command keeps the arbiter's order an arrangement, the settings in their ranges and the queues in their bounds. -/
theorem exec_bounds (c : Instr) (s : State) : BoundsBy s (exec c s) := by
  cases c with
  | sourcePresenceLineChange n high => exact .ite (.ite .stays (.held (.beside rfl))) (.fault _)
  | sourceQualificationExpiry n => exact execSourceQualificationExpiry_bounds n
  | supplyLineChange line high => exact execSupplyLineChange_bounds line high
  | supplyQualificationExpiry line => exact execSupplyQualificationExpiry_bounds line
  | stepTimerExpiry n => exact execStepTimerExpiry_bounds n
  | transmitCompletion => exact execTransmitCompletion_bounds
  | frameReceived bytes stops => exact .ite (.ite (.held (receiveFrame_held _ s)) .stays) (.fault _)
  | frameStreamTimeout => exact .ite (.held (receiveFrame_held _ s)) .stays
  | replyTake => exact execReplyTake_bounds
  | replyWindowExpiry => exact execReplyWindowExpiry_bounds
  | pollDueTime b => exact .ite (.held (atSurveyTime_held _ (fun u => setWatch_held _ _ u) s)) (.fault _)
  | stationDeadline b => exact .ite (.held (atSurveyTime_held _ (takeDeadline_held b) s)) (.fault _)
  | recoveryDueTime b => exact .ite (.held (atSurveyTime_held _ (fun u => setWatch_held _ _ u) s)) (.fault _)
  | auditStepTimerExpiry => exact .held (atSurveyTime_held _ (fun u => .beside (by rfl)) s)
  | dwellExpiry r => exact execDwellExpiry_bounds r
  | minuteTick => exact .held ((passTime_held _ s).trans (takeTick_held _))
  | sweepVisit => exact execSweepVisit_bounds
  | messageReceived p kind tag body =>
    exact .ite (.next ((setReceiver_boundsKept p .hunting s).trans (acceptMessage_boundsKept _ _ _))) (.fault _)
  | interByteTimeout p => exact execInterByteTimeout_bounds p
  | messageSent p => exact execMessageSent_bounds p
  | unknownRequest p => exact BoundsBy.taken (g := fun m => putAnswer p m (refuse .malformed)) fun m _ h => h.answered m _
  | subscriberAdd p => exact .request subscriberAdd_blockKept p _ _ _
  | subscriberChange p => exact .request subscriberChange_blockKept p _ _ _
  | subscriberRemove p => exact .request subscriberRemove_blockKept p _ _ _
  | purchase p => exact .request purchase_blockKept p _ _ _
  | purchaseCancel p => exact .request purchaseCancel_blockKept p _ _ _
  | clockSet p => exact .request clockSet_blockKept p _ _ _
  | rateSet p => exact .request rateSet_blockKept p _ _ _
  | creditSet p => exact .request creditSet_blockKept p _ _ _
  | cycleClose p => exact BoundsBy.taken (g := serveClose p) fun m _ h => serveClose_boundsKept m h
  | statementRead p => exact .request statementRead_blockKept p _ _ _
  | portLock p => exact .request (portLocking_blockKept true) p _ _ _
  | portUnlock p => exact .request (portLocking_blockKept false) p _ _ _
  | tapInstall p => exact .request tapInstall_blockKept p _ _ _
  | tapRemove p => exact .request tapRemove_blockKept p _ _ _
  | branchSet p => exact .request branchSet_blockKept p _ _ _
  | branchForce p => exact .request (branchForcing_blockKept true) p _ _ _
  | branchRelease p => exact .request (branchForcing_blockKept false) p _ _ _
  | carrierOn p => exact .request (fun _ u => (carrierOn_held u).block) p _ _ _
  | carrierOff p => exact .request (fun _ u => (Held.beside (by rfl)).block) p _ _ _
  | returnOn p => exact .request (fun _ u => (returnOn_held u).block) p _ _ _
  | returnOff p => exact .request (fun _ u => (returnOff_held u).block) p _ _ _
  | linkSet p => exact .request linkSet_blockKept p _ _ _
  | tapQuery p => exact .request tapQuery_blockKept p _ _ _
  | tapEcho p => exact .request tapEcho_blockKept p _ _ _
  | stationQuery p => exact .request stationQuery_blockKept p _ _ _
  | monitorSet p => exact .request monitorSet_blockKept p _ _ _
  | alarmResurvey p => exact .request (fun _ u => (resurvey_held u).block) p _ _ _
  | restart p b => exact BoundsBy.taken (g := fun m => serveRestart p m b) fun m _ h => serveRestart_boundsKept m b h
  | slotSet p => exact .request slotSet_blockKept p _ _ _
  | eventSchedule p => exact .request eventSchedule_blockKept p _ _ _
  | eventCancel p => exact .request eventCancel_blockKept p _ _ _
  | sponsor p => exact .request (sponsoring_blockKept p true) p _ _ _
  | withdraw p => exact .request (sponsoring_blockKept p false) p _ _ _
  | audienceSet p => exact .request (fun _ u => (Held.beside (by rfl)).block) p _ _ _
  | alarmAck p => exact .request (alarmAck_blockKept p) p _ _ _
  | identify p => exact .request (fun _ u => .refl u) p _ _ _
  | slotRead p => exact .request (reading_blockKept _ _) p _ _ _
  | subscriberRead p => exact .request subscriberRead_blockKept p _ _ _
  | tapRead p => exact .request (reading_blockKept _ _) p _ _ _
  | branchRead p => exact .request (reading_blockKept _ _) p _ _ _
  | stationRead p => exact .request (reading_blockKept _ _) p _ _ _
  | alarmListRead p => exact .request (reading_blockKept _ _) p _ _ _
  | eventRead p => exact .request (reading_blockKept _ _) p _ _ _
  | billingRead p => exact .request (fun _ u => .refl u) p _ _ _
  | linkRead p => exact .request (fun _ u => .refl u) p _ _ _
  | restartLine intact b => exact .next (.ite (warmRestart_boundsKept b s) (coldStart_boundsKept b s))
  | startIndication a b c => exact .ite (.held (.beside rfl)) .stays
  | masterPortByteReceived p byte stop =>
    exact .ite (.next (takeByte_boundsKept p byte s)) (.next (setReceiver_boundsKept _ _ s))

/-- A step runs the front command on the queue's rest, or 1 ms passes. -/
theorem step_bounds (h : step s = .next t) : BoundsKept s t := by
  unfold step at h
  split at h
  · exact BoundsKept.trans (Held.beside (by rfl)).bounds (exec_bounds _ _ t h)
  · injection h with h
    exact h ▸ (passTime_held 1 s).bounds

/-- Settles O50: an operation of the model permutes the arbiter's order, writes settings clamped into their ranges, and places
notices and answers where there is room. -/
theorem settingsAndPortsStaySound : Obligations.SettingsAndPortsStaySound := by
  unfold Obligations.SettingsAndPortsStaySound
  exact ⟨fun s t hs h => (step_bounds h).arbiter hs, fun s t hs h => (step_bounds h).settings hs,
    fun s t hs h => (step_bounds h).ports hs⟩

end Commands

end Sys2Proof.Machine


namespace Sys2Proof.Machine

/-! ## The enables and the link settings (R76 to R78, R85) -/

section Enables
variable {s : State} {m : Msg}

/-- R76, R77: an enable's request, which carries no operand, acts and is answered DONE. -/
theorem takeRequest_noContent {k : Nat} (h : Asks s .technician k m) (hb : m.body = []) (act : State → State) :
    Host.Outcome.next (takeRequest .technician k true parseEmpty (fun _ u => answered noContent (act u)) s)
      = (.next (putAnswer .technician m (answerDone []) (act (dropHead .technician s))) : Result) :=
  h.answered (a := ()) (hb ▸ rfl) rfl

theorem exec_carrierOn (hb : m.body = []) (h : Asks s .technician 18 m) :
    exec (.carrierOn .technician) s
      = .next (putAnswer .technician m (answerDone []) (carrierOn (dropHead .technician s))) := takeRequest_noContent h hb carrierOn

theorem exec_carrierOff (hb : m.body = []) (h : Asks s .technician 19 m) :
    exec (.carrierOff .technician) s
      = .next (putAnswer .technician m (answerDone []) (carrierOff (dropHead .technician s))) := takeRequest_noContent h hb carrierOff

theorem exec_returnOn (hb : m.body = []) (h : Asks s .technician 20 m) :
    exec (.returnOn .technician) s
      = .next (putAnswer .technician m (answerDone []) (returnOn (dropHead .technician s))) := takeRequest_noContent h hb returnOn

theorem exec_returnOff (hb : m.body = []) (h : Asks s .technician 21 m) :
    exec (.returnOff .technician) s
      = .next (putAnswer .technician m (answerDone []) (returnOff (dropHead .technician s))) := takeRequest_noContent h hb returnOff

/-- R78: a LINK SET writes its settings and answers them all. -/
theorem exec_linkSet {a : LinkArgs} (h : Asks s .technician 22 m) (hp : parseLink m.body = some a) :
    exec (.linkSet .technician) s = .next (afterAnswer .technician m
      (answerDone (u8 (s.link.withArgs a).window ++ u8 (s.link.withArgs a).retries ++ u8 (s.link.withArgs a).repeats
        ++ u8 (s.link.withArgs a).auditInterval ++ u8 (s.arbiter.withMode a.mode).mode.code))
      { s with link := s.link.withArgs a, arbiter := s.arbiter.withMode a.mode }) :=
  h.answered hp rfl

/-- A setting without a lower bound is clamped from above. -/
theorem givenOr_zero (held hi : Nat) (n : Option Nat) :
    givenOr held 0 hi n = (match n with | some v => min hi v | none => held) := by
  cases n with
  | none => rfl
  | some v => exact Nat.zero_max _

/-- R85: a changed mode sets the fixed order, the mode held keeps the order held. -/
theorem withMode_eq (b : Arbiter) (m : Option ArbMode) :
    (b.withMode m).mode = m.getD b.mode ∧
      (b.withMode m).order = if (b.withMode m).mode = b.mode then b.order else fixedOrder := by
  cases m with
  | none => simp [Arbiter.withMode]
  | some m => by_cases h : m = b.mode <;> simp [Arbiter.withMode, h]

/-- Settles O23: each request is its block on the queue's rest, which leaves the enables and the settings. -/
theorem enablesAndLinkSettings : Obligations.EnablesAndLinkSettings := by
  unfold Obligations.EnablesAndLinkSettings
  intro s m done u
  refine ⟨exec_carrierOn, exec_carrierOff, exec_returnOn, exec_returnOff, fun a h hp => ?_⟩
  obtain ⟨mode, order⟩ := withMode_eq s.arbiter a.mode
  exact ⟨s.link.withArgs a, s.arbiter.withMode a.mode, exec_linkSet h hp, rfl, givenOr_zero _ _ _, rfl, rfl, mode, order⟩

end Enables

end Sys2Proof.Machine


namespace Sys2Proof.Machine

/-! ## The return receiver (R71 to R75, R77) -/

section Receiver
variable {s : State} {bytes : List SampledByte} {stops : List SampledStop}

/-- R71: at least two of three samples have the value. -/
theorem majority_iff (a b c : Bool) :
    majority a b c = true ↔ (a = true ∧ b = true) ∨ (a = true ∧ c = true) ∨ (b = true ∧ c = true) := by
  simp [majority, or_assoc]

/-- R71: the bytes of a frame are those whose every symbol has the value of the majority of its samples. -/
theorem eq_decidedBytes {content : List Byte} (length : content.length = bytes.length)
    (bits : ∀ e ∈ bytes.zip content, ∀ k, k < 8 →
      (e.2.getLsbD k = true ↔ majority (e.1.first.getLsbD k) (e.1.second.getLsbD k) (e.1.third.getLsbD k) = true)) :
    content = decidedBytes bytes := by
  refine List.ext_getElem (by simp [length]) fun i hi hi' => ?_
  rw [decidedBytes_length] at hi'
  have hz : i < (bytes.zip content).length := by simp; omega
  have sampled : (bytes[i], content[i]) ∈ bytes.zip content := List.getElem_zip (h := hz) ▸ List.getElem_mem hz
  refine (BitVec.eq_of_getLsbD_eq fun k hk => ?_).trans (List.getElem_map _).symm
  rw [SampledByte.decided_bit, Bool.eq_iff_iff]
  exact bits _ sampled k hk

/-- R72: the receive status is the one that its two definite cases say it is. -/
theorem frameStatus_eq {l : List Byte} {good : Bool} {status : RxStatus} (framing : status = .framingFault ↔ good = false)
    (intact : status = .intact ↔ good = true ∧ l.getLast? = some (crc8 l.dropLast)) : frameStatus l good = status := by
  unfold frameStatus
  cases good with
  | false => exact (framing.2 rfl).symm
  | true =>
    split
    · contradiction
    · split
      · rename_i check
        exact (intact.2 ⟨rfl, check⟩).symm
      · rename_i check
        cases status with
        | intact => exact absurd (intact.1 rfl).2 check
        | checkFault => rfl
        | framingFault => exact absurd (framing.1 rfl) (by decide)

/-- R72: a stop symbol that is not decided as the stop value. -/
theorem stopsGood_eq_false : stopsGood stops = false ↔ ∃ x ∈ stops, ¬ majority x.first x.second x.third = true := by
  rw [← Bool.not_eq_true, stopsGood_iff]
  push Not
  rfl

/-- R72, R73: a frame waits in the buffer, marks the newer frame that waits, or is counted. -/
theorem receiveFrame_eq (f : Frame) (s : State) : receiveFrame f s =
    let u : State := { s with engine := { s.engine with inFrame := false } }
    if s.engine.state = .awaiting then
      { u with engine := { u.engine with
        buffer := if s.engine.buffer.length < 2 then s.engine.buffer ++ [f] else markOverrun s.engine.buffer } }
    else countNoise u := by
  cases state : s.engine.state with
  | idle => simp [receiveFrame, state]
  | sending => simp [receiveFrame, state]
  | awaiting => by_cases room : s.engine.buffer.length < 2 <;> simp only [receiveFrame, state, room, if_true, if_false]

theorem exec_frameReceived (samples : wfSamples bytes stops = true) :
    exec (.frameReceived bytes stops) s = if s.engine.returnOn = true ∧ s.engine.inFrame = true then
      .next (receiveFrame (decidedFrame bytes stops) s) else .next s := by
  show execFrameReceived bytes stops s = _
  rw [execFrameReceived, if_pos samples]
  simp

theorem exec_frameStreamTimeout :
    exec .frameStreamTimeout s = if s.engine.returnOn = true ∧ s.engine.inFrame = true then
      .next (receiveFrame ⟨[], .framingFault, false⟩ s) else .next s := by
  show execFrameStreamTimeout s = _
  simp [execFrameStreamTimeout]

theorem exec_startIndication (a b c : Bool) :
    exec (.startIndication a b c) s
      = if s.engine.returnOn = true ∧ s.engine.inFrame = false ∧ majority a b c = true then
          .next { s with engine := { s.engine with inFrame := true } } else .next s := by
  show execStartIndication a b c s = _
  simp [execStartIndication, and_assoc]

/-- R75: the count goes up by 1, to 65,535, and its eighth frame makes the noise condition active. -/
theorem countNoise_eq (u : State) : countNoise u =
    if min 65535 (u.engine.noiseCount + 1) = 8 then
      raiseAlarm .returnNoise 0 { u with engine := { u.engine with noiseCount := 8, noiseActive := true } }
    else { u with engine := { u.engine with noiseCount := min 65535 (u.engine.noiseCount + 1) } } := by
  by_cases eighth : min 65535 (u.engine.noiseCount + 1) = 8
  · simp only [countNoise, eighth, if_true]
  · simp only [countNoise, eighth, if_false]

/-- Settles O40: the samples decide the frame's bytes and its status, and the state of the engine what becomes of it. -/
theorem returnFramesAreReceived : Obligations.ReturnFramesAreReceived := by
  unfold Obligations.ReturnFramesAreReceived
  intro s bytes stops samples two after
  have two_iff : ∀ a b c, two a b c ↔ majority a b c = true := fun a b c => (majority_iff a b c).symm
  have received : ∀ f, receiveFrame f s = after f := fun f => receiveFrame_eq f s
  simp only [two_iff, exec_frameReceived samples, exec_frameStreamTimeout, exec_startIndication]
  refine ⟨fun content status length bits framing intact on inFrame => ?_, fun on inFrame => ?_,
    fun a b c on idle => ⟨fun h => if_pos ⟨on, idle, h⟩, fun h => if_neg fun ⟨_, _, h'⟩ => h h'⟩,
    fun idle => ?_, fun off => ?_, fun f g => rfl, fun u => ⟨fun h => ?_, fun h => ?_⟩⟩
  · have decided : decidedFrame bytes stops = ⟨content, status, false⟩ := by
      rw [decidedFrame, ← eq_decidedBytes length bits,
        frameStatus_eq (framing.trans stopsGood_eq_false.symm) (by rw [stopsGood_iff]; exact intact)]
    rw [if_pos ⟨on, inFrame⟩, received, decided]
  · rw [if_pos ⟨on, inFrame⟩, received]
  · simp [idle]
  · simp [off]
  · rw [countNoise_eq, if_neg h]
  · rw [countNoise_eq, if_pos h]

end Receiver

end Sys2Proof.Machine


namespace Sys2Proof.Machine

/-! ## The end of an attempt (R62, R64 to R68) -/

section Reading
variable {c hi lo kind n check : Byte} {content : List Byte}

/-! ### How a reply frame is read -/

/-- R62: the sender of a reply frame, by its class byte. -/
theorem frameSender_eq (ty c hi lo : Byte) (rest : List Byte) : frameSender (ty :: c :: hi :: lo :: rest) =
    if c = 1 then some (.tap, hi.toNat * 256 + lo.toNat)
    else if c = 2 then some (.station, hi.toNat * 256 + lo.toNat) else none := by
  unfold frameSender senderClass
  dsimp only
  by_cases tap : c = 1
  · rw [if_pos tap, if_pos tap]
  · by_cases station : c = 2
    · rw [if_neg tap, if_neg tap, if_pos station, if_pos station]
    · rw [if_neg tap, if_neg tap, if_neg station, if_neg station]

/-- Log 27: a byte past its list is a free value. -/
theorem replyBit_eq (past : Byte → Bool) (b : Byte) :
    replyBit past b = if b = 0 then false else if b = 1 then true else past b := by
  unfold replyBit
  by_cases zero : b = 0
  · subst zero; rfl
  · rw [if_neg zero]
    by_cases one : b = 1
    · subst one; rfl
    · have past2 : ¬ b.toNat < 2 := by bv_omega
      rw [if_neg past2, if_neg one]

/-- A frame of another type than 3 is of no kind (log 15). -/
theorem frameReply_other {ty : Byte} (h : ty ≠ 3) (rest : List Byte) :
    frameReply (ty :: c :: hi :: lo :: kind :: n :: rest) = none := by
  rw [frameReply, if_pos h]

/-- R177: the content of a reply frame stands before its check, and its kind says how it is read. -/
theorem frameReply_content (length : content.length = n.toNat) :
    frameReply (3 :: c :: hi :: lo :: kind :: n :: (content ++ [check])) =
      if kind = 1 then readTapStatus content
      else if kind = 2 then readStationStatus content
      else if kind = 3 then (if 1 ≤ content.length ∧ content.length ≤ 8 then some (.echo content) else none)
      else none := by
  have read : (content ++ [check]).take n.toNat = content := by rw [← length, List.take_left]
  simp only [frameReply, read, ne_eq, not_true_eq_false, if_false]

theorem readTapStatus_eq_none (h : content.length ≠ 6) : readTapStatus content = none := by
  unfold readTapStatus
  split
  · simp at h
  · rfl

theorem readStationStatus_eq_none (h : content.length ≠ 4) : readStationStatus content = none := by
  unfold readStationStatus
  split
  · simp at h
  · rfl

/-- R61, R65: the reply that each command expects. -/
theorem expects_iff (c : Command) (r : Reply) : c.expects r = true ↔
    ((∃ m x, c = .portSet m x) ∨ c = .portRead) ∧ (∃ m rev housing, r = .tapStatus m rev housing) ∨
    (c = .stationPoll ∧ ∃ report, r = .stationStatus report) ∨
    ∃ token, c = .echo token ∧ r = .echo token := by
  cases c with
  | portSet m x => cases r <;> simp [Command.expects]
  | portRead => cases r <;> simp [Command.expects]
  | stationPoll => cases r <;> simp [Command.expects]
  | mapLoad x => cases r <;> simp [Command.expects]
  | echo token =>
    cases r with
    | echo got => simp [Command.expects]
    | tapStatus m rev housing => simp [Command.expects]
    | stationStatus report => simp [Command.expects]

end Reading

section Attempt
variable {s u : State} {x : Txn}

/-! ### The events that end an attempt -/

theorem exec_transmitCompletion (ht : s.engine.txn = some x) (h : s.engine.state = .sending) :
    exec .transmitCompletion s = .next (transmitted x s) := by
  show execTransmitCompletion s = _
  rw [execTransmitCompletion, h, ht]

theorem exec_replyTake (ht : s.engine.txn = some x) (h : s.engine.state = .awaiting) {f : Frame} {rest : List Frame}
    (hb : s.engine.buffer = f :: rest) :
    exec .replyTake s = .next (judgeFrame x f { s with engine := { s.engine with buffer := rest } }) := by
  show execReplyTake s = _
  rw [execReplyTake, h, ht]
  show Host.Outcome.next (takeFrame x s) = _
  unfold takeFrame
  rw [hb]

theorem exec_replyWindowExpiry (ht : s.engine.txn = some x) (h : s.engine.state = .awaiting) {w : Nat}
    (hw : s.engine.window = some w) :
    exec .replyWindowExpiry s = .next (failAttempt x .noReply (passTime (w - s.now) s)) := by
  show execReplyWindowExpiry s = _
  rw [execReplyWindowExpiry, h, ht, hw]
  rfl

/-- R65: an INTACT frame from the selected unit, of the kind expected. -/
theorem judgeFrame_expected {f : Frame} {r : Reply} (intact : f.status = .intact)
    (sender : frameSender f.bytes = some (x.cls, x.addr)) (reply : frameReply f.bytes = some r)
    (expected : x.cmd.expects r = true) (u : State) : judgeFrame x f u = completeTxn x .done (some r) (closeAttempt u) := by
  simp [judgeFrame, intact, sender, judgeReply, reply, expected, succeedAttempt]

/-- R65: an INTACT frame from the selected unit, of another kind. -/
theorem judgeFrame_unexpected {f : Frame} (intact : f.status = .intact) (sender : frameSender f.bytes = some (x.cls, x.addr))
    (unexpected : ∀ r, frameReply f.bytes = some r → x.cmd.expects r = false) (u : State) :
    judgeFrame x f u = failAttempt x .faultyReply u := by
  cases reply : frameReply f.bytes with
  | none => simp [judgeFrame, intact, sender, judgeReply, reply]
  | some r => simp [judgeFrame, intact, sender, judgeReply, reply, unexpected r reply]

/-! ### What a closed attempt leaves -/

/-- R75: `n` frames counted add `n`, up to 65,535. -/
theorem countFrames_noise (n : Nat) (u : State) (h : u.engine.noiseCount ≤ 65535) :
    (countFrames n u).engine.noiseCount = min 65535 (u.engine.noiseCount + n) := by
  have counted : ∀ v : State, (countNoise v).engine.noiseCount = min 65535 (v.engine.noiseCount + 1) := fun v => by
    rw [countNoise_eq]
    split
    · rename_i eighth
      rw [engine_of_butTaps (butTaps_of_butAlarms (raiseAlarm_butAlarms _ _ _)), eighth]
    · rfl
  induction n generalizing u with
  | zero => exact (Nat.min_eq_right h).symm
  | succ n ih =>
    rw [countFrames, ih _ (by rw [counted]; exact Nat.min_le_left _ _), counted]
    omega

/-- R65, R66: the engine of a closed attempt, but for the noise. -/
theorem closeAttempt_engine (u : State) : { (closeAttempt u).engine with noiseCount := 0, noiseActive := false }
    = { u.engine with window := none, buffer := [], noiseCount := 0, noiseActive := false } :=
  (countFrames_engine u.engine.buffer.length { u with engine := { u.engine with window := none, buffer := [] } }).1

theorem closeAttempt_noise (h : u.engine.noiseCount ≤ 65535) :
    (closeAttempt u).engine.noiseCount = min 65535 (u.engine.noiseCount + u.engine.buffer.length) :=
  countFrames_noise u.engine.buffer.length { u with engine := { u.engine with window := none, buffer := [] } } h

theorem closeAttempt_carrierOn (u : State) : (closeAttempt u).engine.carrierOn = u.engine.carrierOn :=
  (congrArg Engine.carrierOn (closeAttempt_engine u) :)

/-- R67: a failed attempt is retried while attempts remain and the carrier is ON. -/
theorem failAttempt_eq (x : Txn) (f : Failure) (u : State) : failAttempt x f u =
    if u.engine.carrierOn = false then completeTxn x .carrierOff none (closeAttempt u)
    else if x.used < x.limit then beginAttempt { x with used := x.used + 1, lastFailure := some f } (closeAttempt u)
    else completeTxn x f.outcome none (closeAttempt u) := by
  simp [failAttempt, closeAttempt_carrierOn]

/-- Settles O39: the layout of a frame says how it is read, and the first case of R65 that applies what becomes of it. -/
theorem attemptsRunToTheirEnd : Obligations.AttemptsRunToTheirEnd := by
  unfold Obligations.AttemptsRunToTheirEnd
  refine ⟨⟨frameSender_eq, ?_, expects_iff⟩, fun s x ht =>
    ⟨exec_transmitCompletion ht, fun h f rest hb => ?_, fun h w => exec_replyWindowExpiry ht h,
      fun f u => ⟨fun off => ?_, fun on more => ?_, fun on last => ?_⟩, fun o r u => rfl, fun u h => ?_⟩⟩
  · intro ty c hi lo kind n check content length bit read
    have reads : ty = 3 → read = _ := fun h => by subst h; exact frameReply_content length
    refine ⟨fun h => frameReply_other h _, fun h k => ?_, fun h k => ?_, fun h k => ?_, fun k1 k2 k3 => ?_⟩
    · simp only [reads h, k, if_true]
      refine ⟨fun p1 p2 p3 p4 rev housing hc => ?_, readTapStatus_eq_none⟩
      rw [hc, readTapStatus, replyBit_eq]
    · simp only [reads h, k]
      refine ⟨fun supply door a b hc => ⟨replySupply supply, ?_, ?_, ?_, ?_⟩, readStationStatus_eq_none⟩
      · simp [hc, readStationStatus, replyBit_eq, bit]
      · rintro rfl; rfl
      · rintro rfl; rfl
      · rintro rfl; rfl
    · rw [reads h, k]; rfl
    · by_cases h : ty = 3
      · rw [reads h, if_neg k1, if_neg k2, if_neg k3]
      · exact frameReply_other h _
  · rw [exec_replyTake ht h hb]
    refine ⟨fun faulty => ?_, fun intact stray => ?_, fun intact sender =>
      ⟨fun r reply expected => ?_, fun unexpected => ?_⟩⟩
    · rw [judgeFrame, if_pos faulty]
    · rw [judgeFrame, if_neg (not_not.2 intact), if_pos stray]
    · rw [judgeFrame_expected intact sender reply expected]
    · rw [judgeFrame_unexpected intact sender unexpected]
  · rw [failAttempt_eq, if_pos off]
  · rw [failAttempt_eq, if_neg (by simp [on]), if_pos more]
  · rw [failAttempt_eq, if_neg (by simp [on]), if_neg (by omega)]
  · have engine := closeAttempt_engine u
    exact ⟨(congrArg Engine.window engine :), (congrArg Engine.buffer engine :), closeAttempt_noise h,
      (congrArg Engine.txn engine :)⟩

end Attempt

end Sys2Proof.Machine


namespace Sys2Proof.Machine

/-! ## The minute tick (R75, R140, R142, R143) -/

/-! ### The alarm list holds a condition once (R130) -/

/-- The condition that a record tells of. -/
def AlarmRecord.condition (r : AlarmRecord) : AlarmKind × Nat := (r.kind, r.object)

/-- R130: no two records are of one kind and object. -/
def ListedOnce (s : State) : Prop := (s.alarms.records.map AlarmRecord.condition).Nodup

section Listed
variable {s t u : State} {r x : AlarmRecord} {k : AlarmKind} {o : Nat}

theorem AlarmsSound.listedOnce (h : AlarmsSound s) : ListedOnce s := by
  obtain ⟨-, once, -⟩ := h
  exact once

theorem condition_replaceRecord (r : AlarmRecord) (l : List AlarmRecord) :
    (replaceRecord r l).map AlarmRecord.condition = l.map AlarmRecord.condition := by
  induction l with
  | nil => rfl
  | cons x l ih =>
    unfold replaceRecord
    split
    · rename_i same
      simp [AlarmRecord.condition, same]
    · simp [ih]

theorem mem_replaceRecord {l : List AlarmRecord} (h : r.condition ∈ l.map AlarmRecord.condition) : r ∈ replaceRecord r l := by
  induction l with
  | nil => simp at h
  | cons x l ih =>
    unfold replaceRecord
    split
    · simp
    · rename_i other
      refine List.mem_cons_of_mem _ (ih ?_)
      rcases List.mem_cons.1 h with h | h
      · obtain ⟨kind, object⟩ := Prod.mk.inj h
        exact absurd ⟨kind.symm, object.symm⟩ other
      · exact h

theorem dropRecord_sublist (k : AlarmKind) (o : Nat) (l : List AlarmRecord) : (dropRecord k o l).Sublist l := by
  induction l with
  | nil => exact .refl _
  | cons x l ih =>
    unfold dropRecord
    split
    · exact List.sublist_cons_self _ _
    · exact ih.cons_cons _

theorem evictCleared_sublist (l : List AlarmRecord) : (evictCleared l).Sublist l := by
  induction l with
  | nil => exact .refl _
  | cons x l ih =>
    unfold evictCleared
    split
    · exact List.sublist_cons_self _ _
    · exact ih.cons_cons _

theorem alarm_eq_some (h : s.alarm k o = some r) : r ∈ s.alarms.records ∧ r.condition = (k, o) := by
  have found := List.find?_some h
  simp only [Bool.and_eq_true, decide_eq_true_eq] at found
  exact ⟨List.mem_of_find?_eq_some h, Prod.ext found.1 found.2⟩

theorem alarm_eq_none (h : s.alarm k o = none) : (k, o) ∉ s.alarms.records.map AlarmRecord.condition := by
  intro hm
  obtain ⟨r, hr, condition⟩ := List.mem_map.1 hm
  obtain ⟨kind, object⟩ := Prod.mk.inj condition
  have := List.find?_eq_none.1 h r hr
  simp [kind, object] at this

theorem noticeTo_alarms (a : MasterSet) (b : Byte) (body : List Byte) (s : State) :
    (noticeTo a b body s).alarms = s.alarms :=
  show (noticeTo a b body s).butPorts.alarms = _ from noticeTo_butPorts a b body s ▸ rfl

/-- R132: the list of a record cleared: it stands in its place, or has been retired from it. -/
theorem clearRecord_records (r : AlarmRecord) (s : State) : (clearRecord r s).alarms.records.Sublist
    (replaceRecord { r with state := .cleared, cleared := some s.billing.clock } s.alarms.records) := by
  unfold clearRecord retire
  extract_lets r'
  have told := noticeTo_alarms r'.audience AlarmNotice.cleared.byte r'.noticeBody
    (setRecords (replaceRecord r' s.alarms.records) s)
  have stands : (alarmNotice .cleared r' (setRecords (replaceRecord r' s.alarms.records) s)).alarms.records.Sublist
      (replaceRecord r' s.alarms.records) := by
    rw [alarmNotice, told]
    exact .refl _
  split
  · exact (dropRecord_sublist _ _ _).trans stands
  · exact stands

theorem ListedOnce.endAlarm (h : ListedOnce s) (k : AlarmKind) (o : Nat) : ListedOnce (endAlarm k o s) := by
  unfold Machine.endAlarm
  split
  · split
    · rename_i r _ _
      refine List.Nodup.sublist ((clearRecord_records r s).map _) ?_
      rw [condition_replaceRecord]
      exact h
    · exact h
  · exact h

/-- R132: a condition posted as ended has no ACTIVE record. -/
theorem endAlarm_cleared (h : ListedOnce s) (hx : (endAlarm k o s).alarm k o = some x) : x.state = .cleared := by
  unfold endAlarm at hx
  split at hx
  · rename_i r hr
    obtain ⟨listed, condition⟩ := alarm_eq_some hr
    split at hx
    · set r' : AlarmRecord := { r with state := .cleared, cleared := some s.billing.clock } with hr'
      obtain ⟨found, same⟩ := alarm_eq_some hx
      have stands : r' ∈ replaceRecord r' s.alarms.records :=
        mem_replaceRecord (List.mem_map.2 ⟨r, listed, rfl⟩)
      have once : ((replaceRecord r' s.alarms.records).map AlarmRecord.condition).Nodup := by
        rw [condition_replaceRecord]; exact h
      have : x = r' := List.inj_on_of_nodup_map once ((clearRecord_records r s).subset found) stands
        (same.trans condition.symm)
      rw [this]
    · rename_i inactive
      obtain rfl : r = x := Option.some.inj (hr.symm.trans hx)
      cases state : r.state with
      | active => exact absurd state inactive
      | cleared => rfl
  · rename_i none
    exact absurd (none.symm.trans hx) (by simp)

theorem appendRecord_listedOnce {l : List AlarmRecord} (h : (l.map AlarmRecord.condition).Nodup)
    (new : (k, o) ∉ l.map AlarmRecord.condition) : ListedOnce (appendRecord k o l s) := by
  unfold appendRecord
  extract_lets n r
  unfold ListedOnce alarmNotice
  rw [noticeTo_alarms]
  simp only [List.map_append, List.map_cons, List.map_nil]
  exact List.Nodup.append h (List.nodup_singleton _) (List.disjoint_singleton.2 new)

theorem ListedOnce.raiseAlarm (h : ListedOnce s) (k : AlarmKind) (o : Nat) : ListedOnce (raiseAlarm k o s) := by
  unfold Machine.raiseAlarm
  split
  · split
    · rename_i none
      have fresh := alarm_eq_none none
      unfold newRecord
      extract_lets l
      have evicted := (evictCleared_sublist l).map AlarmRecord.condition
      split
      · exact appendRecord_listedOnce h fresh
      · split
        · exact appendRecord_listedOnce (h.sublist evicted) fun hm => fresh (evicted.subset hm)
        · exact h
    · split
      · unfold reopenRecord
        extract_lets r'
        unfold ListedOnce alarmNotice
        rw [noticeTo_alarms]
        exact (condition_replaceRecord r' s.alarms.records).symm ▸ h
      · exact h
  · exact h

theorem ListedOnce.congr (h : ListedOnce s) (same : t.alarms = s.alarms) : ListedOnce t := by
  unfold ListedOnce
  rw [same]
  exact h

end Listed

end Sys2Proof.Machine


namespace Sys2Proof.Machine

section Tick
variable {s t u : State}

/-! ### What the events' evaluation leaves of the noise, the branch episodes and the list -/

/-- The noise of the minute, and the branches' episodes. -/
def State.noiseAndEpisodes (s : State) : Nat × Bool × Table Episode :=
  (s.engine.noiseCount, s.engine.noiseActive, s.branchEpisodes)

/-- An act that leaves the noise and the branches' episodes, and lists no condition twice. -/
structure TickKept (s t : State) : Prop where
  stands : t.noiseAndEpisodes = s.noiseAndEpisodes
  listed : ListedOnce s → ListedOnce t

theorem TickKept.refl (s : State) : TickKept s s := ⟨rfl, id⟩

theorem TickKept.trans (h : TickKept s t) (h' : TickKept t u) : TickKept s u :=
  ⟨h'.stands.trans h.stands, fun hs => h'.listed (h.listed hs)⟩

theorem TickKept.ite {c : Prop} [Decidable c] (h : TickKept s t) (h' : TickKept s u) :
    TickKept s (if c then t else u) := by split <;> assumption

/-- An act beside the noise, the branches' episodes and the list. -/
theorem TickKept.beside (stands : t.noiseAndEpisodes = s.noiseAndEpisodes) (alarms : t.alarms = s.alarms) :
    TickKept s t := ⟨stands, fun h => h.congr alarms⟩

theorem TickKept.of_butAlarms (h : t.butAlarms = s.butAlarms) (listed : ListedOnce s → ListedOnce t) : TickKept s t :=
  ⟨show t.butAlarms.noiseAndEpisodes = _ from h ▸ rfl, listed⟩

theorem forEach_tickKept (l : List Nat) {f : Nat → State → State} (h : ∀ n s, TickKept s (f n s)) (s : State) :
    TickKept s (forEach l f s) :=
  forEach_keeps (P := TickKept s) l f (fun n _ t ht => ht.trans (h n t)) s (.refl s)

theorem noticeTo_tickKept (a : MasterSet) (k : Byte) (b : List Byte) (s : State) : TickKept s (noticeTo a k b s) :=
  .of_butAlarms (butAlarms_of_butPorts (noticeTo_butPorts a k b s)) fun h => h.congr (noticeTo_alarms a k b s)

theorem postChange_tickKept (k : AlarmKind) (o : Nat) (b a : Bool) (s : State) : TickKept s (postChange k o b a s) := by
  refine .of_butAlarms (postChange_butAlarms k o b a s) fun h => ?_
  unfold postChange
  split
  · exact h.raiseAlarm k o
  · split
    · exact h.endAlarm k o
    · exact h

theorem setSync_tickKept (n : Nat) (v : SyncStatus) (s : State) : TickKept s (setSync n v s) :=
  (TickKept.beside (by rfl) (by rfl)).trans (postChange_tickKept _ _ _ _ _)

theorem entryTest_tickKept (n : Nat) (s : State) : TickKept s (entryTest n s) := by
  have enters : TickKept s (enterSync n s) := (TickKept.beside (by rfl) (by rfl)).trans (setSync_tickKept n .queued _)
  have leaves : TickKept s (leaveSync n s) := (TickKept.beside (by rfl) (by rfl)).trans (setSync_tickKept n .inStep _)
  unfold entryTest
  extract_lets r
  refine .ite ?_ (.refl s)
  split
  · exact .ite enters (.refl s)
  · exact .ite (.refl s) leaves
  · exact .refl s
  · exact .refl s
  · exact .ite enters (.refl s)

theorem entryTestOf_tickKept (o : Option Nat) (s : State) : TickKept s (entryTestOf o s) := by
  cases o with
  | none => exact .refl s
  | some n => exact entryTest_tickKept n s

theorem grantTo_tickKept (r : Requester) (s : State) : TickKept s (grantTo r s) := by
  have polled : ∀ b u, TickKept u (markPolled b u) := fun b u => by
    unfold markPolled
    extract_lets w
    split <;> exact .beside rfl rfl
  have taken : ∀ r c a x u, TickKept u (takeTransaction r c a x u) := fun _ _ _ _ _ => .beside rfl rfl
  cases r with
  | broadcast => exact .beside rfl rfl
  | technician =>
    show TickKept s (grantTechnician s)
    unfold grantTechnician
    split
    · exact .beside rfl rfl
    · exact .refl s
  | sync =>
    show TickKept s (grantSync s)
    unfold grantSync
    split
    · exact (TickKept.beside (by rfl) (by rfl)).trans ((setSync_tickKept _ _ _).trans (taken _ _ _ _ _))
    · exact .refl s
  | survey =>
    show TickKept s (grantSurvey s)
    unfold grantSurvey
    split
    · exact (polled _ s).trans (taken _ _ _ _ _)
    · split
      · exact .beside rfl rfl
      · exact .refl s

theorem arbitrate_tickKept (s : State) : TickKept s (arbitrate s) := by
  unfold arbitrate
  refine .ite ?_ (.refl s)
  split
  · exact (TickKept.beside (by rfl) (by rfl)).trans (grantTo_tickKept _ _)
  · exact .refl s

theorem announceEvent_tickKept (e : Nat) (o : EventState) (s : State) : TickKept s (announceEvent arbitrate e o s) := by
  have tested : TickKept s (testBuyers e s) := forEach_tickKept _ (fun _ _ => entryTestOf_tickKept _ _) s
  have tiers : ∀ u, TickKept u (decideTiers u) := forEach_tickKept _ fun _ _ => .beside rfl rfl
  have told : ∀ u, TickKept u (eventNotice e o u) := fun u => noticeTo_tickKept _ _ _ u
  exact ((tested.trans (arbitrate_tickKept _)).trans (tiers _)).trans (told _)

theorem startEvent_tickKept (e : Nat) (s : State) : TickKept s (startEvent arbitrate e s) :=
  (TickKept.beside (by rfl) (by rfl)).trans (announceEvent_tickKept e _ (setEventState e .showing s))

theorem endEvent_tickKept (e : Nat) (s : State) : TickKept s (endEvent arbitrate e s) := by
  have written : ∀ n v u, TickKept u (u.setSub n v) := fun _ _ _ => .beside rfl rfl
  have mapped : ∀ g u, TickKept u (mapPurchases e g u) := fun g u => forEach_tickKept _ (fun _ _ => written _ _ _) u
  exact ((TickKept.beside (by rfl) (by rfl)).trans (mapped _ (setEventState e .ended s))).trans
    (announceEvent_tickKept e _ _)

theorem evaluateEvents_tickKept (m : Nat) (s : State) : TickKept s (evaluateEvents arbitrate m s) := by
  have shown : TickKept s (endShowing arbitrate m s) := by
    unfold endShowing
    split
    · exact .ite (endEvent_tickKept _ s) (.refl s)
    · exact .refl s
  have starts : ∀ e u, TickKept u (takeStart arbitrate m e u) := fun e u =>
    .ite ((startEvent_tickKept e u).trans (endEvent_tickKept e _)) (startEvent_tickKept e u)
  exact shown.trans (forEach_tickKept _ starts _)

/-! ### The sweep (R142, R143) -/

/-- Every field but the alarm list and those that the start of a sweep writes. -/
def State.besideSweep (s : State) : State :=
  { s.butAlarms with
    branchEpisodes := [], tierEpisodes := [], events := []
    billing := { State.reset.billing with
      clock := s.billing.clock, minuteTimer := s.billing.minuteTimer, cycle := s.billing.cycle
      tc := s.billing.tc, rates := s.billing.rates } }

theorem besideSweep_of_butAlarms (h : t.butAlarms = s.butAlarms) : t.besideSweep = s.besideSweep :=
  show t.butAlarms.besideSweep = _ from h ▸ rfl

/-- R143: a sweep that starts counts its minute. -/
def State.swept (s : State) : State :=
  { countShown s.sweepEvent (ageEpisodes s) with
    billing := { s.billing with m := s.billing.m + 1, sweep := some ⟨1, s.sweepEvent⟩ } }

/-- R142: a sweep is counted clean, and the sixtieth in a row ends the overrun. -/
def State.countedClean (s : State) : State :=
  { s with billing := { s.billing with
    clean := min 60 (s.billing.clean + 1)
    overrun := s.billing.overrun && decide (min 60 (s.billing.clean + 1) ≠ 60) } }

theorem countCleanSweep_butAlarms (s : State) : (countCleanSweep s).butAlarms = s.countedClean.butAlarms := by
  unfold countCleanSweep State.countedClean
  extract_lets n _ b
  split
  · rename_i sixtieth
    obtain ⟨sixty, -⟩ := sixtieth
    have ended : (s.billing.overrun && decide (min 60 (s.billing.clean + 1) ≠ 60)) = false := by
      rw [show min 60 (s.billing.clean + 1) = 60 from sixty]
      simp
    rw [endAlarm_butAlarms, ended]
  · rename_i other
    have stands : (s.billing.overrun && decide (min 60 (s.billing.clean + 1) ≠ 60)) = s.billing.overrun := by
      cases overrun : s.billing.overrun with
      | false => rfl
      | true => exact (Bool.true_and _).trans (decide_eq_true fun sixty => other ⟨sixty, overrun⟩)
    rw [stands]

/-- R143: with no sweep in flight and M below 65,535 a sweep starts. -/
theorem tickSweep_starts (idle : s.billing.sweep = none) (hm : s.billing.m < 65535) :
    (tickSweep s).butAlarms = s.swept.butAlarms := by
  have billing : (countShown s.sweepEvent (ageEpisodes s)).billing = s.billing := by
    cases s.sweepEvent <;> rfl
  unfold tickSweep
  rw [idle]
  show (startSweep s).butAlarms = _
  rw [startSweep, if_pos hm]
  unfold beginSweep
  extract_lets e s1 _ s2
  have counted : s2 = s.swept := by
    show ({ s1 with billing := { s1.billing with m := s1.billing.m + 1, sweep := some ⟨1, e⟩ } } : State) = _
    rw [show s1.billing = s.billing from billing]
    rfl
  split
  · rw [raiseAlarm_butAlarms, counted]
  · rw [counted]

/-- R143: at M 65,535 the sweep is skipped. -/
theorem tickSweep_skips (idle : s.billing.sweep = none) (hm : 65535 ≤ s.billing.m) : (tickSweep s).butAlarms
    = ({ s with billing := { s.billing with halted := true } } : State).countedClean.butAlarms := by
  unfold tickSweep
  rw [idle]
  show (startSweep s).butAlarms = _
  rw [startSweep, if_neg (by omega), countCleanSweep_butAlarms]

/-- R142: with a sweep in flight the tick becomes pending. -/
theorem tickSweep_waits (inFlight : s.billing.sweep.isSome = true) (h : s.billing.tickPending = false) :
    tickSweep s = { s with billing := { s.billing with tickPending := true } } := by
  obtain ⟨w, hw⟩ := Option.isSome_iff_exists.1 inFlight
  unfold tickSweep
  rw [hw, h]

/-- R142: with a tick pending the tick is lost. -/
theorem tickSweep_loses (inFlight : s.billing.sweep.isSome = true) (h : s.billing.tickPending = true) :
    (tickSweep s).butAlarms
      = ({ s with billing := { s.billing with clean := 0, overrun := true } } : State).butAlarms := by
  obtain ⟨w, hw⟩ := Option.isSome_iff_exists.1 inFlight
  unfold tickSweep
  rw [hw, h]
  exact raiseAlarm_butAlarms .accrualOverrun 0 _

theorem swept_besideSweep (s : State) : s.swept.besideSweep = s.besideSweep := by
  unfold State.swept
  cases s.sweepEvent <;> rfl

theorem tickSweep_besideSweep (s : State) : (tickSweep s).besideSweep = s.besideSweep := by
  cases sweep : s.billing.sweep with
  | none =>
    rcases Nat.lt_or_ge s.billing.m 65535 with hm | hm
    · exact (besideSweep_of_butAlarms (tickSweep_starts sweep hm)).trans (swept_besideSweep s)
    · exact (besideSweep_of_butAlarms (tickSweep_skips sweep hm)).trans rfl
  | some w =>
    have inFlight : s.billing.sweep.isSome = true := by simp [sweep]
    cases pending : s.billing.tickPending with
    | false => rw [tickSweep_waits inFlight pending]; rfl
    | true => exact (besideSweep_of_butAlarms (tickSweep_loses inFlight pending)).trans rfl

theorem tickSweep_listedOnce (h : ListedOnce s) : ListedOnce (tickSweep s) := by
  have shown : ∀ e u, (countShown e u).alarms = u.alarms := fun e u => by cases e <;> rfl
  have clean : ∀ u, ListedOnce u → ListedOnce (countCleanSweep u) := fun u hu => by
    unfold countCleanSweep
    extract_lets n _ b
    have ended : ListedOnce { u with billing := { b with overrun := false } } := hu.congr rfl
    split
    · exact ended.endAlarm _ _
    · exact hu.congr rfl
  have begins : ListedOnce (beginSweep s) := by
    unfold beginSweep
    extract_lets e s1 _ s2
    have h2 : ListedOnce s2 := h.congr (shown e (ageEpisodes s))
    split
    · exact h2.raiseAlarm _ _
    · exact h2
  have lost : ListedOnce { s with billing := { s.billing with clean := 0, overrun := true } } := h.congr rfl
  unfold tickSweep
  split
  · unfold startSweep
    split
    · exact begins
    · exact clean _ (h.congr rfl)
  · exact h.congr rfl
  · exact lost.raiseAlarm _ _

/-! ### The noise minute (R75) -/

/-- R75: a quiet minute ends the noise condition, and any minute starts its count anew. -/
def State.noiseClosed (s : State) : State :=
  { s with engine := { s.engine with
    noiseCount := 0, noiseActive := s.engine.noiseActive && decide (s.engine.noiseCount ≠ 0) } }

theorem closeNoiseMinute_butAlarms (s : State) : (closeNoiseMinute s).butAlarms = s.noiseClosed.butAlarms := by
  unfold closeNoiseMinute State.noiseClosed
  extract_lets quiet _ e
  split
  · rename_i ended
    obtain ⟨zero, -⟩ : s.engine.noiseCount = 0 ∧ s.engine.noiseActive = true := by simpa [quiet] using ended
    have ends : (s.engine.noiseActive && decide (s.engine.noiseCount ≠ 0)) = false := by simp [zero]
    rw [endAlarm_butAlarms, ends]
  · rename_i loud
    have stands : (s.engine.noiseActive && decide (s.engine.noiseCount ≠ 0)) = s.engine.noiseActive := by
      cases active : s.engine.noiseActive with
      | false => rfl
      | true => simpa [quiet, active] using loud
    rw [stands]

/-- R75: the record of a noise condition that ends is cleared. -/
theorem closeNoiseMinute_cleared (h : ListedOnce s) (active : s.engine.noiseActive = true)
    (zero : s.engine.noiseCount = 0) {x : AlarmRecord} (hx : (closeNoiseMinute s).alarm .returnNoise 0 = some x) :
    x.state = .cleared := by
  unfold closeNoiseMinute at hx
  simp only [active, zero, decide_true, Bool.and_self, if_true] at hx
  exact endAlarm_cleared (h.congr (t := { s with engine := { s.engine with noiseCount := 0, noiseActive := false } }) rfl) hx

/-! ### The event that a sweep counts (R143) -/

theorem showing_iff (h : TablesSound s) (e : Nat) :
    e ∈ tabWhere (fun _ r => decide (r.state = EventState.showing)) s.events ↔ (s.event e).state = .showing := by
  rw [mem_tabWhere h.events, decide_eq_true_eq]
  refine and_iff_right_of_imp fun showing cold => ?_
  rw [cold] at showing
  exact absurd showing (by decide)

theorem showingEvent_of_unique (h : TablesSound s) {e : Nat} (he : (s.event e).state = .showing)
    (alone : ∀ k, (s.event k).state = .showing → k = e) : s.showingEvent = some e :=
  (head_tabWhere h.events).2 ⟨(showing_iff h e).2 he, fun k hk => (alone k ((showing_iff h k).1 hk)).ge⟩

theorem showingEvent_of_none (h : TablesSound s) (none : ∀ k, (s.event k).state ≠ .showing) : s.showingEvent = Option.none :=
  List.head?_eq_none_iff.2 (List.eq_nil_iff_forall_not_mem.2 fun k hk => none k ((showing_iff h k).1 hk))

end Tick

end Sys2Proof.Machine


namespace Sys2Proof.Machine

section Minute
variable {s t u : State}

/-! ### The tick of a minute -/

/-- R140: the minute has passed, and the clock and the minute timer are written. -/
def State.minutePassed (clock : Nat) (s : State) : State :=
  { passTime (s.billing.minuteTimer - s.now) s with
    billing := { s.billing with clock := clock, minuteTimer := max s.now s.billing.minuteTimer + 60000 } }

/-- R152: the state of a minute tick when its events have been evaluated. -/
def State.minuteBegun (clock : Nat) (s : State) : State := evaluateEvents arbitrate clock (s.minutePassed clock)

theorem minuteAfter_eq (n : Nat) : minuteAfter n = if n < 4294967295 then n + 1 else 0 := by
  unfold minuteAfter
  by_cases h : n < 4294967295
  · rw [if_pos h, if_neg (Nat.not_le.2 h)]
  · rw [if_neg h, if_pos (Nat.not_lt.1 h)]

/-- R140, R75: the events, then the sweep, then the noise minute. -/
theorem exec_minuteTick (s : State) : exec .minuteTick s
    = .next (closeNoiseMinute (tickSweep (s.minuteBegun (minuteAfter s.billing.clock)))) := by
  have now : (passTime (s.billing.minuteTimer - s.now) s).now = max s.now s.billing.minuteTimer := advanceTo_now _ s
  show Host.Outcome.next (takeTick (passTime (s.billing.minuteTimer - s.now) s)) = _
  rw [takeTick, State.minuteBegun, State.minutePassed, passTime_billing, now]
  rfl

/-- What an evaluation of the events leaves. -/
theorem minuteBegun_besides (c : Nat) (s : State) : (s.minuteBegun c).butEvents = (s.minutePassed c).butEvents :=
  evaluateEvents_butEvents arbitrate arbitrate_butGrant _ _

theorem minuteBegun_billing (c : Nat) (s : State) : (s.minuteBegun c).billing =
    { s.billing with clock := c, minuteTimer := max s.now s.billing.minuteTimer + 60000 } := by
  have shown : ∀ u : State, u.butEvents.billing = u.billing := fun _ => rfl
  rw [← shown, minuteBegun_besides, shown]
  rfl

theorem minuteBegun_tickKept (c : Nat) (s : State) : TickKept s (s.minuteBegun c) := by
  have passed : TickKept s (s.minutePassed c) :=
    .beside (by simp [State.noiseAndEpisodes, State.minutePassed]) (by simp [State.minutePassed])
  exact passed.trans (evaluateEvents_tickKept c _)

theorem minuteBegun_tables (c : Nat) (h : TablesSound s) : TablesSound (s.minuteBegun c) := by
  have passed : HeadKept s (s.minutePassed c) := .of_records (by simp [State.records, State.minutePassed])
  exact (passed.trans (evaluateEvents_kept arbitrate_kept c _)).tables h

/-- What a minute tick leaves: every field but those of the events' evaluation, the billing and the time. -/
def State.besideMinute (s : State) : State :=
  { s.butEvents with billing := State.reset.billing, now := 0, freeIdx := 0 }

theorem besideMinute_of_butEvents (h : t.butEvents = s.butEvents) : t.besideMinute = s.besideMinute :=
  show t.butEvents.besideMinute = _ from h ▸ rfl

theorem besideMinute_of_besideSweep (h : t.besideSweep = s.besideSweep) : t.besideMinute = s.besideMinute :=
  show t.besideSweep.besideMinute = _ from h ▸ rfl

/-- The line-up, the power, the branches' inputs and the settings stay. -/
theorem minute_besideMinute (c : Nat) (s : State) :
    (closeNoiseMinute (tickSweep (s.minuteBegun c))).besideMinute = s.besideMinute := by
  have noise : ∀ u, (closeNoiseMinute u).besideMinute = u.besideMinute := fun u =>
    show (closeNoiseMinute u).butAlarms.besideMinute = _ from closeNoiseMinute_butAlarms u ▸ rfl
  have passed : ∀ d, (passTime d s).besideMinute = s.besideMinute := fun d => by
    unfold passTime
    split <;> [split; skip] <;> rfl
  rw [noise, besideMinute_of_besideSweep (tickSweep_besideSweep _), besideMinute_of_butEvents (minuteBegun_besides c s)]
  exact passed _

/-- The fields of the engine and the billing that a sweep leaves. -/
theorem fields_of_besideSweep (h : t.besideSweep = s.besideSweep) : t.engine = s.engine ∧
    t.billing.clock = s.billing.clock ∧ t.billing.minuteTimer = s.billing.minuteTimer ∧
    t.billing.cycle = s.billing.cycle ∧ t.billing.tc = s.billing.tc ∧ t.billing.rates = s.billing.rates :=
  ⟨show t.besideSweep.engine = _ from h ▸ rfl, show t.besideSweep.billing.clock = _ from h ▸ rfl,
    show t.besideSweep.billing.minuteTimer = _ from h ▸ rfl, show t.besideSweep.billing.cycle = _ from h ▸ rfl,
    show t.besideSweep.billing.tc = _ from h ▸ rfl, show t.besideSweep.billing.rates = _ from h ▸ rfl⟩

/-- The fields of the billing, the episodes and the events. -/
theorem tables_of_butAlarms (h : t.butAlarms = s.butAlarms) : t.billing = s.billing ∧
    t.branchEpisodes = s.branchEpisodes ∧ t.tierEpisodes = s.tierEpisodes ∧ t.events = s.events :=
  ⟨show t.butAlarms.billing = _ from h ▸ rfl, show t.butAlarms.branchEpisodes = _ from h ▸ rfl,
    show t.butAlarms.tierEpisodes = _ from h ▸ rfl, show t.butAlarms.events = _ from h ▸ rfl⟩

/-- The close of the noise minute leaves the billing, the episodes and the events. -/
theorem closeNoiseMinute_tables (u : State) :
    (closeNoiseMinute u).billing = u.billing ∧ (closeNoiseMinute u).branchEpisodes = u.branchEpisodes ∧
      (closeNoiseMinute u).tierEpisodes = u.tierEpisodes ∧ (closeNoiseMinute u).events = u.events := by
  obtain ⟨billing, branches, tiers, events⟩ := tables_of_butAlarms (closeNoiseMinute_butAlarms u)
  exact ⟨billing, branches, tiers, events⟩

/-- R75: the noise of the minute when its sweep has been dealt with, and the branches' episodes before. -/
theorem minute_noise (c : Nat) (s : State) : (tickSweep (s.minuteBegun c)).engine = (s.minuteBegun c).engine ∧
    (s.minuteBegun c).engine.noiseCount = s.engine.noiseCount ∧
    (s.minuteBegun c).engine.noiseActive = s.engine.noiseActive ∧ (s.minuteBegun c).branchEpisodes = s.branchEpisodes := by
  obtain ⟨engine, -⟩ := fields_of_besideSweep (tickSweep_besideSweep (s.minuteBegun c))
  obtain ⟨count, rest⟩ := Prod.mk.inj (minuteBegun_tickKept c s).stands
  obtain ⟨active, episodes⟩ := Prod.mk.inj rest
  exact ⟨engine, count, active, episodes⟩

/-- R75: the engine of a minute tick is the one of the evaluation, with its noise minute closed. -/
theorem minute_engine (c : Nat) (s : State) : (closeNoiseMinute (tickSweep (s.minuteBegun c))).engine =
    { (s.minuteBegun c).engine with
      noiseCount := 0, noiseActive := s.engine.noiseActive && decide (s.engine.noiseCount ≠ 0) } := by
  have closed : ∀ u, (closeNoiseMinute u).engine = { u.engine with
      noiseCount := 0, noiseActive := u.engine.noiseActive && decide (u.engine.noiseCount ≠ 0) } := fun u =>
    engine_of_butTaps (butTaps_of_butAlarms (closeNoiseMinute_butAlarms u))
  obtain ⟨swept, count, active, -⟩ := minute_noise c s
  rw [closed, swept, count, active]

/-- R75: the record of a noise condition that ends in a quiet minute is cleared. -/
theorem minute_noiseCleared (c : Nat) (h : ListedOnce s) (active : s.engine.noiseActive = true)
    (zero : s.engine.noiseCount = 0) {x : AlarmRecord}
    (hx : (closeNoiseMinute (tickSweep (s.minuteBegun c))).alarm .returnNoise 0 = some x) : x.state = .cleared := by
  obtain ⟨swept, count, active', -⟩ := minute_noise c s
  exact closeNoiseMinute_cleared (tickSweep_listedOnce ((minuteBegun_tickKept c s).listed h))
    (swept ▸ active'.trans active) (swept ▸ count.trans zero) hx

/-- What the start of a sweep writes: M, the sweep, the ages of the open episodes and the minutes of its event. -/
theorem swept_fields (h : TablesSound s) : s.swept.billing = { s.billing with m := s.billing.m + 1, sweep := some ⟨1, s.sweepEvent⟩ } ∧
    (∀ b, s.swept.branchEpisode b = (s.branchEpisode b).aged) ∧ (∀ k, s.swept.tierEpisode k = (s.tierEpisode k).aged) ∧
    s.swept.events = (countShown s.sweepEvent s).events := by
  obtain ⟨-, -, -, -, -, -, -, -, branchEpisodes, tierEpisodes, -⟩ := id h
  have shown : ∀ e u, (countShown e u).branchEpisodes = u.branchEpisodes ∧ (countShown e u).tierEpisodes = u.tierEpisodes ∧
      (countShown e (ageEpisodes u)).events = (countShown e u).events := fun e u => by
    cases e <;> exact ⟨rfl, rfl, rfl⟩
  obtain ⟨branches, tiers, -⟩ := shown s.sweepEvent (ageEpisodes s)
  obtain ⟨-, -, events⟩ := shown s.sweepEvent s
  refine ⟨rfl, fun b => ?_, fun k => ?_, events⟩
  · show tabGet .cold (countShown s.sweepEvent (ageEpisodes s)).branchEpisodes b = _
    rw [branches]
    exact tabGet_tabMap (by rfl) branchEpisodes b
  · show tabGet .cold (countShown s.sweepEvent (ageEpisodes s)).tierEpisodes k = _
    rw [tiers]
    exact tabGet_tabMap (by rfl) tierEpisodes k

/-- R143: the SHOWING event whose D is below its duration is counted, and no other. -/
theorem countShown_showing (h : TablesSound s) {e : Nat} (he : (s.event e).state = .showing)
    (alone : ∀ k, (s.event k).state = .showing → k = e) :
    if (s.event e).shown < (s.event e).duration.getD 0 then
      s.sweepEvent = some e ∧
        (countShown s.sweepEvent s).event e = { s.event e with shown := (s.event e).shown + 1 } ∧
        ∀ k, k ≠ e → (countShown s.sweepEvent s).event k = s.event k
    else s.sweepEvent = none ∧ (countShown s.sweepEvent s).events = s.events := by
  have showing := showingEvent_of_unique h he alone
  split
  · rename_i short
    have counts : s.sweepEvent = some e := by rw [State.sweepEvent, showing]; exact if_pos short
    rw [counts]
    exact ⟨rfl, (event_setEvent h.events e e _).trans (if_pos rfl),
      fun k hk => (event_setEvent h.events e k _).trans (if_neg hk)⟩
  · rename_i full
    have counts : s.sweepEvent = none := by rw [State.sweepEvent, showing]; exact if_neg full
    rw [counts]
    exact ⟨rfl, rfl⟩

theorem countShown_none (h : TablesSound s) (none : ∀ k, (s.event k).state ≠ .showing) :
    s.sweepEvent = Option.none ∧ (countShown s.sweepEvent s).events = s.events := by
  have counts : s.sweepEvent = Option.none := by rw [State.sweepEvent, showingEvent_of_none h none]
  rw [counts]
  exact ⟨rfl, rfl⟩

/-- R143: the events and the sweep of a sweep that starts. -/
theorem tickSweep_started (h : TablesSound s) (idle : s.billing.sweep = none) (hm : s.billing.m < 65535) :
    (tickSweep s).billing.m = s.billing.m + 1 ∧ (tickSweep s).billing.sweep = some ⟨1, s.sweepEvent⟩ ∧
    (∀ b, (tickSweep s).branchEpisode b = (s.branchEpisode b).aged) ∧
    (∀ k, (tickSweep s).tierEpisode k = (s.tierEpisode k).aged) ∧
    (tickSweep s).events = (countShown s.sweepEvent s).events := by
  obtain ⟨billing, branches, tiers, events⟩ := tables_of_butAlarms (tickSweep_starts idle hm)
  obtain ⟨billing', branches', tiers', events'⟩ := swept_fields h
  refine ⟨by rw [billing, billing'], by rw [billing, billing'], fun b => ?_, fun k => ?_, events.trans events'⟩
  · rw [State.branchEpisode, branches]; exact branches' b
  · rw [State.tierEpisode, tiers]; exact tiers' k

/-- Settles O47: the events are evaluated, then the sweep is begun, put off, lost or skipped, then the noise minute closes. -/
theorem minuteTickCountsTheMinute : Obligations.MinuteTickCountsTheMinute := by
  unfold Obligations.MinuteTickCountsTheMinute
  intro s hs
  rw [← minuteAfter_eq]
  have run := exec_minuteTick s
  generalize minuteAfter s.billing.clock = c at run ⊢
  intro clock u
  have begun : u = s.minuteBegun c := rfl
  clear_value u
  subst begun
  have engine := minute_engine c s
  have cleared := fun h => minute_noiseCleared (s := s) c (AlarmsSound.listedOnce h)
  have beside := minute_besideMinute c s
  have tables := minuteBegun_tables c hs
  have billing := minuteBegun_billing c s
  obtain ⟨-, -, -, branches⟩ := minute_noise c s
  generalize s.minuteBegun c = u at *
  obtain ⟨-, tClock, tTimer, tCycle, tTc, tRates⟩ := fields_of_besideSweep (tickSweep_besideSweep u)
  obtain ⟨closedBilling, closedBranches, closedTiers, closedEvents⟩ := closeNoiseMinute_tables (tickSweep u)
  have branchEpisode : ∀ b, (closeNoiseMinute (tickSweep u)).branchEpisode b = (tickSweep u).branchEpisode b :=
    fun b => by rw [State.branchEpisode, closedBranches]; rfl
  have tierEpisode : ∀ k, (closeNoiseMinute (tickSweep u)).tierEpisode k = (tickSweep u).tierEpisode k :=
    fun k => by rw [State.tierEpisode, closedTiers]; rfl
  have event : ∀ k, (closeNoiseMinute (tickSweep u)).event k = (tickSweep u).event k :=
    fun k => by rw [State.event, closedEvents]; rfl
  refine ⟨_, run, ?_, ?_, engine, fun h active zero x hx => cleared h active zero hx, ?_, ?_, ?_, ?_, fun idle hm => ?_,
    fun idle hm => ?_, fun inFlight => ?_⟩
  · rw [closedBilling, tClock, billing]
  · rw [closedBilling, tTimer, billing]
  · rw [closedBilling, tCycle, billing]
  · rw [closedBilling, tTc, billing]
  · rw [closedBilling, tRates, billing]
  · exact congrArg (fun v : State => ({ v with billing := s.billing, now := s.now, freeIdx := s.freeIdx } : State)) beside
  · obtain ⟨m, sweep, aged, agedTiers, events⟩ := tickSweep_started tables (by rw [billing, idle]) (by rw [billing]; exact hm)
    have mine : ∀ k, (tickSweep u).event k = (countShown u.sweepEvent u).event k := fun k => by
      rw [State.event, events]; rfl
    rw [closedBilling, closedEvents, m, sweep, billing]
    refine ⟨rfl, fun b => ?_, fun k => ?_, fun e he alone => ?_, fun none => ?_⟩
    · rw [branchEpisode, aged, State.branchEpisode, branches]; rfl
    · rw [tierEpisode, agedTiers]; rfl
    · have counted := countShown_showing tables he alone
      simp only [event, mine, events]
      split
      · rename_i short
        rw [if_pos short] at counted
        obtain ⟨sweepEvent, own, others⟩ := counted
        exact ⟨by rw [sweepEvent], own, others⟩
      · rename_i full
        rw [if_neg full] at counted
        obtain ⟨sweepEvent, same⟩ := counted
        exact ⟨by rw [sweepEvent], same⟩
    · obtain ⟨sweepEvent, same⟩ := countShown_none tables none
      exact ⟨by rw [sweepEvent], events.trans same⟩
  · obtain ⟨skipped, branches', tiers, events⟩ := tables_of_butAlarms
      (tickSweep_skips (s := u) (by rw [billing, idle]) (by rw [billing]; exact hm))
    rw [closedBilling, closedBranches, closedTiers, closedEvents, skipped, branches', tiers, events]
    simp only [State.countedClean, billing, idle, branches, and_self]
  · have inFlight' : u.billing.sweep.isSome = true := by rw [billing]; exact inFlight
    rw [closedBilling, closedBranches, closedTiers, closedEvents]
    cases pending : s.billing.tickPending with
    | false =>
      rw [tickSweep_waits inFlight' (by rw [billing]; exact pending)]
      simp [billing, branches]
    | true =>
      obtain ⟨lost, branches', tiers, events⟩ := tables_of_butAlarms
        (tickSweep_loses inFlight' (by rw [billing]; exact pending))
      rw [lost, branches', tiers, events]
      simp [billing, branches, pending]

end Minute

end Sys2Proof.Machine


namespace Sys2Proof.Machine

/-! ## The arbiter's decision (R82 to R84, R87) -/

section Arbiter
variable {s : State} {r : Requester} {l l' : List Requester}

theorem arbitrate_of_busy (h : ¬ (s.engine.state = .idle ∧ s.engine.carrierOn = true)) : arbitrate s = s := if_neg h

theorem arbitrate_of_none (h : s.chosen = none) : arbitrate s = s := by
  unfold arbitrate
  rw [h]
  exact ite_self s

theorem arbitrate_of_chosen (idle : s.engine.state = .idle) (on : s.engine.carrierOn = true) (h : s.chosen = some r) :
    arbitrate s = grantTo r { s with arbiter := s.arbiter.granted r } := by
  unfold arbitrate
  rw [if_pos ⟨idle, on⟩, h]

theorem chosen_of_first (order : s.arbiter.choiceOrder = l ++ r :: l') (hr : s.ready r = true)
    (hl : ∀ q ∈ l, s.ready q = false) : s.chosen = some r :=
  List.find?_eq_some_iff_append.2 ⟨hr, l, l', order, fun q hq => by rw [hl q hq]; rfl⟩

theorem chosen_of_none_ready (h : ∀ q, s.ready q = false) : s.chosen = none :=
  List.find?_eq_none.2 fun q _ => by rw [h q]; exact Bool.false_ne_true

theorem choiceOrder_fixed (h : s.arbiter.mode = .fixed) : s.arbiter.choiceOrder = fixedOrder := by
  rw [Arbiter.choiceOrder, h]

theorem choiceOrder_rotating (h : s.arbiter.mode = .rotating) : s.arbiter.choiceOrder = s.arbiter.order := by
  rw [Arbiter.choiceOrder, h]

/-- R83: in FIXED a grant leaves the arbiter. -/
theorem granted_fixed (h : s.arbiter.mode = .fixed) : s.arbiter.granted r = s.arbiter := by
  rw [Arbiter.granted, h]

/-- R84: in ROTATING the first ready requester moves to the end, past the others. -/
theorem granted_rotating (h : s.arbiter.mode = .rotating) (order : s.arbiter.order = l ++ r :: l') (hr : r ∉ l) :
    s.arbiter.granted r = { s.arbiter with order := l ++ l' ++ [r] } := by
  have moved : s.arbiter.order.erase r = l ++ l' := by rw [order, List.erase_append_right _ hr, List.erase_cons_head]
  unfold Arbiter.granted
  split
  · rename_i fixed
    exact absurd (h.symm.trans fixed) (by decide)
  · rw [moved]

/-- A requester that is ready stands behind none that is not. -/
theorem notMem_of_ready (hr : s.ready r = true) (hl : ∀ q ∈ l, s.ready q = false) : r ∉ l := fun h =>
  Bool.false_ne_true ((hl r h).symm.trans hr)

/-- R84: who stands behind the one that moves to the end moves one place forward. -/
theorem idxOf_moved {q : Requester} (hq : q ≠ r) (hl : q ∉ l) (order : q ∈ l ++ r :: l') :
    (l ++ l' ++ [r]).idxOf q + 1 = (l ++ r :: l').idxOf q := by
  have behind : q ∈ l' := by simpa [hq, hl] using order
  rw [List.append_assoc, List.idxOf_append_of_notMem hl, List.idxOf_append_of_notMem hl,
    List.idxOf_append_of_mem behind, List.idxOf_cons_ne _ hq.symm]
  rfl

/-- R87: SURVEY is granted in FIXED only where the three before it ask for nothing. -/
theorem survey_first_fixed (order : fixedOrder = l ++ .survey :: l') (hr : s.ready .survey = true)
    (hl : ∀ q ∈ l, s.ready q = false) : s.broadcast.wanted = false ∧ s.techQ.waiting = [] ∧ s.syncSet = [] := by
  have last : Requester.survey ∉ l := notMem_of_ready hr hl
  have place : fixedOrder.idxOf .survey = l.length := by
    rw [order, List.idxOf_append_of_notMem last, List.idxOf_cons_self, Nat.add_zero]
  have others : l = [.broadcast, .technician, .sync] :=
    (List.take_left' (place.symm : l.length = 3)).symm.trans (congrArg (List.take 3) order.symm)
  have before : ∀ q, q ≠ .survey → s.ready q = false := fun q hq => hl q (others ▸ by cases q <;> simp_all)
  have returns : s.engine.returnOn = true := (Bool.and_eq_true_iff.1 hr).1
  refine ⟨before .broadcast (by decide), ?_, ?_⟩
  · simpa [State.ready] using before .technician (by decide)
  · simpa [State.ready, returns] using before .sync (by decide)

/-- Settles O41: the first ready requester in the order of the mode is the one chosen, and a grant leaves the arbiter as the
choice has written it. -/
theorem arbiterGrantsByMode : Obligations.ArbiterGrantsByMode := by
  unfold Obligations.ArbiterGrantsByMode
  refine fun s => ⟨arbitrate_of_busy, fun idle on => ⟨fun mode l r l' order hr hl => ?_, fun mode l r l' order hr hl => ?_,
    fun h => arbitrate_of_none (chosen_of_none_ready h)⟩⟩
  · have granted : arbitrate s = grantTo r s := by
      rw [arbitrate_of_chosen idle on (chosen_of_first ((choiceOrder_fixed mode).trans order) hr hl), granted_fixed mode]
    refine ⟨granted, granted ▸ grantTo_arbiter r s, ?_⟩
    rintro rfl
    exact survey_first_fixed order hr hl
  · have granted : arbitrate s = grantTo r { s with arbiter := { s.arbiter with order := l ++ l' ++ [r] } } := by
      rw [arbitrate_of_chosen idle on (chosen_of_first ((choiceOrder_rotating mode).trans order) hr hl),
        granted_rotating mode order (notMem_of_ready hr hl)]
    refine ⟨granted, granted ▸ grantTo_arbiter r _, fun sound q hq ready => ?_⟩
    have listed : q ∈ s.arbiter.order := sound.mem_iff.2 (by cases q <;> decide)
    rw [order] at listed ⊢
    exact idxOf_moved hq (notMem_of_ready ready hl) listed

end Arbiter

/-! ## The technician's queries (R88, R89) -/

section Queries
variable {s : State} {m : Msg} {n : Nat}

theorem acceptQuery_eq (k : QueryKind) (n : Nat) (token : List Byte) (s : State) : acceptQuery k n token s =
    if s.techQ.waiting.length < 8 then
      (arbitrate (enqueueQuery k n token s), ⟨.accepted, u8 s.techQ.nextNumber ++ u8 (s.techQ.waiting.length + 1)⟩)
    else refused .full s := rfl

/-- R89: the query number after `n`, as the rule says it. -/
theorem queryAfter_eq (n : Nat) : queryAfter n = if n < 255 then n + 1 else 1 := by
  unfold queryAfter
  split <;> split <;> omega

/-- R89: a query whose address is checked against `hi` is OUT_OF_RANGE, FULL or ACCEPTED, in this order. -/
theorem Asks.queried {α : Type} {parse : List Byte → Option α} {block : Block α} {a : α} {j hi : Nat} {k : QueryKind}
    {token : List Byte} (h : Asks s .technician j m) (hp : parse m.body = some a)
    (hb : ∀ u, block a u = if within 1 hi n then acceptQuery k n token u else Machine.refused .outOfRange u) :
    Host.Outcome.next (Machine.takeRequest .technician j true parse block s) =
      if 1 ≤ n ∧ n ≤ hi then
        if s.techQ.waiting.length < 8 then (.next (putAnswer .technician m
          ⟨.accepted, u8 s.techQ.nextNumber ++ u8 (s.techQ.waiting.length + 1)⟩
          (arbitrate { dropHead .technician s with techQ := { s.techQ with
            waiting := s.techQ.waiting ++ [⟨s.techQ.nextNumber, k, n, token⟩]
            nextNumber := if s.techQ.nextNumber < 255 then s.techQ.nextNumber + 1 else 1 } })) : Result)
        else .next (afterAnswer .technician m (refuse .full) s)
      else .next (afterAnswer .technician m (refuse .outOfRange) s) := by
  have queue : (dropHead .technician s).techQ = s.techQ := dropHead_techQ _ _
  split
  · rename_i inRange
    have accepts : block a (dropHead .technician s) = acceptQuery k n token (dropHead .technician s) :=
      (hb _).trans (if_pos (within_true inRange))
    split
    · rename_i room
      refine h.answered hp (accepts.trans ((if_pos (queue ▸ room)).trans ?_))
      rw [← queryAfter_eq]
      rfl
    · rename_i full
      exact h.refused hp (accepts.trans (if_neg (queue ▸ full)))
  · rename_i outOfRange
    exact h.refused hp ((hb _).trans (if_neg (by rw [within_false outOfRange]; exact Bool.false_ne_true)))

/-- Settles O24: the three queries differ in their kind, their token and the range of their address alone. -/
theorem queriesAreQueued : Obligations.QueriesAreQueued := by
  unfold Obligations.QueriesAreQueued
  exact fun s m n => ⟨fun h hp => h.queried hp fun _ => rfl, fun token h hp => h.queried hp fun _ => rfl,
    fun h hp => h.queried hp fun _ => rfl⟩

end Queries

end Sys2Proof.Machine


namespace Sys2Proof.Machine

/-! ## What readiness is read from, and what a decision leaves (R80, R82, R98, R104)

`RestKept s t` says that an act leaves no requester waiting at a free engine, where none waited before it. An act keeps this
where it leaves what the arbiter decides from, where it takes work away, where it leaves the engine engaged, or where the
arbiter decides behind it. -/

section Readiness
variable {s t u : State}

/-- What the requesters' readiness and the arbiter's decision are read from. -/
def State.work (s : State) : State :=
  { State.reset with
    arbiter := s.arbiter, syncSet := s.syncSet, watches := s.watches, taps := s.taps
    engine := { State.reset.engine with
      state := s.engine.state, carrierOn := s.engine.carrierOn, returnOn := s.engine.returnOn }
    broadcast := { State.reset.broadcast with wanted := s.broadcast.wanted }
    techQ := { State.reset.techQ with waiting := s.techQ.waiting }
    survey := { State.reset.survey with stepDue := s.survey.stepDue } }

/-- What an act keeps of the arbiter. -/
structure RestKept (s t : State) : Prop where
  arbiter : ArbiterSound s → ArbiterSound t
  rests : ArbiterSound s → ArbiterRests s → ArbiterRests t

/-! ### Readiness -/

theorem isSome_earlierPoll (best : Option (Nat × Nat)) (b : Nat) (w : Watch) :
    (earlierPoll best b w).isSome = (best.isSome || w.dueTime.isSome) := by
  unfold earlierPoll
  split
  · rename_i none
    rw [none, Option.isSome_none, Bool.or_false]
  · rename_i due
    rw [due]
    rfl
  · split <;> rfl

theorem isSome_foldl_earlierPoll (l : List (Nat × Watch)) (best : Option (Nat × Nat)) :
    (l.foldl (fun best e => earlierPoll best e.1 e.2) best).isSome = (best.isSome || l.any fun e => e.2.dueTime.isSome) := by
  induction l generalizing best with
  | nil => exact (Bool.or_false _).symm
  | cons e l ih => rw [List.foldl_cons, ih, isSome_earlierPoll, List.any_cons, Bool.or_assoc]

/-- R98: a poll is chosen where one is due. -/
theorem isSome_choosePoll (s : State) : s.choosePoll.isSome = s.watches.any fun e => e.2.dueTime.isSome := by
  rw [State.choosePoll, Option.isSome_map, isSome_foldl_earlierPoll]
  rfl

theorem isEmpty_eligibleTaps (s : State) : s.eligibleTaps.isEmpty = !s.taps.any fun e => e.2.eligible := by
  rw [State.eligibleTaps, tabWhere, List.isEmpty_map, Bool.eq_iff_iff]
  simp

/-- R98, R104: SURVEY is ready while the return is ON and a poll is due, or an audit step is due and a tap eligible. -/
theorem ready_survey (s : State) : s.ready .survey = (s.engine.returnOn &&
    (s.watches.any (fun e => e.2.dueTime.isSome) || (s.survey.stepDue && s.taps.any fun e => e.2.eligible))) := by
  show s.surveyReady = _
  rw [State.surveyReady, isSome_choosePoll, State.auditOfferable, isEmpty_eligibleTaps, Bool.not_not]

/-- What a table lists after a write was listed before it, or is what was written. -/
theorem mem_of_mem_tabPut {α : Type} [DecidableEq α] {d v : α} {k : Nat} {l : Table α} {e : Nat × α}
    (h : e ∈ tabPut d l k v) : e ∈ l ∨ e = (k, v) := by
  induction l with
  | nil =>
    unfold tabPut at h
    split at h
    · cases h
    · exact .inr (List.mem_singleton.1 h)
  | cons x l ih =>
    unfold tabPut at h
    split at h <;> split at h
    · exact .inl h
    · exact (List.mem_cons.1 h).symm
    · split at h
      · exact .inl (List.mem_cons_of_mem x h)
      · exact (List.mem_cons.1 h).symm.imp_left (List.mem_cons_of_mem x)
    · rcases List.mem_cons.1 h with rfl | h
      · exact .inl (List.mem_cons_self ..)
      · exact (ih h).imp_left (List.mem_cons_of_mem x)

/-- A write of a record without a property brings no record with it. -/
theorem any_tabPut {α : Type} [DecidableEq α] {d v : α} {k : Nat} {l : Table α} {f : α → Bool} (hv : f v = false)
    (h : (tabPut d l k v).any (fun e => f e.2) = true) : l.any (fun e => f e.2) = true := by
  obtain ⟨e, he, hf⟩ := List.any_eq_true.1 h
  rcases mem_of_mem_tabPut he with he | rfl
  · exact List.any_eq_true.2 ⟨e, he, hf⟩
  · exact absurd (hv.symm.trans hf) Bool.false_ne_true

/-! ### The decision -/

/-- R86: a requester that is ready has a transaction for the engine. -/
theorem grantTo_engages {r : Requester} (h : s.ready r = true) : (grantTo r s).engine.state = .sending := by
  cases r with
  | broadcast => rfl
  | technician =>
    change (grantTechnician s).engine.state = _
    cases waiting : s.techQ.waiting with
    | nil => simp [State.ready, waiting] at h
    | cons q rest => rw [grantTechnician_eq waiting]; rfl
  | sync =>
    change (grantSync s).engine.state = _
    cases queued : s.syncSet with
    | nil => simp [State.ready, queued] at h
    | cons n rest => rw [grantSync_eq queued]; rfl
  | survey =>
    change (grantSurvey s).engine.state = _
    cases poll : s.choosePoll with
    | some b => rw [grantSurvey_poll poll]; rfl
    | none =>
      obtain ⟨n, audit⟩ : ∃ n, s.chooseAudit = some n := by
        have offerable : s.eligibleTaps ≠ [] := by
          change s.surveyReady = true at h
          simp only [State.surveyReady, State.auditOfferable, poll, Option.isSome_none, Bool.false_or, Bool.and_eq_true] at h
          simpa using h.2.2
        unfold State.chooseAudit
        split
        · exact ⟨_, rfl⟩
        · exact ⟨_, List.head?_eq_some_head offerable⟩
      rw [grantSurvey_audit poll audit]
      rfl

theorem mem_choiceOrder (h : ArbiterSound s) (r : Requester) : r ∈ s.arbiter.choiceOrder := by
  have fixed : r ∈ fixedOrder := by cases r <;> decide
  unfold Arbiter.choiceOrder
  split
  · exact fixed
  · exact h.mem_iff.2 fixed

/-- R82: behind a decision the engine is engaged, or no requester is ready. -/
theorem arbitrate_rests (h : ArbiterSound s) : ArbiterRests (arbitrate s) := by
  intro idle on r
  by_cases free : s.engine.state = .idle ∧ s.engine.carrierOn = true
  · cases chosen : s.chosen with
    | none =>
      rw [arbitrate_of_none chosen]
      exact Bool.eq_false_iff.2 (List.find?_eq_none.1 chosen r (mem_choiceOrder h r))
    | some q =>
      have ready : ({ s with arbiter := s.arbiter.granted q } : State).ready q = true := List.find?_some chosen
      rw [arbitrate_of_chosen free.1 free.2 chosen, grantTo_engages ready] at idle
      cases idle
  · rw [arbitrate_of_busy free] at idle on
    exact absurd ⟨idle, on⟩ free

/-! ### The relation -/

theorem RestKept.refl (s : State) : RestKept s s := ⟨id, fun _ => id⟩

theorem RestKept.trans (h : RestKept s t) (h' : RestKept t u) : RestKept s u :=
  ⟨fun hs => h'.arbiter (h.arbiter hs), fun hs hr => h'.rests (h.arbiter hs) (h.rests hs hr)⟩

theorem RestKept.ite {c : Prop} [Decidable c] (h : RestKept s t) (h' : RestKept s u) : RestKept s (if c then t else u) := by
  split <;> assumption

theorem forEach_rests (l : List Nat) {f : Nat → State → State} (h : ∀ n s, RestKept s (f n s)) (s : State) :
    RestKept s (forEach l f s) :=
  forEach_keeps (P := RestKept s) l f (fun n _ t ht => ht.trans (h n t)) s (.refl s)

/-- An act that leaves what the arbiter decides from. -/
theorem RestKept.of_work (h : t.work = s.work) : RestKept s t :=
  ⟨fun hs => show ArbiterSound t.work from h ▸ hs, fun _ hs => show ArbiterRests t.work from h ▸ hs⟩

theorem RestKept.of_butAlarms (h : t.butAlarms = s.butAlarms) : RestKept s t :=
  .of_work (show t.butAlarms.work = _ from h ▸ rfl)
theorem RestKept.of_butPorts (h : t.butPorts = s.butPorts) : RestKept s t := .of_butAlarms (butAlarms_of_butPorts h)
theorem RestKept.of_butBranches (h : t.butBranches = s.butBranches) : RestKept s t :=
  .of_work (show t.butBranches.work = _ from h ▸ rfl)
theorem RestKept.of_butSlots (h : t.butSlots = s.butSlots) : RestKept s t :=
  .of_work (show t.butSlots.work = _ from h ▸ rfl)

/-- R82: an act behind which the arbiter decides. -/
theorem RestKept.decided (h : ArbiterSound s → ArbiterSound t) : RestKept s (arbitrate t) :=
  ⟨fun hs => (arbitrate_held t).block.arbiter (h hs), fun hs _ => arbitrate_rests (h hs)⟩

theorem Held.decided (h : Held s t) : RestKept s (arbitrate t) := .decided h.block.arbiter

/-- An act that leaves the engine engaged, or the carrier OFF. -/
theorem RestKept.of_engaged (arbiter : t.arbiter = s.arbiter) (h : t.engine.state = .idle → t.engine.carrierOn = false) :
    RestKept s t :=
  ⟨fun hs => show t.arbiter.order.Perm _ from arbiter ▸ hs,
    fun _ _ idle on => absurd ((h idle).symm.trans on) Bool.false_ne_true⟩

/-- An act that makes no requester ready. -/
theorem RestKept.of_ready (arbiter : t.arbiter = s.arbiter) (state : t.engine.state = s.engine.state)
    (on : t.engine.carrierOn = s.engine.carrierOn) (h : ∀ r, t.ready r = true → s.ready r = true) : RestKept s t :=
  ⟨fun hs => show t.arbiter.order.Perm _ from arbiter ▸ hs, fun _ hs idle carrier r =>
    Bool.eq_false_iff.2 fun ready =>
      Bool.false_ne_true ((hs (state ▸ idle) (on ▸ carrier) r).symm.trans (h r ready))⟩

/-! ### Acts that take work away -/

/-- R98: a watch record that is written with no poll due. -/
theorem setWatch_rests {w : Watch} (hw : w.dueTime = none) (n : Nat) (s : State) : RestKept s (s.setWatch n w) := by
  refine .of_ready rfl rfl rfl fun r ready => ?_
  cases r with
  | broadcast | technician | sync => exact ready
  | survey =>
    simp only [ready_survey, Bool.and_eq_true, Bool.or_eq_true] at ready ⊢
    exact ready.imp_right (Or.imp_left (any_tabPut (f := fun w : Watch => w.dueTime.isSome) (by rw [hw]; rfl)))

/-- R46: a tap that leaves the sync set and the table. -/
theorem clearTap_rests (n : Nat) (s : State) :
    RestKept s (({ s with syncSet := s.syncSet.erase n } : State).setTap n .cold) := by
  refine .of_ready rfl rfl rfl fun r ready => ?_
  cases r with
  | broadcast | technician => exact ready
  | sync =>
    simp only [State.ready, Bool.and_eq_true, Bool.not_eq_true', List.isEmpty_eq_false_iff] at ready ⊢
    exact ready.imp_left fun queued empty => queued (show s.syncSet.erase n = [] by rw [empty]; rfl)
  | survey =>
    simp only [ready_survey, Bool.and_eq_true, Bool.or_eq_true] at ready ⊢
    exact ready.imp_right (Or.imp_right (And.imp_right (any_tabPut (f := Tap.eligible) rfl)))

/-- R77: the return goes OFF. -/
theorem returnOff_rests (s : State) : RestKept s (returnOff s) := by
  refine .ite (.of_ready rfl rfl rfl fun r ready => ?_) (.refl s)
  cases r with
  | broadcast | technician => exact ready
  | sync => simp [State.ready] at ready
  | survey => simp [ready_survey] at ready

end Readiness

end Sys2Proof.Machine


namespace Sys2Proof.Machine

/-! ## Every block leaves the arbiter at rest (R82) -/

section Acts
variable {s t u : State}

/-! ### Time, messages and alarms -/

theorem passTime_rests (d : Nat) (s : State) : RestKept s (passTime d s) :=
  .of_work (by unfold passTime; split <;> [split; skip] <;> rfl)

theorem setPort_rests (p : Master) (q : Port) (s : State) : RestKept s (s.setPort p q) := .of_butPorts (setPort_butPorts p q s)

theorem putAnswer_rests (p : Master) (m : Msg) (a : Ans) (s : State) : RestKept s (putAnswer p m a s) := setPort_rests _ _ s

theorem raiseAlarm_rests (k : AlarmKind) (o : Nat) (s : State) : RestKept s (raiseAlarm k o s) :=
  .of_butAlarms (raiseAlarm_butAlarms k o s)

theorem endAlarm_rests (k : AlarmKind) (o : Nat) (s : State) : RestKept s (endAlarm k o s) :=
  .of_butAlarms (endAlarm_butAlarms k o s)

theorem decideBranches_rests (s : State) : RestKept s (decideBranches s) := .of_butBranches (decideBranches_butBranches s)

theorem changeBranch_rests (n : Nat) (f : Branch → Branch) (s : State) : RestKept s (changeBranch n f s) :=
  .of_butBranches (changeBranch_butBranches n f s)

/-! ### The plant -/

/-- R100: the conditions of a station are posted to the alarm list and the correlator. -/
theorem postReport_rests (b : Nat) (old new : Option StationReport) (s : State) : RestKept s (postReport b old new s) := by
  have ends : ∀ k f u, RestKept u (endStation k f b old new u) := fun k f u => .ite (endAlarm_rests k b u) (.refl u)
  have raises : ∀ k f u, RestKept u (raiseStation k f b old new u) := fun k f u => .ite (raiseAlarm_rests k b u) (.refl u)
  unfold postReport
  extract_lets s1 s2 s3 s4 s5 s6
  have h3 : RestKept s s3 := (ends _ _ s).trans ((ends _ _ s1).trans (ends _ _ s2))
  have h6 : RestKept s s6 := h3.trans ((raises _ _ s3).trans ((raises _ _ s4).trans (raises _ _ s5)))
  exact .ite h6 (h6.trans (changeBranch_rests _ _ _))

/-- R97: the record of a branch that loses its station is UNWATCHED. -/
theorem stationLost_rests (n : Nat) (s : State) : RestKept s (stationLost n s) := by
  have silenced : ∀ u, RestKept u (postSilenceEnd n u) := fun u => (changeBranch_rests n _ u).trans (endAlarm_rests _ _ _)
  unfold stationLost
  extract_lets w _ s1 s2
  have h : RestKept s s2 := (setWatch_rests (by rfl) n s).trans (postReport_rests n _ _ _)
  exact .ite (h.trans (silenced _)) h

theorem removeBranch_rests (n : Nat) (s : State) : RestKept s (removeBranch n s) := by
  unfold removeBranch
  extract_lets old _ s1 s2
  have written : RestKept s s1 := .of_work rfl
  have posted : RestKept s1 (postStation n old.station false s1) := by
    unfold postStation
    rw [if_neg (by simp)]
    exact .ite (stationLost_rests n s1) (.refl s1)
  exact ((written.trans posted).trans (decideBranches_rests _)).trans (setWatch_rests (by rfl) n s2)

theorem removeTap_rests (n : Nat) (s : State) : RestKept s (removeTap n s) :=
  (clearTap_rests n s).trans (.of_butBranches (removeTap_butBranches n s))

/-! ### The events and the accrual engine -/

/-- R153: the arbiter decides where an event's change of state has been posted. -/
theorem announceEvent_rests (h : ArbiterSound u → ArbiterSound s) (e : Nat) (o : EventState) :
    RestKept u (announceEvent arbitrate e o s) :=
  have tested : Held s (testBuyers e s) := forEach_held _ (fun _ _ => entryTestOf_held _ _) s
  have decided : RestKept u (arbitrate (testBuyers e s)) := .decided fun hu => tested.block.arbiter (h hu)
  (decided.trans (.of_butSlots (decideTiers_butSlots _))).trans (.of_butPorts (noticeTo_butPorts _ _ _ _))

theorem startEvent_rests (e : Nat) (s : State) : RestKept s (startEvent arbitrate e s) :=
  announceEvent_rests (u := s) (s := setEventState e .showing s) id e _

theorem endEvent_rests (e : Nat) (s : State) : RestKept s (endEvent arbitrate e s) :=
  announceEvent_rests ((setEvent_held e _ s).trans (mapPurchases_held e _ _)).block.arbiter e _

theorem cancelShowing_rests (e : Nat) (s : State) : RestKept s (cancelShowing e s) :=
  announceEvent_rests ((setEvent_held e _ s).trans (mapPurchases_held e _ _)).block.arbiter e _

theorem cancelScheduled_rests (e : Nat) (s : State) : RestKept s (cancelScheduled e s) :=
  .trans (forEach_rests _ (fun n u => .of_work (t := removePurchase n e u) rfl) s)
    ((RestKept.of_work (by rfl)).trans (.of_butPorts (noticeTo_butPorts _ _ _ _)))

theorem evaluateEvents_rests (m : Nat) (s : State) : RestKept s (evaluateEvents arbitrate m s) := by
  have shown : RestKept s (endShowing arbitrate m s) := by
    unfold endShowing
    split
    · exact .ite (endEvent_rests _ s) (.refl s)
    · exact .refl s
  have starts : ∀ e u, RestKept u (takeStart arbitrate m e u) := fun e u =>
    .ite ((startEvent_rests e u).trans (endEvent_rests e _)) (startEvent_rests e u)
  exact shown.trans (forEach_rests _ starts _)

theorem tickSweep_rests (s : State) : RestKept s (tickSweep s) :=
  .of_work (show (tickSweep s).besideSweep.work = _ from tickSweep_besideSweep s ▸ rfl)

theorem countCleanSweep_rests (s : State) : RestKept s (countCleanSweep s) :=
  (RestKept.of_work (s := s) (t := s.countedClean) rfl).trans (.of_butAlarms (countCleanSweep_butAlarms s))

theorem startSweep_rests (s : State) : RestKept s (startSweep s) := by
  have begins : RestKept s (beginSweep s) := by
    unfold beginSweep
    extract_lets e s1 _ s2
    have h2 : RestKept s s2 := .of_work (by simp only [s2, s1]; cases e <;> rfl)
    exact .ite (h2.trans (raiseAlarm_rests _ _ _)) h2
  exact .ite begins ((RestKept.of_work (by rfl)).trans (countCleanSweep_rests _))

theorem closeNoiseMinute_rests (s : State) : RestKept s (closeNoiseMinute s) :=
  (RestKept.of_work (s := s) (t := s.noiseClosed) rfl).trans (.of_butAlarms (closeNoiseMinute_butAlarms s))

theorem takeTick_rests (s : State) : RestKept s (takeTick s) := by
  unfold takeTick
  extract_lets clock _ s1
  have passed : RestKept s s1 := .of_work rfl
  exact ((passed.trans (evaluateEvents_rests clock s1)).trans (tickSweep_rests _)).trans (closeNoiseMinute_rests _)

theorem closeCycle_rests (s : State) : RestKept s (closeCycle s).1 := by
  have reset : ∀ u, RestKept u (resetCycle u) := fun u => by
    unfold resetCycle
    extract_lets overdue held u1
    have written : RestKept u u1 := .of_work rfl
    exact .ite (written.trans (endAlarm_rests _ _ _)) written
  exact (RestKept.of_work (by rfl)).trans (reset { s with snapshot := some s.takeSnapshot })

theorem completeSweep_rests (s : State) : RestKept s (completeSweep s) := by
  have answers : ∀ a u, RestKept u (answerInProgress .office a u) := fun a u => by
    unfold answerInProgress
    split
    · exact (setPort_rests _ _ u).trans (putAnswer_rests _ _ _ _)
    · exact .refl u
  have closed : ∀ u, RestKept u (takeWaitingClose u) := fun u => .ite ((closeCycle_rests u).trans (answers _ _)) (.refl u)
  have pending : ∀ u, RestKept u (takePendingTick u) := fun u =>
    .ite ((RestKept.of_work (by rfl)).trans (startSweep_rests { u with billing := { u.billing with tickPending := false } })) (.refl u)
  have counted : RestKept s (countCleanSweep { s with billing := { s.billing with sweep := none } }) :=
    (RestKept.of_work (by rfl)).trans (countCleanSweep_rests _)
  exact counted.trans ((closed _).trans (pending _))

theorem sweepOne_rests (w : Sweep) (s : State) : RestKept s (sweepOne w s) := by
  unfold sweepOne
  extract_lets s1
  have visited : RestKept s s1 :=
    .of_work (show s1.butSubs.work = _ from visitRecord_butSubs w.shown w.cursor s ▸ rfl)
  clear_value s1
  exact .ite (visited.trans (completeSweep_rests s1)) (visited.trans (.of_work rfl))

/-! ### The control carrier -/

theorem countNoise_rests (s : State) : RestKept s (countNoise s) :=
  .ite ((RestKept.of_work (by rfl)).trans (raiseAlarm_rests .returnNoise 0 _)) (.of_work rfl)

theorem receiveFrame_rests (f : Frame) (s : State) : RestKept s (receiveFrame f s) := by
  rw [receiveFrame_eq]
  exact .ite (.of_work rfl) ((RestKept.of_work (by rfl)).trans (countNoise_rests _))

/-- R68: the arbiter decides behind the hand-over of a completion. -/
theorem completeTxn_rests (h : ArbiterSound u → ArbiterSound s) (x : Txn) (o : TxnOutcome) (r : Option Reply) :
    RestKept u (completeTxn x o r s) :=
  .decided fun hu => (handOver_blockKept _ s).arbiter (h hu)

/-- R67: an attempt that fails ends in another attempt or in the arbiter's decision. -/
theorem failAttempt_rests (h : ArbiterSound u → ArbiterSound s) (x : Txn) (f : Failure) : RestKept u (failAttempt x f s) := by
  have closed : ArbiterSound u → ArbiterSound (closeAttempt s) := fun hu => (closeAttempt_held s).block.arbiter (h hu)
  exact .ite (completeTxn_rests closed _ _ _) (.ite ⟨closed, fun _ _ idle => by cases idle⟩ (completeTxn_rests closed _ _ _))

theorem judgeFrame_rests (x : Txn) (f : Frame) (s : State) : RestKept s (judgeFrame x f s) := by
  have counted := (countNoise_rests s).arbiter
  have judged : RestKept s (judgeReply x f s) := by
    unfold judgeReply
    split
    · exact .ite (completeTxn_rests (closeAttempt_held s).block.arbiter _ _ _) (failAttempt_rests id _ _)
    · exact failAttempt_rests id _ _
  exact .ite (failAttempt_rests counted _ _) (.ite (.ite (failAttempt_rests counted _ _) (countNoise_rests s)) judged)

theorem takeFrame_rests (x : Txn) (s : State) : RestKept s (takeFrame x s) := by
  unfold takeFrame
  split
  · exact (RestKept.of_work (by rfl)).trans (judgeFrame_rests _ _ _)
  · exact .refl s

theorem transmitted_rests (x : Txn) (s : State) : RestKept s (transmitted x s) := by
  unfold transmitted
  split
  · exact completeTxn_rests id _ _ _
  · exact .of_engaged rfl fun awaiting => by cases awaiting

/-- R94: an act of the survey clock is followed by the arbiter's decision. -/
theorem atSurveyTime_rests (o : Option Nat) {f : State → State} (hf : ∀ u, Held u (f u)) (s : State) :
    RestKept s (atSurveyTime o f s) := by
  unfold atSurveyTime
  split
  · exact .ite ((passTime_held _ s).trans (hf _)).decided (.refl s)
  · exact .refl s

/-! ### The restarts -/

/-- R175: the arbiter's order starts anew, and it decides at the end of a warm restart. -/
theorem warmRestart_rests (b : Straps) (s : State) : RestKept s (warmRestart b s) := by
  have order : (restartedAll b s).arbiter.order = fixedOrder := by
    obtain ⟨-, -, -, -, -, -, arbiter, -⟩ := fields_of_blocks (restartedAll_blocks b s)
    rw [arbiter]
    rfl
  exact warmRestart_grant b s ▸ .decided fun _ => .of_eq order

/-- R176: a cold start leaves the carrier OFF. -/
theorem coldStart_rests (b : Straps) (s : State) : RestKept s (coldStart b s) := by
  have off : (coldStart b s).engine.carrierOn = false :=
    show (coldStart b s).butAlarms.engine.carrierOn = _ from coldStart_butAlarms b s ▸ rfl
  exact ⟨(coldStart_boundsKept b s).arbiter, fun _ _ _ on => absurd (off.symm.trans on) Bool.false_ne_true⟩

end Acts

end Sys2Proof.Machine


namespace Sys2Proof.Machine

/-! ## Every command leaves the arbiter at rest (R82) -/

section Requests
variable {s t : State}

/-! ### Requests -/

/-- A block that chooses by a check. -/
theorem RestKept.block_ite {c : Prop} [Decidable c] {x y : State × Ans} (h : RestKept s x.1) (h' : RestKept s y.1) :
    RestKept s (if c then x else y).1 := by split <;> assumption

/-- A block that refuses where a check fails. -/
theorem RestKept.guard {c : Prop} [Decidable c] {x : State × Ans} {a : AnswerCode} (h : RestKept s x.1) :
    RestKept s (if c then refused a s else x).1 := .block_ite (.refl s) h

/-- A block that acts and answers. -/
theorem RestKept.answered (h : RestKept s t) (content : State → List Byte) : RestKept s (answered content t).1 := h

/-- R48, R82: an act behind which the tap of a record is tested and the arbiter decides. -/
theorem Held.tested (h : Held s t) (o : Option Nat) : RestKept s (arbitrate (entryTestOf o t)) :=
  (h.trans (entryTestOf_held o t)).decided

theorem subscriberAdd_rests (a : AddArgs) (s : State) : RestKept s (subscriberAdd a s).1 := by
  unfold subscriberAdd
  refine .guard (.guard (.guard ?_))
  split
  · exact .refl s
  · exact .block_ite ((setSub_held _ _ s).tested (some a.tap)) (.refl s)

theorem subscriberChange_rests (a : Nat × TierSet) (s : State) : RestKept s (subscriberChange a s).1 :=
  .guard (.guard (.ite (.refl s) ((setSub_held _ _ s).tested _)))

theorem subscriberRemove_rests (n : Nat) (s : State) : RestKept s (subscriberRemove n s).1 :=
  .guard (.guard (Held.tested ((setSub_held _ _ s).trans (forEach_held _ (fun e u => setEvent_held e _ u) _)) _))

theorem purchase_rests (a : Nat × Nat) (s : State) : RestKept s (purchase a s).1 :=
  .guard (.guard (.guard (.guard (.guard (.guard
    (.ite (Held.tested ((setSub_held _ _ s).trans (setEvent_held _ _ _)) _) (.of_work (by rfl))))))))

theorem purchaseCancel_rests (a : Nat × Nat) (s : State) : RestKept s (purchaseCancel a s).1 :=
  .guard (.guard (.guard (.of_work (by rfl))))

theorem clockSet_rests (m : Nat) (s : State) : RestKept s (clockSet m s).1 :=
  (RestKept.of_work (by rfl)).trans (evaluateEvents_rests m { s with billing := { s.billing with clock := m } })

theorem statementRead_rests (n : Nat) (s : State) : RestKept s (statementRead n s).1 := by
  rw [statementRead_eq]
  exact .refl s

theorem portLocking_rests (v : Bool) (a : Nat × Nat) (s : State) : RestKept s (portLocking v a s).1 := by
  unfold portLocking
  refine .guard ?_
  split
  · exact .ite (.refl s) ((setSub_held _ _ s).tested _)
  · exact .refl s

theorem tapInstall_rests (a : Nat × Nat) (s : State) : RestKept s (tapInstall a s).1 :=
  .guard (.guard (.guard (Held.tested ((setTap_held _ _ s).trans (changeBranch_held _ _ _)) (some a.1))))

theorem tapRemove_rests (n : Nat) (s : State) : RestKept s (tapRemove n s).1 :=
  .guard (.guard (.guard ((removeTap_rests n s).answered _)))

theorem branchForcing_rests (v : Bool) (n : Nat) (s : State) : RestKept s (branchForcing v n s).1 :=
  .guard (.guard (.answered (.ite (.refl s) (changeBranch_rests n _ s)) _))

theorem branchSet_rests (a : BranchArgs) (s : State) : RestKept s (branchSet a s).1 := by
  have changed : Held s (decideBranches (postStation a.branch (s.branch a.branch).station
      ((s.branch a.branch).withArgs a).station (postInterval a.branch ((s.branch a.branch).withArgs a).interval
        (s.setBranch a.branch ((s.branch a.branch).withArgs a))))) :=
    have written : Held s (s.setBranch a.branch ((s.branch a.branch).withArgs a)) := .beside rfl
    (written.trans (.ite (.refl _) (setWatch_held _ _ _))).trans ((postStation_held _ _ _ _).trans (decideBranches_held _))
  have change : RestKept s (branchChange a s).1 := by
    unfold branchChange
    split
    · exact .refl s
    · exact changed.decided
  exact .guard (.block_ite (.guard (.guard (removeBranch_rests a.branch s))) change)

theorem carrierOn_rests (s : State) : RestKept s (carrierOn s) := .ite (.refl s) (Held.beside (by rfl)).decided

theorem returnOn_rests (s : State) : RestKept s (returnOn s) := .ite (.refl s) (Held.beside (by rfl)).decided

theorem carrierOff_rests (s : State) : RestKept s (carrierOff s) := .of_engaged rfl fun _ => rfl

/-- R78, R85: the settings and the order leave the requesters as ready as they were. -/
theorem linkSet_rests (a : LinkArgs) (s : State) : RestKept s (linkSet a s).1 :=
  ⟨(linkSet_blockKept a s).arbiter, fun _ hs => hs⟩

theorem acceptQuery_rests (k : QueryKind) (n : Nat) (l : List Byte) (s : State) : RestKept s (acceptQuery k n l s).1 :=
  .block_ite (Held.beside (s := s) (t := enqueueQuery k n l s) rfl).decided (.refl s)

theorem tapQuery_rests (n : Nat) (s : State) : RestKept s (tapQuery n s).1 :=
  .block_ite (acceptQuery_rests .tapQuery n [] s) (.refl s)
theorem tapEcho_rests (a : Nat × List Byte) (s : State) : RestKept s (tapEcho a s).1 :=
  .block_ite (acceptQuery_rests .tapEcho a.1 a.2 s) (.refl s)
theorem stationQuery_rests (n : Nat) (s : State) : RestKept s (stationQuery n s).1 :=
  .block_ite (acceptQuery_rests .stationQuery n [] s) (.refl s)

theorem monitorSet_rests (a : MonitorArgs) (s : State) : RestKept s (monitorSet a s).1 :=
  (RestKept.of_work (by rfl)).trans (.of_butSlots (applyMonitor_butSlots s.monitor { s with monitor := s.monitor.withArgs a }))

/-- R8, R82: the arbiter decides where a new revision has been posted to the taps. -/
theorem postRevision_rests (h : ArbiterSound s → ArbiterSound t) : RestKept s (postRevision t) :=
  have tested : Held (reloadBroadcast t) (entryTestAll (arbitrate (reloadBroadcast t))) :=
    (arbitrate_held _).trans (forEach_held _ entryTest_held _)
  .decided fun hs => tested.block.arbiter (h hs)

theorem work_of_besideSlots (h : t.besideSlots = s.besideSlots) : t.work = s.work := show t.besideSlots.work = _ from h ▸ rfl

theorem slotSet_rests (a : SlotArgs) (s : State) : RestKept s (slotSet a s).1 := by
  have refreshed : RestKept s (refreshSlot a.slot (s.settingsWritten a)) :=
    .of_work (work_of_besideSlots (refreshed_besideSlots a s))
  refine .guard (.guard ?_)
  change RestKept s (setSlotSettings a s)
  rw [setSlotSettings_eq]
  exact .ite refreshed (postRevision_rests refreshed.arbiter)

theorem eventSchedule_rests (a : ScheduleArgs) (s : State) : RestKept s (eventSchedule a s).1 := by
  unfold eventSchedule scheduleClamped
  refine .guard (.guard (.guard (.guard ?_)))
  split
  · exact .of_work rfl
  · exact .refl s

theorem eventCancel_rests (e : Nat) (s : State) : RestKept s (eventCancel e s).1 := by
  unfold eventCancel
  refine .block_ite ?_ (.refl s)
  split
  · exact .refl s
  · exact (cancelScheduled_rests e s).answered _
  · exact (cancelShowing_rests e s).answered _
  · exact .refl s
  · exact .refl s

theorem sponsoring_rests (p : Master) (v : Bool) (n : Nat) (s : State) : RestKept s (sponsoring p v n s).1 :=
  .block_ite ((RestKept.of_work (by rfl)).trans (.of_butSlots (refreshSlot_butSlots n (s.setSlot n _)))) (.refl s)

theorem alarmAck_rests (p : Master) (n : Nat) (s : State) : RestKept s (alarmAck p n s).1 := by
  unfold alarmAck
  refine .block_ite ?_ (.refl s)
  split
  · exact .refl s
  · exact .block_ite (.of_butAlarms (retire_butAlarms _ _)) (.refl s)

theorem reading_rests (hi : Nat) (content : Nat → State → List Byte) (n : Nat) (s : State) :
    RestKept s (reading hi content n s).1 := .block_ite (.refl s) (.refl s)

theorem subscriberRead_rests (n : Nat) (s : State) : RestKept s (subscriberRead n s).1 := by
  have read := fun c => reading_rests 2048 c n s
  exact .block_ite ((read _).trans (.of_work (by rfl))) (read _)

theorem serve_rests {α : Type} {block : Block α} (hb : ∀ a u, RestKept u (block a u).1) (p : Master) (m : Msg) (ok : Bool)
    (parse : List Byte → Option α) (s : State) : RestKept s (serve p m ok parse block s) := by
  unfold serve
  split
  · split
    · exact (hb _ s).trans (putAnswer_rests _ _ _ _)
    · exact putAnswer_rests _ _ _ s
  · exact putAnswer_rests _ _ _ s

theorem serveClose_rests (p : Master) (m : Msg) (s : State) : RestKept s (serveClose p m s) := by
  unfold serveClose
  split
  · split
    · unfold closeOrWait
      split
      · exact (closeCycle_rests s).trans (putAnswer_rests _ _ _ _)
      · exact (RestKept.of_work (by rfl)).trans (setPort_rests _ _ _)
    · exact putAnswer_rests _ _ _ s
  · exact putAnswer_rests _ _ _ s

theorem serveRestart_rests (p : Master) (m : Msg) (b : Straps) (s : State) : RestKept s (serveRestart p m b s) := by
  unfold serveRestart
  split
  · split
    · exact warmRestart_rests b s
    · exact putAnswer_rests _ _ _ s
  · exact putAnswer_rests _ _ _ s

/-! ### The ports -/

theorem acceptMessage_rests (p : Master) (m : Msg) (s : State) : RestKept s (acceptMessage p m s) :=
  .ite (setPort_rests _ _ s) (.ite (putAnswer_rests _ _ _ s) (.refl s))

theorem takeByte_rests (p : Master) (b : Byte) (s : State) : RestKept s (takeByte p b s) := by
  have sets : ∀ rx, RestKept s (setReceiver p rx s) := fun _ => setPort_rests _ _ s
  have hunts : RestKept s (huntByte p b s) := .ite (sets _) (sets _)
  have finishes : ∀ l, RestKept s (finishMessage p l s) := fun l => by
    unfold finishMessage
    extract_lets s1
    have h1 : RestKept s s1 := sets _
    split
    · exact .ite (h1.trans (acceptMessage_rests _ _ _)) h1
    · exact h1
  unfold takeByte
  split
  · exact hunts
  · exact .ite (sets _) hunts
  · exact .ite (sets _) (finishes _)

/-! ### Every command -/

/-- Where a command answers a next state, the arbiter stays at rest. -/
def RestBy (s : State) (r : Result) : Prop := ∀ t, r = .next t → RestKept s t

theorem RestBy.next (h : RestKept s t) : RestBy s (.next t) := fun u hu => by
  obtain rfl : t = u := by injection hu
  exact h

theorem RestBy.stays : RestBy s (.next s) := .next (.refl s)

theorem RestBy.fault (f : Fault) : RestBy s (.fault f) := fun _ hu => by cases hu

theorem RestBy.ite {c : Prop} [Decidable c] {x y : Result} (h : RestBy s x) (h' : RestBy s y) :
    RestBy s (if c then x else y) := by split <;> assumption

/-- A request that its port takes now. -/
theorem RestBy.taken {p : Master} {f : Nat → Bool} {g : Msg → State → State} (hg : ∀ m u, RestKept u (g m u)) :
    RestBy s (match s.takable p f with
      | some m => .next (g m (dropHead p s))
      | none => .next s) := by
  split
  · exact .next ((setPort_rests _ _ s).trans (hg _ _))
  · exact .stays

theorem RestBy.request {α : Type} {block : Block α} (hb : ∀ a u, RestKept u (block a u).1) (p : Master) (k : Nat)
    (ok : Bool) (parse : List Byte → Option α) : RestBy s (.next (takeRequest p k ok parse block s)) := by
  unfold takeRequest
  split
  · exact .next ((setPort_rests _ _ s).trans (serve_rests hb p _ ok parse _))
  · exact .stays

theorem execSourceQualificationExpiry_rests (n : Nat) : RestBy s (execSourceQualificationExpiry n s) := by
  unfold execSourceQualificationExpiry
  refine .ite ?_ (.fault _)
  split
  · exact .next (((passTime_rests _ s).trans (.of_work (by rfl))).trans (.of_butSlots (presenceChanged_butSlots n _)))
  · exact .stays

theorem decideMode_rests (s : State) : RestKept s (decideMode s) :=
  (RestKept.of_work (s := s) (t := s.withMode s.givenMode) rfl).trans (.of_butSlots (decideMode_butSlots s))

theorem execSupplyQualificationExpiry_rests (line : SupplyLine) : RestBy s (execSupplyQualificationExpiry line s) := by
  have mains : ∀ u, RestKept u (qualifyMains u) := fun u => (RestKept.of_work (by rfl)).trans (decideMode_rests _)
  have reserve : ∀ u, RestKept u (qualifyReserve u) := fun u => (RestKept.of_work (by rfl)).trans (decideMode_rests _)
  cases line <;> unfold execSupplyQualificationExpiry <;> dsimp only <;> split
  · exact .next ((passTime_rests _ s).trans (mains _))
  · exact .stays
  · exact .next ((passTime_rests _ s).trans (reserve _))
  · exact .stays

theorem execStepTimerExpiry_rests (n : Nat) : RestBy s (execStepTimerExpiry n s) := by
  unfold execStepTimerExpiry
  refine .ite ?_ (.fault _)
  split
  · exact .next ((passTime_rests _ s).trans (.of_butSlots (takeStep_butSlots n _)))
  · exact .stays

theorem execTransmitCompletion_rests : RestBy s (execTransmitCompletion s) := by
  unfold execTransmitCompletion
  split
  · exact .next (transmitted_rests _ s)
  · exact .stays

theorem execReplyTake_rests : RestBy s (execReplyTake s) := by
  unfold execReplyTake
  split
  · exact .next (takeFrame_rests _ s)
  · exact .stays

theorem execReplyWindowExpiry_rests : RestBy s (execReplyWindowExpiry s) := by
  unfold execReplyWindowExpiry
  split
  · exact .next (failAttempt_rests (passTime_rests _ s).arbiter _ _)
  · exact .stays

theorem execDwellExpiry_rests (r : Nat) : RestBy s (execDwellExpiry r s) := by
  unfold execDwellExpiry
  split
  · exact .next ((passTime_rests _ s).trans (.of_butSlots (completeConversion_butSlots _ r _)))
  · exact .stays

theorem execSweepVisit_rests : RestBy s (execSweepVisit s) := by
  unfold execSweepVisit
  split
  · exact .next (sweepOne_rests _ s)
  · exact .stays

theorem execInterByteTimeout_rests (p : Master) : RestBy s (execInterByteTimeout p s) := by
  unfold execInterByteTimeout
  split
  · exact .next ((passTime_rests _ s).trans (setPort_rests _ _ _))
  · exact .stays

theorem execMessageSent_rests (p : Master) : RestBy s (execMessageSent p s) := by
  unfold execMessageSent
  extract_lets q
  split
  · exact .next (setPort_rests _ _ s)
  · exact .stays

/-- Every command leaves the arbiter at rest: it makes no requester ready, or the arbiter decides behind it. -/
theorem exec_rests (c : Instr) (s : State) : RestBy s (exec c s) := by
  cases c with
  | sourcePresenceLineChange n high => exact .ite (.ite .stays (.next (.of_work rfl))) (.fault _)
  | sourceQualificationExpiry n => exact execSourceQualificationExpiry_rests n
  | supplyLineChange line high => cases line <;> exact .ite .stays (.next (.of_work rfl))
  | supplyQualificationExpiry line => exact execSupplyQualificationExpiry_rests line
  | stepTimerExpiry n => exact execStepTimerExpiry_rests n
  | transmitCompletion => exact execTransmitCompletion_rests
  | frameReceived bytes stops => exact .ite (.ite (.next (receiveFrame_rests _ s)) .stays) (.fault _)
  | frameStreamTimeout => exact .ite (.next (receiveFrame_rests _ s)) .stays
  | replyTake => exact execReplyTake_rests
  | replyWindowExpiry => exact execReplyWindowExpiry_rests
  | pollDueTime b => exact .ite (.next (atSurveyTime_rests _ (fun u => setWatch_held _ _ u) s)) (.fault _)
  | stationDeadline b => exact .ite (.next (atSurveyTime_rests _ (takeDeadline_held b) s)) (.fault _)
  | recoveryDueTime b => exact .ite (.next (atSurveyTime_rests _ (fun u => setWatch_held _ _ u) s)) (.fault _)
  | auditStepTimerExpiry => exact .next (atSurveyTime_rests _ (fun u => .beside (by rfl)) s)
  | dwellExpiry r => exact execDwellExpiry_rests r
  | minuteTick => exact .next ((passTime_rests _ s).trans (takeTick_rests _))
  | sweepVisit => exact execSweepVisit_rests
  | messageReceived p kind tag body =>
    exact .ite (.next ((setPort_rests p _ s).trans (acceptMessage_rests _ _ _))) (.fault _)
  | interByteTimeout p => exact execInterByteTimeout_rests p
  | messageSent p => exact execMessageSent_rests p
  | unknownRequest p => exact .taken fun m u => putAnswer_rests p m _ u
  | subscriberAdd p => exact .request subscriberAdd_rests p _ _ _
  | subscriberChange p => exact .request subscriberChange_rests p _ _ _
  | subscriberRemove p => exact .request subscriberRemove_rests p _ _ _
  | purchase p => exact .request purchase_rests p _ _ _
  | purchaseCancel p => exact .request purchaseCancel_rests p _ _ _
  | clockSet p => exact .request clockSet_rests p _ _ _
  | rateSet p => exact .request (fun l u => .guard (.of_work (by rfl))) p _ _ _
  | creditSet p => exact .request (fun _ u => .of_work (by rfl)) p _ _ _
  | cycleClose p => exact .taken (serveClose_rests p)
  | statementRead p => exact .request statementRead_rests p _ _ _
  | portLock p => exact .request (portLocking_rests true) p _ _ _
  | portUnlock p => exact .request (portLocking_rests false) p _ _ _
  | tapInstall p => exact .request tapInstall_rests p _ _ _
  | tapRemove p => exact .request tapRemove_rests p _ _ _
  | branchSet p => exact .request branchSet_rests p _ _ _
  | branchForce p => exact .request (branchForcing_rests true) p _ _ _
  | branchRelease p => exact .request (branchForcing_rests false) p _ _ _
  | carrierOn p => exact .request (fun _ u => carrierOn_rests u) p _ _ _
  | carrierOff p => exact .request (fun _ u => carrierOff_rests u) p _ _ _
  | returnOn p => exact .request (fun _ u => returnOn_rests u) p _ _ _
  | returnOff p => exact .request (fun _ u => returnOff_rests u) p _ _ _
  | linkSet p => exact .request linkSet_rests p _ _ _
  | tapQuery p => exact .request tapQuery_rests p _ _ _
  | tapEcho p => exact .request tapEcho_rests p _ _ _
  | stationQuery p => exact .request stationQuery_rests p _ _ _
  | monitorSet p => exact .request monitorSet_rests p _ _ _
  | alarmResurvey p => exact .request (fun _ u => .of_butAlarms (resurvey_butAlarms u)) p _ _ _
  | restart p b => exact .taken fun m u => serveRestart_rests p m b u
  | slotSet p => exact .request slotSet_rests p _ _ _
  | eventSchedule p => exact .request eventSchedule_rests p _ _ _
  | eventCancel p => exact .request eventCancel_rests p _ _ _
  | sponsor p => exact .request (sponsoring_rests p true) p _ _ _
  | withdraw p => exact .request (sponsoring_rests p false) p _ _ _
  | audienceSet p => exact .request (fun _ u => .of_work (by rfl)) p _ _ _
  | alarmAck p => exact .request (alarmAck_rests p) p _ _ _
  | identify p => exact .request (fun _ u => .refl u) p _ _ _
  | slotRead p => exact .request (reading_rests _ _) p _ _ _
  | subscriberRead p => exact .request subscriberRead_rests p _ _ _
  | tapRead p => exact .request (reading_rests _ _) p _ _ _
  | branchRead p => exact .request (reading_rests _ _) p _ _ _
  | stationRead p => exact .request (reading_rests _ _) p _ _ _
  | alarmListRead p => exact .request (reading_rests _ _) p _ _ _
  | eventRead p => exact .request (reading_rests _ _) p _ _ _
  | billingRead p => exact .request (fun _ u => .refl u) p _ _ _
  | linkRead p => exact .request (fun _ u => .refl u) p _ _ _
  | restartLine intact b => exact .next (.ite (warmRestart_rests b s) (coldStart_rests b s))
  | startIndication a b c => exact .ite (.next (.of_work rfl)) .stays
  | masterPortByteReceived p byte stop => exact .ite (.next (takeByte_rests p byte s)) (.next (setPort_rests _ _ s))

/-- A step runs the front command on the queue's rest, or 1 ms passes. -/
theorem step_rests (h : step s = .next t) : RestKept s t := by
  unfold step at h
  split at h
  · exact RestKept.trans (.of_work (by rfl)) (exec_rests _ _ t h)
  · injection h with h
    exact h ▸ passTime_rests 1 s

/-- Settles O51: an act makes no requester ready at a free engine, or the arbiter decides behind it, and behind its decision
the engine is engaged or no requester is ready. -/
theorem arbiterIsWorkConserving : Obligations.ArbiterIsWorkConserving := by
  unfold Obligations.ArbiterIsWorkConserving
  exact fun s t sound rests h => (step_rests h).rests sound rests

end Requests

end Sys2Proof.Machine

namespace Sys2Proof.Machine

/-! ### The survey clock's events (O45) -/

section
variable {s : State} {b d : Nat}

theorem wfBranch_of_within (h₁ : 1 ≤ b) (h₂ : b ≤ 64) : wfBranch b = true := by
  simp [wfBranch, h₁, h₂]

/-- With the return enable ON the survey clock runs, so every reading is one it can reach (R94). -/
theorem atSurveyTime_of_returnOn (h : s.engine.returnOn = true) (f : State → State) :
    atSurveyTime (some d) f s = arbitrate (f (passTime (d - s.survey.clock) s)) := by
  simp [atSurveyTime, surveyReaches, advanceSurveyTo, h]

@[simp] theorem passTime_watch (n : Nat) : (passTime d s).watch n = s.watch n := by
  simp [State.watch]

/-- The running survey clock reads what has passed, up to its greatest reading (R94). -/
theorem passTime_surveyClock (h : s.engine.returnOn = true) (hd : s.survey.clock + d ≤ surveyClockMax) :
    (passTime d s).survey.clock = s.survey.clock + d := by
  simp [passTime, h, hd]

theorem exec_pollDueTime (hb : wfBranch b = true) :
    exec (.pollDueTime b) s = .next (atSurveyTime (s.watch b).pendingDue (pollFallsDue b) s) := by
  simp [exec, execPollDueTime, hb]

theorem exec_stationDeadline (hb : wfBranch b = true) :
    exec (.stationDeadline b) s
      = .next (atSurveyTime (s.watch b).pendingDeadline (takeDeadline b) s) := by
  simp [exec, execStationDeadline, hb]

theorem exec_recoveryDueTime (hb : wfBranch b = true) :
    exec (.recoveryDueTime b) s
      = .next (atSurveyTime (s.watch b).pendingRecovery (recoveryFallsDue b) s) := by
  simp [exec, execRecoveryDueTime, hb]

/-- An outstanding poll defers the deadline (R101). -/
theorem takeDeadline_of_outstanding (h : (s.watch b).state = .pollDue ∨ (s.watch b).state = .polled) :
    takeDeadline b s = s.setWatch b { s.watch b with deadlinePassed := true } := by
  obtain h | h := h <;> simp [takeDeadline, h]

theorem takeDeadline_of_watching (h : (s.watch b).state = .watching) :
    takeDeadline b s = becomeSilent b s := by
  simp [takeDeadline, h]

end

/-- Settles O45: each time that falls due is the pending time of its record, and the running clock reaches it. -/
theorem surveyTimesFallDue : Obligations.SurveyTimesFallDue := by
  unfold Obligations.SurveyTimesFallDue
  intro s b d hon h₁ h₂
  have hb : wfBranch b = true := wfBranch_of_within h₁ h₂
  refine ⟨?pollDue, ?deferred, ?silent, ?recovery, ?audit, ?clock⟩
  case pollDue =>
    intro hw hd
    have hp : (s.watch b).pendingDue = some d := by simp [Watch.pendingDue, hw, hd]
    rw [exec_pollDueTime hb, hp, atSurveyTime_of_returnOn hon, pollFallsDue, passTime_watch]
  case deferred =>
    intro hw hpassed hd
    have hp : (s.watch b).pendingDeadline = some d := by
      obtain hw | hw := hw <;> simp [Watch.pendingDeadline, hw, hpassed, hd]
    rw [exec_stationDeadline hb, hp, atSurveyTime_of_returnOn hon,
      takeDeadline_of_outstanding (by simpa using hw), passTime_watch]
  case silent =>
    intro hw hd
    have hp : (s.watch b).pendingDeadline = some d := by simp [Watch.pendingDeadline, hw, hd]
    rw [exec_stationDeadline hb, hp, atSurveyTime_of_returnOn hon,
      takeDeadline_of_watching (by simpa using hw), becomeSilent, passTime_watch]
    rfl
  case recovery =>
    intro hw hr hd
    have hp : (s.watch b).pendingRecovery = some d := by simp [Watch.pendingRecovery, hw, hr, hd]
    rw [exec_recoveryDueTime hb, hp, atSurveyTime_of_returnOn hon, recoveryFallsDue, passTime_watch]
  case audit =>
    intro hd
    have hx : exec .auditStepTimerExpiry s
        = .next (atSurveyTime (some s.survey.auditTimer) auditStepFallsDue s) := rfl
    rw [hx, hd, atSurveyTime_of_returnOn hon, auditStepFallsDue, passTime_link]
    rfl
  case clock =>
    intro hle hmax
    rw [passTime_surveyClock hon (by omega)]
    omega

end Sys2Proof.Machine

namespace Sys2Proof.Machine

/-! ## The decision of the branches (R125)

A decision gives every branch its state from its inputs, and its flags from the states of the branch and its ancestors. Both are
read off one equation for each record: `decideBranches_branch`. -/

section Decision
variable {s t : State}

/-- A branch record without what a decision gives it. -/
def Branch.undecided (b : Branch) : Branch := { b with out := false, affected := false, shadowed := false }

/-- The branches with their states decided from their inputs, their flags as they stood. -/
def State.branchesDecided (s : State) : State := { s with branches := tabMap .cold Branch.decided s.branches }

/-- A branch record with the flags that its state gives it below an ancestor that is OUT or not. -/
def Branch.flagged (b : Branch) (up : Bool) : Branch := { b with affected := b.out || up, shadowed := b.out && up }

/-- R125: the branches with states and flags decided, before the changes are handed on. -/
def State.branchesFlagged (s : State) : State := forEach (s.branches.map Prod.fst) decideFlags s.branchesDecided

theorem decideBranches_eq (s : State) : decideBranches s =
    forEach (s.branches.map Prod.fst) (fun n t => handOnBranch (s.branch n) n t) s.branchesFlagged := rfl

/-! ### The ancestors -/

/-- The ancestors are read from the parents alone. -/
theorem ancestors_congr (h : ∀ k, (t.branch k).parent = (s.branch k).parent) (fuel n : Nat) :
    t.ancestors fuel n = s.ancestors fuel n := by
  induction fuel generalizing n with
  | zero => rfl
  | succ fuel ih =>
    unfold State.ancestors
    rw [h n]
    cases (s.branch n).parent with
    | none => rfl
    | some p => exact congrArg (p :: ·) (ih p)

theorem ancestorOut_congr (parents : ∀ k, (t.branch k).parent = (s.branch k).parent)
    (states : ∀ k, (t.branch k).out = (s.branch k).out) (n : Nat) : t.ancestorOut n = s.ancestorOut n := by
  unfold State.ancestorOut State.ancestorsOf
  rw [ancestors_congr parents]
  exact congrArg _ (funext states)

theorem ancestorOut_of_root {n : Nat} (h : (s.branch n).parent = none) : s.ancestorOut n = false := by
  unfold State.ancestorOut State.ancestorsOf State.ancestors
  rw [h]
  rfl

/-- R125: the soundness of the branches is read from the branches alone. -/
theorem BranchesSound.congr (hs : BranchesSound s) (h : ∀ k, t.branch k = s.branch k) : BranchesSound t := fun n => by
  rw [h n, ancestorOut_congr (s := s) (fun k => by rw [h k]) (fun k => by rw [h k])]
  exact hs n

/-! ### The records after a decision -/

theorem tabMap_branches_tables (h : TablesSound s) : TablesSound s.branchesDecided := by
  simp_all [TablesSound, State.branchesDecided, tabWf_tabMap]

theorem branchesDecided_branch (h : TablesSound s) (k : Nat) : s.branchesDecided.branch k = (s.branch k).decided :=
  tabGet_tabMap (by rfl) h.branches k

theorem decideFlags_branch (h : TablesSound s) (n k : Nat) :
    (decideFlags n s).branch k = if k = n then (s.branch n).flagged (s.ancestorOut n) else s.branch k :=
  branch_setBranch h.branches n k _

/-- What the flags' decision reads: all but the flags. -/
def Branch.unflagged (b : Branch) : Branch := { b with affected := false, shadowed := false }

theorem ancestorOut_of_unflagged (h : ∀ k, (t.branch k).unflagged = (s.branch k).unflagged) (n : Nat) :
    t.ancestorOut n = s.ancestorOut n :=
  ancestorOut_congr (fun k => (congrArg Branch.parent (h k) :)) (fun k => (congrArg Branch.out (h k) :)) n

theorem branch_of_unlisted {k : Nat} (h : k ∉ s.branches.map Prod.fst) : s.branch k = .cold := by
  by_contra listed
  exact h (List.mem_map_of_mem (f := Prod.fst) (mem_of_tabGet_ne listed))

/-- R125: the flags are decided for every branch, those that stand at their cold values with them. -/
theorem branchesFlagged_branch (hs : TablesSound s) (k : Nat) :
    s.branchesFlagged.branch k = (s.branchesDecided.branch k).flagged (s.branchesDecided.ancestorOut k) := by
  set u := s.branchesDecided
  have hu : TablesSound u := tabMap_branches_tables hs
  refine forEach_each (P := fun v => TablesSound v ∧ ∀ j, (v.branch j).unflagged = (u.branch j).unflagged)
    (Q := fun n v => v.branch n = (u.branch n).flagged (u.ancestorOut n)) _ ?_ ?_ ?_ ⟨hu, fun _ => rfl⟩ k ?_
  · rintro n v ⟨hv, same⟩
    refine ⟨hv.setBranch n _, fun j => ?_⟩
    rw [decideFlags_branch hv]
    split
    · subst j; exact same n
    · exact same j
  · rintro n v ⟨hv, same⟩
    rw [decideFlags_branch hv, if_pos rfl, ancestorOut_of_unflagged same]
    have record : v.branch n = { u.branch n with affected := (v.branch n).affected, shadowed := (v.branch n).shadowed } :=
      (congrArg (fun b : Branch => { b with affected := (v.branch n).affected, shadowed := (v.branch n).shadowed })
        (same n) :)
    rw [record]
    rfl
  · rintro n j v ⟨hv, same⟩ hj
    rw [decideFlags_branch hv]
    split
    · subst j
      have up := ancestorOut_of_unflagged same n
      rw [hj, up]
      rfl
    · exact hj
  · by_cases listed : k ∈ s.branches.map Prod.fst
    · exact .inl listed
    · refine .inr ?_
      have cold : u.branch k = .cold := by rw [branchesDecided_branch hs, branch_of_unlisted listed]; rfl
      rw [cold, ancestorOut_of_root (by rw [cold]; rfl)]
      rfl

theorem handOnBranch_branch (old : Branch) (n k : Nat) (s : State) : (handOnBranch old n s).branch k = s.branch k := by
  rw [State.branch, handOnBranch_branches]
  rfl

theorem handOn_branches (l : List Nat) (f : Nat → Branch) (s : State) :
    (forEach l (fun n t => handOnBranch (f n) n t) s).branches = s.branches :=
  forEach_frame State.branches l _ (fun n u => handOnBranch_branches (f n) n u) s

/-- R125: a record after a decision. -/
theorem decideBranches_branch (hs : TablesSound s) (k : Nat) :
    (decideBranches s).branch k = (s.branch k).decided.flagged (s.branchesDecided.ancestorOut k) := by
  rw [← branchesDecided_branch hs, ← branchesFlagged_branch hs, decideBranches_eq, State.branch, handOn_branches]
  rfl

/-- R125: a decision makes every state and every flag what the inputs and the ancestors give. -/
theorem decideBranches_sound (hs : TablesSound s) : BranchesSound (decideBranches s) := fun n => by
  have up : (decideBranches s).ancestorOut n = s.branchesDecided.ancestorOut n :=
    ancestorOut_congr (fun k => by rw [decideBranches_branch hs, branchesDecided_branch hs]; rfl)
      (fun k => by rw [decideBranches_branch hs, branchesDecided_branch hs]; rfl) n
  rw [up, decideBranches_branch hs]
  exact ⟨rfl, rfl, rfl⟩

theorem decideBranches_undecided (hs : TablesSound s) (k : Nat) :
    ((decideBranches s).branch k).undecided = (s.branch k).undecided := by
  rw [decideBranches_branch hs]
  rfl

theorem changeBranch_undecided (hs : TablesSound s) (n : Nat) (f : Branch → Branch) (k : Nat) :
    ((changeBranch n f s).branch k).undecided = if k = n then (f (s.branch n)).undecided else (s.branch k).undecided :=
  changeBranch_read (g := Branch.undecided) (fun _ _ _ _ => rfl) hs n f k

/-! ### The episodes of a decision (R127) -/

/-- R127: an episode after a decision of its condition is open exactly while the condition holds, whether it stood by the
condition before the decision or stands by the one after it already. -/
theorem EpisodeSound.after {e : Episode} {before after : Bool} (h : EpisodeSound e before ∨ EpisodeSound e after) (clock : Nat) :
    EpisodeSound (e.after before after clock) after := by
  cases before <;> cases after
  · exact h.elim id id
  · exact ⟨rfl, fun _ => ⟨rfl, Nat.zero_le _⟩, fun shut => by cases shut⟩
  · exact ⟨rfl, fun opened => Bool.noConfusion opened, fun _ => rfl⟩
  · exact h.elim id id

theorem handOnBranch_episode (hs : TablesSound s) (old : Branch) (n k : Nat) :
    (handOnBranch old n s).branchEpisode k = if k = n
      then (s.branchEpisode n).after old.affected (s.branch n).affected s.billing.clock else s.branchEpisode k := by
  have posted : ∀ {u v : State}, v.butAlarms = u.butAlarms → v.branchEpisodes = u.branchEpisodes := fun {u v} h =>
    show v.butAlarms.branchEpisodes = _ from h ▸ rfl
  have written : (handOnBranch old n s).branchEpisodes = (s.setBranchEpisode n
      ((s.branchEpisode n).after old.affected (s.branch n).affected s.billing.clock)).branchEpisodes := by
    unfold handOnBranch
    extract_lets new s1 s2 s3
    have h2 : s2.branchEpisodes = s1.branchEpisodes := posted (postChange_butAlarms _ _ _ _ s1)
    have h3 : s3.branchEpisodes = s1.branchEpisodes := by
      refine Eq.trans ?_ h2
      show (if new.affected && !old.affected then correlateAffected n s2
        else if old.affected && !new.affected then correlateUnaffected n s2 else s2).branchEpisodes = _
      split
      · exact posted (correlateAffected_butAlarms n s2)
      · split
        · exact posted (correlateUnaffected_butAlarms n s2)
        · rfl
    refine Eq.trans ?_ h3
    split
    · exact posted (correlateShadowed_butAlarms n s3)
    · split
      · exact posted (correlateUnshadowed_butAlarms n s3)
      · rfl
  obtain ⟨-, -, -, -, -, -, -, -, episodes, -⟩ := hs
  rw [State.branchEpisode, written]
  exact branchEpisode_setBranchEpisode episodes n k _

/-- R127: the branches' part of the episodes' soundness. -/
def BranchEpisodesSound (s : State) : Prop := ∀ n, EpisodeSound (s.branchEpisode n) (s.branch n).affected

/-- R127: the tiers' part of it. -/
def TierEpisodesSound (s : State) : Prop := ∀ t, t < 8 → EpisodeSound (s.tierEpisode t) (decide (s.heldCount t ≠ 0))

theorem episodesSound_iff : EpisodesSound s ↔ BranchEpisodesSound s ∧ TierEpisodesSound s := Iff.rfl

theorem BranchEpisodesSound.congr (h : BranchEpisodesSound s) (episodes : ∀ k, t.branchEpisode k = s.branchEpisode k)
    (affected : ∀ k, (t.branch k).affected = (s.branch k).affected) : BranchEpisodesSound t := fun n => by
  rw [episodes, affected]
  exact h n

theorem branchesFlagged_kept (s : State) : HeadKept s s.branchesFlagged := by
  have decided : HeadKept s s.branchesDecided := .of_headEnd rfl tabMap_branches_tables
  exact decided.trans (forEach_kept _ (fun n u => setBranch_kept n _ u) _)

/-- R125, R127: where a decision hands on the changes, each episode follows what its branch has become. -/
theorem decideBranches_episodes (hs : TablesSound s) (h : BranchEpisodesSound s) : BranchEpisodesSound (decideBranches s) := by
  set u := s.branchesFlagged
  have hu : TablesSound u := (branchesFlagged_kept s).tables hs
  have same : ∀ k, u.branchEpisode k = s.branchEpisode k := fun k =>
    forEach_frame (fun v : State => v.branchEpisode k) _ decideFlags (fun _ _ => rfl) s.branchesDecided
  intro k
  rw [State.branch, decideBranches_eq, handOn_branches]
  change EpisodeSound _ (u.branch k).affected
  refine forEach_each (P := fun v => TablesSound v ∧ (∀ j, v.branch j = u.branch j) ∧ ∀ j,
      EpisodeSound (v.branchEpisode j) (s.branch j).affected ∨ EpisodeSound (v.branchEpisode j) (u.branch j).affected)
    (Q := fun n v => EpisodeSound (v.branchEpisode n) (u.branch n).affected) _ ?_ ?_ ?_
    ⟨hu, fun _ => rfl, fun j => .inl (same j ▸ h j)⟩ k ?_
  · rintro n v ⟨hv, branches, episodes⟩
    refine ⟨(handOnBranch_kept _ n v).tables hv, fun j => (handOnBranch_branch _ n j v).trans (branches j), fun j => ?_⟩
    rw [handOnBranch_episode hv]
    split
    · subst j
      rw [branches]
      exact .inr (EpisodeSound.after (episodes n) _)
    · exact episodes j
  · rintro n v ⟨hv, branches, episodes⟩
    rw [handOnBranch_episode hv, if_pos rfl, branches]
    exact EpisodeSound.after (episodes n) _
  · rintro n j v ⟨hv, branches, episodes⟩ hj
    rw [handOnBranch_episode hv]
    split
    · subst j
      rw [branches]
      exact EpisodeSound.after (episodes n) _
    · exact hj
  · by_cases listed : k ∈ s.branches.map Prod.fst
    · exact .inl listed
    · refine .inr ?_
      have cold := branch_of_unlisted listed
      have shut := h k
      rw [cold] at shut
      rw [same, branchesFlagged_branch hs, branchesDecided_branch hs, cold,
        ancestorOut_of_root (by rw [branchesDecided_branch hs, cold]; rfl)]
      exact shut

end Decision

end Sys2Proof.Machine

namespace Sys2Proof.Machine

/-! ## The counts of the taps on a branch (R122)

`State.tapCount f` counts the taps whose record satisfies `f`. A change of one record changes the count by what `f` says of the
record before and after; the branches' counts follow each such change. -/

section Counts
variable {s t : State} {f : Tap → Bool} {n b : Nat}

/-- The number of taps whose record satisfies `f`. -/
def State.tapCount (s : State) (f : Tap → Bool) : Nat := (tabWhere (fun _ r => f r) s.taps).length

/-- An installed tap on branch `b`. -/
def Tap.hangsOn (b : Nat) (r : Tap) : Bool := r.installed && decide (r.branch = some b)

/-- An installed tap on branch `b` that is UNREACHABLE. -/
def Tap.goneOn (b : Nat) (r : Tap) : Bool := r.hangsOn b && decide (r.reach = .unreachable)

theorem branchCountsSound_iff : BranchCountsSound s ↔ ∀ b,
    (s.branch b).installedTaps = s.tapCount (Tap.hangsOn b) ∧ (s.branch b).unreachableTaps = s.tapCount (Tap.goneOn b) := Iff.rfl

theorem hangsOn_of_unsynced {r q : Tap} (h : r.unsynced = q.unsynced) (b : Nat) : r.hangsOn b = q.hangsOn b :=
  (congrArg (Tap.hangsOn b) h :)

theorem goneOn_of_unsynced {r q : Tap} (h : r.unsynced = q.unsynced) (b : Nat) : r.goneOn b = q.goneOn b :=
  (congrArg (Tap.goneOn b) h :)

theorem mem_listedTaps (hs : TablesSound s) (hf : f .cold = false) (k : Nat) :
    k ∈ tabWhere (fun _ r => f r) s.taps ↔ f (s.tap k) = true := by
  rw [mem_tabWhere hs.taps]
  refine ⟨And.right, fun h => ⟨fun cold => ?_, h⟩⟩
  exact Bool.false_ne_true (hf.symm.trans (congrArg f cold.symm |>.trans h))

theorem nodup_listedTaps (hs : TablesSound s) (f : Tap → Bool) : (tabWhere (fun _ r => f r) s.taps).Nodup :=
  (tabWhere_sorted hs.taps _).imp Nat.ne_of_lt

theorem tapCount_congr (hs : TablesSound s) (ht : TablesSound t) (hf : f .cold = false)
    (h : ∀ k, f (t.tap k) = f (s.tap k)) : t.tapCount f = s.tapCount f := by
  refine List.Perm.length_eq ((List.perm_ext_iff_of_nodup (nodup_listedTaps ht f) (nodup_listedTaps hs f)).2 fun k => ?_)
  rw [mem_listedTaps ht hf, mem_listedTaps hs hf, h]

/-- One tap that comes to satisfy `f` is one more. -/
theorem tapCount_gained (hs : TablesSound s) (ht : TablesSound t) (hf : f .cold = false)
    (others : ∀ k, k ≠ n → f (t.tap k) = f (s.tap k)) (before : f (s.tap n) = false) (after : f (t.tap n) = true) :
    t.tapCount f = s.tapCount f + 1 := by
  have fresh : n ∉ tabWhere (fun _ r => f r) s.taps := by
    rw [mem_listedTaps hs hf, before]
    exact Bool.false_ne_true
  refine List.Perm.length_eq (l₂ := n :: tabWhere (fun _ r => f r) s.taps)
    ((List.perm_ext_iff_of_nodup (nodup_listedTaps ht f) (List.nodup_cons.2 ⟨fresh, nodup_listedTaps hs f⟩)).2 fun k => ?_)
  rw [mem_listedTaps ht hf, List.mem_cons, mem_listedTaps hs hf]
  by_cases hk : k = n
  · subst k; simp [after]
  · simp [hk, others k hk]

/-- A change of one tap's record changes the count by what `f` says of the record before and after. -/
theorem tapCount_changed (hs : TablesSound s) (ht : TablesSound t) (hf : f .cold = false)
    (others : ∀ k, k ≠ n → f (t.tap k) = f (s.tap k)) :
    t.tapCount f + (f (s.tap n)).toNat = s.tapCount f + (f (t.tap n)).toNat := by
  cases before : f (s.tap n) <;> cases after : f (t.tap n)
  · rw [tapCount_congr hs ht hf fun k => if hk : k = n then hk ▸ after.trans before.symm else others k hk]
  · rw [tapCount_gained hs ht hf others before after]; rfl
  · rw [tapCount_gained ht hs hf (fun k hk => (others k hk).symm) after before]; rfl
  · rw [tapCount_congr hs ht hf fun k => if hk : k = n then hk ▸ after.trans before.symm else others k hk]

theorem tapCount_pos (hs : TablesSound s) (hf : f .cold = false) (h : f (s.tap n) = true) : 1 ≤ s.tapCount f :=
  List.length_pos_of_mem ((mem_listedTaps hs hf n).2 h)

/-- The UNREACHABLE taps on a branch are among the taps on it. -/
theorem tapCount_goneOn_le (s : State) (b : Nat) : s.tapCount (Tap.goneOn b) ≤ s.tapCount (Tap.hangsOn b) := by
  unfold State.tapCount tabWhere
  rw [List.length_map, List.length_map]
  refine List.Sublist.length_le (List.monotone_filter_right _ fun e h => ?_)
  exact (Bool.and_eq_true_iff.1 h).1

/-! ### The counts after an act -/

/-- An act that leaves what the taps report and the counts. -/
theorem BranchCountsSound.congr (h : BranchCountsSound s) (hs : TablesSound s) (ht : TablesSound t)
    (reports : ∀ k, t.reports k = s.reports k) (installed : ∀ k, (t.branch k).installedTaps = (s.branch k).installedTaps)
    (unreachable : ∀ k, (t.branch k).unreachableTaps = (s.branch k).unreachableTaps) : BranchCountsSound t :=
  branchCountsSound_iff.2 fun b => by
    rw [installed, unreachable, tapCount_congr hs ht rfl fun k => hangsOn_of_unsynced (reports k) b,
      tapCount_congr hs ht rfl fun k => goneOn_of_unsynced (reports k) b]
    exact h b

/-- An act on one tap, whose branch's counts follow it. -/
theorem BranchCountsSound.of_changed (h : BranchCountsSound s) (hs : TablesSound s) (ht : TablesSound t)
    (others : ∀ k, k ≠ n → t.reports k = s.reports k)
    (installed : ∀ b, (t.branch b).installedTaps + ((s.tap n).hangsOn b).toNat
      = (s.branch b).installedTaps + ((t.tap n).hangsOn b).toNat)
    (unreachable : ∀ b, (t.branch b).unreachableTaps + ((s.tap n).goneOn b).toNat
      = (s.branch b).unreachableTaps + ((t.tap n).goneOn b).toNat) : BranchCountsSound t :=
  branchCountsSound_iff.2 fun b => by
    obtain ⟨hangs, gone⟩ := branchCountsSound_iff.1 h b
    have hangs' := tapCount_changed (n := n) (f := Tap.hangsOn b) hs ht rfl fun k hk => hangsOn_of_unsynced (others k hk) b
    have gone' := tapCount_changed (n := n) (f := Tap.goneOn b) hs ht rfl fun k hk => goneOn_of_unsynced (others k hk) b
    have := installed b
    have := unreachable b
    omega

/-- R40: the count of a branch's UNREACHABLE taps after a change of a tap's reachability has been posted. -/
theorem postReach_unreachable (hs : TablesSound s) (o : Option Nat) {before after : Bool}
    (listed : before = true → ∀ b, o = some b → 1 ≤ (s.branch b).unreachableTaps) (b : Nat) :
    ((postReach o before after s).branch b).unreachableTaps + (decide (o = some b) && before).toNat
      = (s.branch b).unreachableTaps + (decide (o = some b) && after).toNat := by
  unfold postReach
  cases o with
  | none => rfl
  | some c =>
    have read := fun f => changeBranch_read (g := Branch.unreachableTaps) (fun _ _ _ _ => rfl) hs c f b
    have one := fun hb => listed hb c rfl
    dsimp only
    by_cases hb : c = b
    · subst hb
      cases before <;> cases after <;> simp [read]
      exact Nat.sub_add_cancel (one rfl)
    · cases before <;> cases after <;> simp [read, hb, Ne.symm hb]

theorem postReach_installed (hs : TablesSound s) (o : Option Nat) (before after : Bool) (b : Nat) :
    ((postReach o before after s).branch b).installedTaps = (s.branch b).installedTaps := by
  unfold postReach
  split
  · rfl
  · rename_i c
    have read : ∀ f : Branch → Branch, (∀ r, (f r).installedTaps = r.installedTaps) →
        ((changeBranch c f s).branch b).installedTaps = (s.branch b).installedTaps := fun f hf => by
      rw [changeBranch_read (g := Branch.installedTaps) (fun _ _ _ _ => rfl) hs, hf]
      exact ite_eq_right_iff.2 fun hb => hb ▸ rfl
    split
    · exact read _ fun _ => rfl
    · split
      · exact read _ fun _ => rfl
      · rfl

/-- R40: the counts after an installed tap's reachability has changed and its branch has been told. -/
theorem BranchCountsSound.postReach (h : BranchCountsSound s) (hs : TablesSound s) (ht : TablesSound t)
    (branches : ∀ k, t.branch k = s.branch k) (others : ∀ k, k ≠ n → t.tap k = s.tap k)
    (installed : (s.tap n).installed = true) (stays : (t.tap n).installed = true) (branch : (t.tap n).branch = (s.tap n).branch) :
    BranchCountsSound (postReach (t.tap n).branch (decide ((s.tap n).reach = .unreachable))
      (decide ((t.tap n).reach = .unreachable)) t) := by
  have taps : ∀ k, (Machine.postReach (t.tap n).branch (decide ((s.tap n).reach = .unreachable))
      (decide ((t.tap n).reach = .unreachable)) t).tap k = t.tap k :=
    tap_of_taps (taps_of_butBranches (postReach_butBranches _ _ _ _))
  have tables := (postReach_kept (t.tap n).branch (decide ((s.tap n).reach = .unreachable))
      (decide ((t.tap n).reach = .unreachable)) t).tables ht
  refine h.of_changed (n := n) hs tables (fun k hk => ?_) (fun b => ?_) (fun b => ?_)
  · rw [State.reports, taps, others k hk]; rfl
  · have same : ((s.tap n).hangsOn b) = ((t.tap n).hangsOn b) := by simp [Tap.hangsOn, installed, stays, branch]
    rw [postReach_installed ht, branches, taps, same]
  · have before : (s.tap n).goneOn b = (decide ((t.tap n).branch = some b) && decide ((s.tap n).reach = .unreachable)) := by
      simp [Tap.goneOn, Tap.hangsOn, installed, branch]
    have after : (t.tap n).goneOn b = (decide ((t.tap n).branch = some b) && decide ((t.tap n).reach = .unreachable)) := by
      simp [Tap.goneOn, Tap.hangsOn, stays]
    rw [taps, before, after, ← branches]
    refine postReach_unreachable ht _ (fun gone c hc => ?_) b
    rw [branches, (branchCountsSound_iff.1 h c).2]
    exact tapCount_pos (n := n) hs rfl (by simpa [Tap.goneOn, Tap.hangsOn, installed, ← branch, hc] using gone)

end Counts

end Sys2Proof.Machine

namespace Sys2Proof.Machine

/-! ## The watch records and their branches (R95, R97, R100 to R102)

`WatchSound w b` is the soundness of one watch record beside its branch. Each act of the survey unit moves one record from one
sound form to another, and what it posts to the correlator moves the branch with it. -/

/-- R95, R97, R101, R102: the watch record `w` agrees with its branch `b`. -/
structure WatchSound (w : Watch) (b : Branch) : Prop where
  unwatched : w.state = .unwatched ↔ b.station = false
  interval : w.interval = b.interval
  empty : w.state = .unwatched → w = { Watch.cold with interval := w.interval }
  silent : b.silent = true ↔ w.state = .silent
  supply : b.supplyFailed = reportHas StationReport.isFailed w.lastReport
  recovers : w.state = .silent → w.due = none ∧ w.deadline = none ∧ w.deadlinePassed = false ∧
    w.recovery ≠ .noPoll ∧ w.recoveryDue.isSome = true ∧ w.lastGood.isSome = true
  unrecovered : w.state ≠ .silent → w.recovery = .noPoll ∧ w.recoveryDue = none
  timed : w.state ≠ .silent → w.state ≠ .unwatched →
    w.due.isSome = true ∧ w.deadline.isSome = true ∧ w.lastGood.isSome = true
  early : w.state = .watching → w.deadlinePassed = false

section Watches
variable {s t u : State} {w : Watch} {b : Branch}

theorem watchesSound_iff : WatchesSound s ↔ ∀ n, WatchSound (s.watch n) (s.branch n) := by
  refine forall_congr' fun n => ⟨?_, fun h => ?_⟩
  · rintro ⟨unwatched, interval, empty, silent, supply, recovers, unrecovered, timed, early⟩
    exact ⟨unwatched, interval, empty, silent, supply, recovers, unrecovered, timed, early⟩
  · exact ⟨h.unwatched, h.interval, h.empty, h.silent, h.supply, h.recovers, h.unrecovered, h.timed, h.early⟩

/-- What a watch record is read beside: the station, the interval, and what the survey unit has posted. -/
def Branch.watched (b : Branch) : Branch :=
  { Branch.cold with station := b.station, interval := b.interval, silent := b.silent, supplyFailed := b.supplyFailed }

theorem WatchSound.congr {b' : Branch} (h : WatchSound w b) (same : b'.watched = b.watched) : WatchSound w b' := by
  have station : b'.station = b.station := (congrArg Branch.station same :)
  have interval : b'.interval = b.interval := (congrArg Branch.interval same :)
  have silent : b'.silent = b.silent := (congrArg Branch.silent same :)
  have supply : b'.supplyFailed = b.supplyFailed := (congrArg Branch.supplyFailed same :)
  exact ⟨station ▸ h.unwatched, interval ▸ h.interval, h.empty, silent ▸ h.silent, supply ▸ h.supply, h.recovers,
    h.unrecovered, h.timed, h.early⟩

/-! ### The moves of one record -/

/-- R95: a watched record that is not SILENT takes another of the states that watch, or other times. -/
theorem WatchSound.running (h : WatchSound w b) (hw : w.state ≠ .silent ∧ w.state ≠ .unwatched) {v : WatchState}
    (hv : v ≠ .silent ∧ v ≠ .unwatched) {due deadline : Option Nat} {passed : Bool} (hdue : due.isSome = true)
    (hdeadline : deadline.isSome = true) (early : v = .watching → passed = false) :
    WatchSound { w with state := v, due := due, deadline := deadline, deadlinePassed := passed } b where
  unwatched := ⟨fun no => absurd no hv.2, fun no => absurd (h.unwatched.2 no) hw.2⟩
  interval := h.interval
  empty no := absurd no hv.2
  silent := ⟨fun no => absurd (h.silent.1 no) hw.1, fun no => absurd no hv.1⟩
  supply := h.supply
  recovers no := absurd no hv.1
  unrecovered _ := h.unrecovered hw.1
  timed _ _ := ⟨hdue, hdeadline, (h.timed hw.1 hw.2).2.2⟩
  early := early

/-- R98, R99: a watched record comes to ask for a poll, or to wait for its reply. -/
theorem WatchSound.outstanding (h : WatchSound w b) (hw : w.state ≠ .silent ∧ w.state ≠ .unwatched) {v : WatchState}
    (hv : v = .pollDue ∨ v = .polled) : WatchSound { w with state := v } b := by
  obtain ⟨due, deadline, -⟩ := h.timed hw.1 hw.2
  rcases hv with rfl | rfl
  · exact h.running hw (by decide) due deadline nofun
  · exact h.running hw (by decide) due deadline nofun

/-- R101: the deadline passes while a poll is outstanding. -/
theorem WatchSound.passed (h : WatchSound w b) (hw : w.state = .pollDue ∨ w.state = .polled) :
    WatchSound { w with deadlinePassed := true } b := by
  have running : w.state ≠ .silent ∧ w.state ≠ .unwatched := by rcases hw with hw | hw <;> rw [hw] <;> decide
  obtain ⟨due, deadline, -⟩ := h.timed running.1 running.2
  refine h.running running running due deadline ?_
  rcases hw with hw | hw <;> rw [hw] <;> decide

/-- R102: the recovery poll of a SILENT record moves. -/
theorem WatchSound.recovering (h : WatchSound w b) (hw : w.state = .silent) {v : Recovery} (hv : v ≠ .noPoll) {d : Option Nat}
    (hd : d.isSome = true) : WatchSound { w with recovery := v, recoveryDue := d } b where
  __ := h
  empty no := absurd (hw.symm.trans no) (by decide)
  recovers _ :=
    have ⟨due, deadline, passed, _, _, lastGood⟩ := h.recovers hw
    ⟨due, deadline, passed, hv, hd, lastGood⟩
  unrecovered no := absurd hw no

/-- R97, R99: a watched record starts anew with a report, or with none. -/
theorem watchSound_restarted (station : b.station = true) (interval : w.interval = b.interval) (silent : b.silent = false)
    (clock : Nat) {r : Option StationReport} (supply : b.supplyFailed = reportHas StationReport.isFailed r) :
    WatchSound { w.restarted clock with lastReport := r } b where
  unwatched := by simp [Watch.restarted, station]
  interval := interval
  empty no := by cases no
  silent := by simp [Watch.restarted, silent]
  supply := supply
  recovers no := by cases no
  unrecovered _ := ⟨rfl, rfl⟩
  timed _ _ := ⟨rfl, rfl, rfl⟩
  early _ := rfl

/-- R102: a watched record whose silence the branch has been told of. -/
theorem watchSound_silenced (h : WatchSound w b) (hw : w.state ≠ .silent ∧ w.state ≠ .unwatched) (d : Nat) {b' : Branch}
    (hb : b'.watched = { b.watched with silent := true }) :
    WatchSound { w with state := .silent, due := none, deadline := none, deadlinePassed := false,
                        recovery := .waiting, recoveryDue := some d } b' :=
  WatchSound.congr (b := { b with silent := true })
    { unwatched := ⟨nofun, fun no => absurd (h.unwatched.2 no) hw.2⟩
      interval := h.interval
      empty := nofun
      silent := ⟨fun _ => rfl, fun _ => rfl⟩
      supply := h.supply
      recovers := fun _ => ⟨rfl, rfl, rfl, nofun, rfl, (h.timed hw.1 hw.2).2.2⟩
      unrecovered := fun no => absurd rfl no
      timed := fun no => absurd rfl no
      early := nofun } hb

/-- R97: the record of a branch without a station. -/
theorem watchSound_unwatched (station : b.station = false) (silent : b.silent = false) (supply : b.supplyFailed = false) :
    WatchSound { Watch.cold with interval := b.interval } b where
  unwatched := by simp [Watch.cold, station]
  interval := rfl
  empty _ := rfl
  silent := by simp [Watch.cold, silent]
  supply := supply
  recovers no := by cases no
  unrecovered _ := ⟨rfl, rfl⟩
  timed _ no := absurd rfl no
  early no := by cases no

/-- R96: a record with a changed interval, beside its branch with the same. -/
theorem WatchSound.withInterval (h : WatchSound w b) (i clock : Nat) :
    WatchSound (w.withInterval i clock) { b with interval := i } := by
  have base : WatchSound { w with interval := i } { b with interval := i } :=
    ⟨h.unwatched, rfl, fun hw => by rw [h.empty hw], h.silent, h.supply, h.recovers, h.unrecovered, h.timed, h.early⟩
  unfold Watch.withInterval
  extract_lets good due deadline
  split
  · rename_i hw
    have running : w.state ≠ .silent ∧ w.state ≠ .unwatched := by rw [hw]; decide
    split
    · exact base.running running (by decide) rfl rfl nofun
    · exact base.running running running rfl rfl h.early
  · rename_i hw
    have running : w.state ≠ .silent ∧ w.state ≠ .unwatched := by rw [hw]; decide
    exact base.running running running (h.timed running.1 running.2).1 rfl fun no => absurd (hw.symm.trans no) (by decide)
  · rename_i hw
    have running : w.state ≠ .silent ∧ w.state ≠ .unwatched := by rw [hw]; decide
    exact base.running running running (h.timed running.1 running.2).1 rfl fun no => absurd (hw.symm.trans no) (by decide)
  · exact base
  · exact base

/-- R108: a record after a warm restart. -/
theorem WatchSound.warm (h : WatchSound w b) (clock : Nat) : WatchSound (w.warm clock) b := by
  have starts : w.state ≠ .silent ∧ w.state ≠ .unwatched → WatchSound (w.restarted clock) b := fun hw =>
    watchSound_restarted (Bool.eq_true_of_not_eq_false (h.unwatched.not.1 hw.2)) h.interval
      (Bool.eq_false_of_not_eq_true (h.silent.not.2 hw.1)) clock h.supply
  unfold Watch.warm
  split
  · exact h
  · rename_i hw
    exact h.recovering (v := .due) (d := some clock) hw nofun rfl
  · rename_i unwatched silent
    exact starts ⟨silent, unwatched⟩

/-! ### What an act on one watch leaves of the others -/

theorem branch_of_branches (h : t.branches = s.branches) (k : Nat) : t.branch k = s.branch k := by
  rw [State.branch, h]
  rfl

theorem watch_of_butBranches (h : t.butBranches = s.butBranches) (k : Nat) : t.watch k = s.watch k :=
  show t.butBranches.watch k = _ from h ▸ rfl

theorem watch_of_butAlarms (h : t.butAlarms = s.butAlarms) (k : Nat) : t.watch k = s.watch k :=
  show t.butAlarms.watch k = _ from h ▸ rfl

theorem branch_of_butAlarms (h : t.butAlarms = s.butAlarms) (k : Nat) : t.branch k = s.branch k :=
  show t.butAlarms.branch k = _ from h ▸ rfl

theorem watched_of_undecided {b' : Branch} (h : b'.undecided = b.undecided) : b'.watched = b.watched :=
  (congrArg Branch.watched h :)

/-- An act on branch `n` and its watch: the others keep their watches and all of their branches but what is decided. -/
def Elsewhere (n : Nat) (s t : State) : Prop :=
  TablesSound s → TablesSound t ∧
    ∀ k, k ≠ n → t.watch k = s.watch k ∧ (t.branch k).undecided = (s.branch k).undecided

section Elsewhere
variable {n : Nat}

theorem Elsewhere.refl (n : Nat) (s : State) : Elsewhere n s s := fun h => ⟨h, fun _ _ => ⟨rfl, rfl⟩⟩

theorem Elsewhere.trans (h : Elsewhere n s t) (h' : Elsewhere n t u) : Elsewhere n s u := fun hs =>
  have ⟨ht, same⟩ := h hs
  have ⟨hu, same'⟩ := h' ht
  ⟨hu, fun k hk => ⟨(same' k hk).1.trans (same k hk).1, (same' k hk).2.trans (same k hk).2⟩⟩

theorem Elsewhere.ite {c : Prop} [Decidable c] (h : Elsewhere n s t) (h' : Elsewhere n s u) :
    Elsewhere n s (if c then t else u) := by split <;> assumption

theorem Elsewhere.of_butAlarms (h : t.butAlarms = s.butAlarms) : Elsewhere n s t := fun hs =>
  ⟨(HeadKept.of_butAlarms h).tables hs, fun k _ => ⟨watch_of_butAlarms h k, by rw [branch_of_butAlarms h]⟩⟩

theorem setWatch_elsewhere (n : Nat) (w : Watch) (s : State) : Elsewhere n s (s.setWatch n w) := fun hs =>
  ⟨hs.setWatch n w, fun k hk => ⟨by rw [watch_setWatch hs.watches, if_neg hk], rfl⟩⟩

theorem setBranch_elsewhere (n : Nat) (b : Branch) (s : State) : Elsewhere n s (s.setBranch n b) := fun hs =>
  ⟨hs.setBranch n b, fun k hk => ⟨rfl, by rw [branch_setBranch hs.branches, if_neg hk]⟩⟩

theorem decideBranches_elsewhere (n : Nat) (s : State) : Elsewhere n s (decideBranches s) := fun hs =>
  ⟨(decideBranches_kept s).tables hs, fun k _ =>
    ⟨watch_of_butBranches (decideBranches_butBranches s) k, decideBranches_undecided hs k⟩⟩

theorem changeBranch_elsewhere (n : Nat) (f : Branch → Branch) (s : State) : Elsewhere n s (changeBranch n f s) :=
  (setBranch_elsewhere n _ s).trans (decideBranches_elsewhere n _)

theorem WatchesSound.of_elsewhere (h : WatchesSound s) (hs : TablesSound s) (e : Elsewhere n s t)
    (here : WatchSound (s.watch n) (s.branch n) → WatchSound (t.watch n) (t.branch n)) : WatchesSound t :=
  watchesSound_iff.2 fun k => by
    have sound := watchesSound_iff.1 h
    by_cases hk : k = n
    · exact hk ▸ here (sound n)
    · obtain ⟨watch, branch⟩ := (e hs).2 k hk
      rw [watch]
      exact (sound k).congr (watched_of_undecided branch)

end Elsewhere

/-! ### What is posted of a report and of a silence (R97, R100, R102) -/

section Posted
variable (n : Nat) (old new : Option StationReport)

/-- The state with the station conditions of a change of report posted to the alarm list, before the correlator is told. -/
def reportListed (s : State) : State :=
  raiseStation .stationDoorOpen StationReport.doorOpen n old new
    (raiseStation .stationOnStandby StationReport.isStandby n old new
      (raiseStation .stationSupplyFailed StationReport.isFailed n old new
        (endStation .stationDoorOpen StationReport.doorOpen n old new
          (endStation .stationOnStandby StationReport.isStandby n old new
            (endStation .stationSupplyFailed StationReport.isFailed n old new s)))))

theorem postReport_eq (s : State) : postReport n old new s =
    if reportHas StationReport.isFailed old = reportHas StationReport.isFailed new then reportListed n old new s
    else postSupply n (reportHas StationReport.isFailed new) (reportListed n old new s) := rfl

theorem reportListed_butAlarms (s : State) : (reportListed n old new s).butAlarms = s.butAlarms := by
  have ends : ∀ k f u, (endStation k f n old new u).butAlarms = u.butAlarms := fun k f u => by
    unfold endStation
    split
    · exact endAlarm_butAlarms k n u
    · rfl
  have raises : ∀ k f u, (raiseStation k f n old new u).butAlarms = u.butAlarms := fun k f u => by
    unfold raiseStation
    split
    · exact raiseAlarm_butAlarms k n u
    · rfl
  unfold reportListed
  rw [raises, raises, raises, ends, ends, ends]

theorem postReport_elsewhere (s : State) : Elsewhere n s (postReport n old new s) := by
  have listed : Elsewhere n s (reportListed n old new s) := .of_butAlarms (reportListed_butAlarms n old new s)
  rw [postReport_eq]
  exact .ite listed (listed.trans (changeBranch_elsewhere n _ _))

theorem postReport_butBranches (s : State) : (postReport n old new s).butBranches = s.butBranches := by
  have listed := butBranches_of_butAlarms (reportListed_butAlarms n old new s)
  rw [postReport_eq]
  split
  · exact listed
  · exact (changeBranch_butBranches n _ _).trans listed

/-- R100: the correlator learns of a change of supply FAILED, and of nothing else. -/
theorem postReport_branch (hs : TablesSound s) : ((postReport n old new s).branch n).undecided =
    if reportHas StationReport.isFailed old = reportHas StationReport.isFailed new then (s.branch n).undecided
    else { (s.branch n).undecided with supplyFailed := reportHas StationReport.isFailed new } := by
  have listed := reportListed_butAlarms n old new s
  have tables := (HeadKept.of_butAlarms listed).tables hs
  rw [postReport_eq]
  split
  · rw [branch_of_butAlarms listed]
  · rw [postSupply, changeBranch_undecided tables, if_pos rfl, branch_of_butAlarms listed]
    rfl

theorem postSilence_branch (hs : TablesSound s) (v : Bool) :
    ((postSilence n v s).branch n).undecided = { (s.branch n).undecided with silent := v } := by
  rw [postSilence, changeBranch_undecided hs, if_pos rfl]
  rfl

theorem postSilenceEnd_elsewhere (s : State) : Elsewhere n s (postSilenceEnd n s) :=
  (changeBranch_elsewhere n _ s).trans (.of_butAlarms (endAlarm_butAlarms _ _ _))

theorem postSilenceEnd_butBranches (s : State) : (postSilenceEnd n s).butBranches = s.butBranches :=
  (butBranches_of_butAlarms (endAlarm_butAlarms _ _ _)).trans (changeBranch_butBranches n _ s)

theorem postSilenceEnd_branch (hs : TablesSound s) :
    ((postSilenceEnd n s).branch n).undecided = { (s.branch n).undecided with silent := false } := by
  rw [postSilenceEnd, branch_of_butAlarms (endAlarm_butAlarms _ _ _)]
  exact postSilence_branch n hs false

end Posted

end Watches

end Sys2Proof.Machine

namespace Sys2Proof.Machine

/-! ## What every operation keeps of the branches, the episodes, the watches and the survey clock

`NetworkKept P C s t` says that `t` is as sound as `s`: every branch its decision and its counts, every watch record its
agreement with its branch, every episode its condition; and that the survey clock stands. The counts are kept under `P`, that a
sync transaction's tap is installed, and the clock under `C`, that the return is OFF. An act that moves the branches or the
watches in several writes keeps the episodes at each of them (`EpisodesKept`), the decisions where it ends with one
(`OutageKept`), and the rest as a whole. -/

/-- What the outage correlator holds, with the survey clock. -/
def State.outage (s : State) : State :=
  { State.reset with
    branches := s.branches, tierCount := s.tierCount, branchEpisodes := s.branchEpisodes, tierEpisodes := s.tierEpisodes
    survey := { State.reset.survey with clock := s.survey.clock } }

/-- What the branches' counts, the watches and the episodes are sound by, with the survey clock. -/
def State.network (s : State) : State := { s.outage with taps := s.taps, watches := s.watches }

/-- What each write keeps. -/
structure EpisodesKept (C : Prop) (s t : State) : Prop where
  tables : TablesSound s → TablesSound t
  clock : C → t.survey.clock = s.survey.clock
  episodes : TablesSound s → EpisodesSound s → EpisodesSound t

/-- What an act keeps that ends with a decision of the branches. -/
structure OutageKept (C : Prop) (s t : State) : Prop extends EpisodesKept C s t where
  branches : TablesSound s → BranchesSound s → BranchesSound t

/-- What a whole act keeps. -/
structure NetworkKept (P C : Prop) (s t : State) : Prop extends OutageKept C s t where
  counts : P → TablesSound s → BranchCountsSound s → BranchCountsSound t
  watches : TablesSound s → WatchesSound s → WatchesSound t

section Relation
variable {P C : Prop} {s t u : State}

/-! ### The relations -/

theorem EpisodesKept.trans (h : EpisodesKept C s t) (h' : EpisodesKept C t u) : EpisodesKept C s u :=
  ⟨fun hs => h'.tables (h.tables hs), fun hc => (h'.clock hc).trans (h.clock hc),
    fun hs he => h'.episodes (h.tables hs) (h.episodes hs he)⟩

theorem OutageKept.trans (h : OutageKept C s t) (h' : OutageKept C t u) : OutageKept C s u :=
  ⟨h.toEpisodesKept.trans h'.toEpisodesKept, fun hs hb => h'.branches (h.tables hs) (h.branches hs hb)⟩

theorem NetworkKept.trans (h : NetworkKept P C s t) (h' : NetworkKept P C t u) : NetworkKept P C s u :=
  ⟨h.toOutageKept.trans h'.toOutageKept, fun hp hs hc => h'.counts hp (h.tables hs) (h.counts hp hs hc),
    fun hs hw => h'.watches (h.tables hs) (h.watches hs hw)⟩

theorem NetworkKept.refl (s : State) : NetworkKept P C s s := ⟨⟨⟨id, fun _ => rfl, fun _ => id⟩, fun _ => id⟩, fun _ _ => id, fun _ => id⟩

theorem OutageKept.refl (s : State) : OutageKept C s s := (NetworkKept.refl (P := True) s).toOutageKept

theorem EpisodesKept.ite {c : Prop} [Decidable c] (h : EpisodesKept C s t) (h' : EpisodesKept C s u) :
    EpisodesKept C s (if c then t else u) := by split <;> assumption

theorem OutageKept.ite {c : Prop} [Decidable c] (h : OutageKept C s t) (h' : OutageKept C s u) :
    OutageKept C s (if c then t else u) := by split <;> assumption

theorem NetworkKept.ite {c : Prop} [Decidable c] (h : NetworkKept P C s t) (h' : NetworkKept P C s u) :
    NetworkKept P C s (if c then t else u) := by split <;> assumption

theorem forEach_network (l : List Nat) {f : Nat → State → State} (h : ∀ n s, NetworkKept P C s (f n s)) (s : State) :
    NetworkKept P C s (forEach l f s) :=
  forEach_keeps (P := NetworkKept P C s) l f (fun n _ t ht => ht.trans (h n t)) s (.refl s)

/-! ### Acts beside what is read -/

theorem OutageKept.of_outage (h : t.outage = s.outage) (tables : TablesSound s → TablesSound t) : OutageKept C s t where
  tables := tables
  clock _ := show t.outage.survey.clock = _ from h ▸ rfl
  episodes _ he := show EpisodesSound t.outage from h ▸ he
  branches _ hb := hb.congr (branch_of_branches (show t.outage.branches = _ from h ▸ rfl))

/-- What the counts of a branch follow. -/
def State.tapView (s : State) (k : Nat) : Tap × Nat × Nat :=
  (s.reports k, (s.branch k).installedTaps, (s.branch k).unreachableTaps)

/-- What a watch record is sound by. -/
def State.watchView (s : State) (k : Nat) : Watch × Branch := (s.watch k, (s.branch k).watched)

theorem counts_of_tapView (h : Stands State.tapView s t) (hs : TablesSound s) (hc : BranchCountsSound s) :
    BranchCountsSound t := by
  obtain ⟨ht, same⟩ := h hs
  exact hc.congr hs ht (fun k => congrArg Prod.fst (same k)) (fun k => congrArg (fun v => v.2.1) (same k))
    (fun k => congrArg (fun v => v.2.2) (same k))

theorem watches_of_watchView (h : Stands State.watchView s t) (hs : TablesSound s) (hw : WatchesSound s) : WatchesSound t :=
  watchesSound_iff.2 fun k => by
    obtain ⟨watch, branch⟩ := Prod.mk.inj ((h hs).2 k)
    rw [watch]
    exact (watchesSound_iff.1 hw k).congr branch

/-- An act on the outage correlator that leaves the taps, the watches, and what the branches have been told of them. -/
theorem OutageKept.network (h : OutageKept C s t) (taps : Stands State.tapView s t) (watches : Stands State.watchView s t) :
    NetworkKept P C s t :=
  ⟨h, fun _ => counts_of_tapView taps, watches_of_watchView watches⟩

theorem NetworkKept.of_network (h : t.network = s.network) (tables : TablesSound s → TablesSound t) : NetworkKept P C s t :=
  have outage : t.outage = s.outage := show t.network.outage = _ from h ▸ rfl
  (OutageKept.of_outage outage tables).network
    (fun hs => ⟨tables hs, fun k => show t.network.tapView k = _ from h ▸ rfl⟩)
    (fun hs => ⟨tables hs, fun k => show t.network.watchView k = _ from h ▸ rfl⟩)

/-- An act beside the tables. -/
theorem NetworkKept.beside (records : t.records = s.records) (clock : t.survey.clock = s.survey.clock) : NetworkKept P C s t := by
  refine .of_network ?_ (HeadKept.of_records records).tables
  have view : t.network = { t.records.network with survey := { State.reset.survey with clock := t.survey.clock } } := rfl
  rw [view, records, clock]
  rfl

theorem NetworkKept.of_butAlarms (h : t.butAlarms = s.butAlarms) : NetworkKept P C s t :=
  .beside (show t.butAlarms.records = _ from h ▸ rfl) (show t.butAlarms.survey.clock = _ from h ▸ rfl)

theorem NetworkKept.of_butPorts (h : t.butPorts = s.butPorts) : NetworkKept P C s t := .of_butAlarms (butAlarms_of_butPorts h)

/-- R47: an act on the sync statuses of the taps. -/
theorem NetworkKept.of_sync (h : t.butSync = s.butSync) (reports : Stands State.reports s t) : NetworkKept P C s t := by
  have branch : ∀ k, t.branch k = s.branch k := fun k => show t.butSync.branch k = _ from h ▸ rfl
  have watch : ∀ k, t.watch k = s.watch k := fun k => show t.butSync.watch k = _ from h ▸ rfl
  refine OutageKept.network (.of_outage (show t.butSync.outage = _ from h ▸ rfl) fun hs => (reports hs).1) ?_ ?_
  · exact fun hs => ⟨(reports hs).1, fun k => by rw [State.tapView, (reports hs).2 k, branch]; rfl⟩
  · exact fun hs => ⟨(reports hs).1, fun k => by rw [State.watchView, watch, branch]; rfl⟩

/-! ### Time, messages and alarms -/

/-- R94: the survey clock stands while the return is OFF. -/
theorem passTime_network (h : C → s.engine.returnOn = false) (d : Nat) : NetworkKept P C s (passTime d s) := by
  have kept : NetworkKept P False s (passTime d s) := by
    have tables := (passTime_kept d s).tables
    have stands : ∀ k, (passTime d s).tapView k = s.tapView k := fun k => by
      simp [State.tapView, State.reports, State.tap, State.branch]
    have watched : ∀ k, (passTime d s).watchView k = s.watchView k := fun k => by
      simp [State.watchView, State.watch, State.branch]
    refine OutageKept.network ⟨⟨tables, fun no => no.elim, fun _ he => ?_⟩, fun _ hb => hb.congr fun k => ?_⟩
      (fun hs => ⟨tables hs, stands⟩) (fun hs => ⟨tables hs, watched⟩)
    · have same : (passTime d s).branchEpisodes = s.branchEpisodes ∧ (passTime d s).branches = s.branches ∧
          (passTime d s).tierEpisodes = s.tierEpisodes ∧ (passTime d s).tierCount = s.tierCount := by simp
      obtain ⟨episodes, branches, tierEpisodes, tierCount⟩ := same
      simp only [EpisodesSound, State.branchEpisode, State.tierEpisode, State.branch, State.heldCount, episodes, branches,
        tierEpisodes, tierCount]
      exact he
    · simp [State.branch]
  exact { kept with clock := fun hc => by rw [passTime_survey_of_returnOff s d (h hc)] }

theorem setPort_network (p : Master) (q : Port) (s : State) : NetworkKept P C s (s.setPort p q) :=
  .of_butPorts (setPort_butPorts p q s)

theorem putAnswer_network (p : Master) (m : Msg) (a : Ans) (s : State) : NetworkKept P C s (putAnswer p m a s) :=
  setPort_network _ _ s

theorem raiseAlarm_network (k : AlarmKind) (o : Nat) (s : State) : NetworkKept P C s (raiseAlarm k o s) :=
  .of_butAlarms (raiseAlarm_butAlarms k o s)

theorem endAlarm_network (k : AlarmKind) (o : Nat) (s : State) : NetworkKept P C s (endAlarm k o s) :=
  .of_butAlarms (endAlarm_butAlarms k o s)

/-! ### The outage correlator -/

theorem setBranch_episodes {n : Nat} {v : Branch} (hv : v.affected = (s.branch n).affected) :
    EpisodesKept C s (s.setBranch n v) where
  tables h := h.setBranch n v
  clock _ := rfl
  episodes hs he := ⟨BranchEpisodesSound.congr he.1 (fun _ => rfl) fun k => by
    rw [branch_setBranch hs.branches]
    split
    · subst k; exact hv
    · rfl, he.2⟩

/-- R125, R127: a decision, whatever inputs it finds. -/
theorem decideBranches_episodesKept (s : State) : EpisodesKept C s (decideBranches s) := by
  have but := decideBranches_butBranches s
  exact ⟨(decideBranches_kept s).tables, fun _ => show (decideBranches s).butBranches.survey.clock = _ from but ▸ rfl,
    fun hs he => ⟨decideBranches_episodes hs he.1, show TierEpisodesSound (decideBranches s).butBranches from but ▸ he.2⟩⟩

theorem EpisodesKept.decided (h : EpisodesKept C s t) : OutageKept C s (decideBranches t) :=
  ⟨h.trans (decideBranches_episodesKept t), fun hs _ => decideBranches_sound (h.tables hs)⟩

theorem changeBranch_outage (n : Nat) {f : Branch → Branch} (hf : ∀ r, (f r).affected = r.affected) (s : State) :
    OutageKept C s (changeBranch n f s) :=
  (setBranch_episodes (v := f (s.branch n)) (hf _)).decided

theorem changeBranch_tapView (n : Nat) {f : Branch → Branch}
    (hf : ∀ r, ((f r).installedTaps, (f r).unreachableTaps) = (r.installedTaps, r.unreachableTaps)) (s : State) :
    Stands State.tapView s (changeBranch n f s) := fun hs =>
  ⟨(changeBranch_kept n f s).tables hs, fun k => by
    have counts : ((changeBranch n f s).branch k).installedTaps = (s.branch k).installedTaps ∧
        ((changeBranch n f s).branch k).unreachableTaps = (s.branch k).unreachableTaps := by
      refine Prod.mk.inj ((changeBranch_read (g := fun r => (r.installedTaps, r.unreachableTaps)) (fun _ _ _ _ => rfl) hs n f k).trans ?_)
      rw [hf]
      exact ite_eq_right_iff.2 fun hk => hk ▸ rfl
    rw [State.tapView, counts.1, counts.2, reports_of_taps (taps_of_butBranches (changeBranch_butBranches n f s))]
    rfl⟩

theorem changeBranch_watchView (n : Nat) {f : Branch → Branch} (hf : ∀ r, (f r).watched = r.watched) (s : State) :
    Stands State.watchView s (changeBranch n f s) := fun hs =>
  ⟨(changeBranch_kept n f s).tables hs, fun k => by
    have branch : ((changeBranch n f s).branch k).watched = (s.branch k).watched := by
      refine (changeBranch_read (g := Branch.watched) (fun _ _ _ _ => rfl) hs n f k).trans ?_
      rw [hf]
      exact ite_eq_right_iff.2 fun hk => hk ▸ rfl
    rw [State.watchView, branch, watch_of_butBranches (changeBranch_butBranches n f s)]
    rfl⟩

/-- R126, R127: one tier's count and its episode are decided together. -/
theorem decideTier_network (n : Nat) (s : State) : NetworkKept P C s (decideTier n s) := by
  refine OutageKept.network ⟨⟨fun h => decideTier_tables h n, fun _ => rfl, fun hs he => ⟨he.1, fun k hk => ?_⟩⟩,
    fun _ hb => hb.congr fun _ => rfl⟩ (fun h => ⟨decideTier_tables h n, fun _ => rfl⟩) (fun h => ⟨decideTier_tables h n, fun _ => rfl⟩)
  obtain ⟨-, -, -, -, -, -, -, -, -, episodes, -⟩ := id hs
  have episode : (decideTier n s).tierEpisode k = if k = n
      then (s.tierEpisode n).after (decide (s.heldCount n ≠ 0)) (decide (s.impairedIn n ≠ 0)) s.billing.clock
      else s.tierEpisode k :=
    tierEpisode_setTierEpisode (s := { s with tierCount := tabPut 0 s.tierCount n (s.impairedIn n) }) episodes n k _
  rw [episode, decideTier_heldCount hs]
  split
  · subst k; exact EpisodeSound.after (.inl (he.2 n hk)) _
  · exact he.2 k hk

theorem decideTiers_network (s : State) : NetworkKept P C s (decideTiers s) := forEach_network _ decideTier_network s

end Relation

end Sys2Proof.Machine

namespace Sys2Proof.Machine

/-! ## The head end, the ports and the events leave the network's soundness -/

section HeadActs
variable {P C : Prop} {s t u : State}

/-! ### The slots -/

theorem setSlot_network (n : Nat) (v : Slot) (s : State) : NetworkKept P C s (s.setSlot n v) :=
  .of_network rfl fun h => h.setSlot n v

theorem setSub_network (n : Nat) (v : Subscriber) (s : State) : NetworkKept P C s (s.setSub n v) :=
  .of_network rfl fun h => h.setSub n v

theorem setEvent_network (n : Nat) (v : Event) (s : State) : NetworkKept P C s (s.setEvent n v) :=
  .of_network rfl fun h => h.setEvent n v

theorem setSource_network (n : Nat) (v : Source) (s : State) : NetworkKept P C s (s.setSource n v) :=
  .of_network rfl fun h => h.setSource n v

theorem setJudgement_network (n : Nat) (j : Judgement) (l h c : Nat) (s : State) :
    NetworkKept P C s (setJudgement n j l h c s) :=
  (setSlot_network n _ s).trans (.of_butAlarms (setJudgement_butAlarms n j l h c s))

theorem disturb_network (n : Nat) (s : State) : NetworkKept P C s (disturb n s) := by
  unfold disturb
  split
  · exact .ite (.beside rfl rfl) (.refl s)
  · exact .refl s

theorem rampPosted_network (n : Nat) (b : Bool) (s : State) : NetworkKept P C s (rampPosted n b s) :=
  .ite ((disturb_network n s).trans (setJudgement_network _ _ _ _ _ _)) (disturb_network n s)

theorem sendModulator_network (n : Nat) (l : Option Nat) (s : State) : NetworkKept P C s (sendModulator n l s) :=
  .beside rfl rfl

theorem sendIfMoved_network (n a b : Nat) (s : State) : NetworkKept P C s (sendIfMoved n a b s) :=
  .ite (.refl s) (sendModulator_network n _ s)

theorem turnOn_network (n : Nat) (s : State) : NetworkKept P C s (turnOn n s) :=
  ((setSlot_network n _ s).trans (sendModulator_network n (some 100) _)).trans (rampPosted_network n true _)

theorem turnOff_network (n : Nat) (s : State) : NetworkKept P C s (turnOff n s) :=
  (((setSlot_network n _ s).trans (sendModulator_network n none _)).trans (rampPosted_network n true _)).trans
    (decideTiers_network _)

theorem reAim_network (n : Nat) (s : State) : NetworkKept P C s (reAim n s) := by
  unfold reAim
  extract_lets r
  split
  · exact .refl s
  · exact (setSlot_network n _ s).trans (rampPosted_network n true _)

theorem recomputeAim_network (n : Nat) (s : State) : NetworkKept P C s (recomputeAim n s) := by
  have aimed : NetworkKept P C s (s.setSlot n ((s.slot n).aimed s.power.mode)) := setSlot_network _ _ s
  rw [recomputeAim_eq]
  exact .ite aimed (.ite (aimed.trans (reAim_network n _)) (.ite aimed (aimed.trans (turnOn_network n _))))

theorem takeStep_network (n : Nat) (s : State) : NetworkKept P C s (takeStep n s) := by
  unfold takeStep
  extract_lets r level next
  exact .ite
    (.ite (turnOff_network n s)
      (((setSlot_network n _ s).trans (sendIfMoved_network n _ _ _)).trans (rampPosted_network n false _)))
    ((setSlot_network n _ s).trans (sendIfMoved_network n _ _ _))

theorem refreshSlot_network (n : Nat) (s : State) : NetworkKept P C s (refreshSlot n s) :=
  ((setSlot_network n _ s).trans (recomputeAim_network n _)).trans (decideTiers_network _)

/-! ### The power mode and the sources -/

theorem decideMode_network (s : State) : NetworkKept P C s (decideMode s) := by
  unfold decideMode
  extract_lets old new _ s1 s2
  have taken : NetworkKept P C s s1 := .of_network rfl id
  have aimed : NetworkKept P C s1 s2 :=
    forEach_network _ (fun n u => (recomputeAim_network n u).trans (decideTiers_network _)) s1
  exact .ite (.refl s) ((taken.trans aimed).trans (.of_butAlarms (announceMode_butAlarms _ _ _)))

theorem presenceTaken_network (n : Nat) (s : State) : NetworkKept P C s (presenceTaken n s) := by
  have posted : NetworkKept P C s (if (s.source n).present then endAlarm .sourceLost n s else raiseAlarm .sourceLost n s) :=
    .ite (endAlarm_network _ _ s) (raiseAlarm_network _ _ s)
  exact posted.trans (forEach_network _ (fun k u => .ite (setSlot_network k _ u) (.refl u)) _)

theorem presenceChanged_network (n : Nat) (s : State) : NetworkKept P C s (presenceChanged n s) :=
  (presenceTaken_network n s).trans (decideTiers_network _)

/-! ### The level monitor -/

theorem scanSlot_network (n l : Nat) (d : Bool) (s : State) : NetworkKept P C s (scanSlot n l d s) := by
  have measured : NetworkKept P C s (s.setSlot n { s.slot n with measured := some l }) := setSlot_network _ _ s
  exact .ite measured ((measured.trans (setJudgement_network _ _ _ _ _ _)).trans (decideTiers_network _))

theorem completeConversion_network (c : Conversion) (r : Nat) (s : State) :
    NetworkKept P C s (completeConversion c r s) := by
  unfold completeConversion
  split
  · exact .beside rfl rfl
  · exact (scanSlot_network _ _ _ s).trans (.beside rfl rfl)

theorem clearJudgements_network (s : State) : NetworkKept P C s (clearJudgements s) :=
  forEach_network _ (fun n u => (setSlot_network n _ u).trans (setJudgement_network _ _ _ _ _ _)) s

theorem applyMonitor_network (old : Monitor) (s : State) : NetworkKept P C s (applyMonitor old s) := by
  have restarts : NetworkKept P C s (restartConversion s) := by
    unfold restartConversion
    split
    · exact .beside rfl rfl
    · exact .refl s
  have enables : ∀ u, NetworkKept P C u (monitorEnabled u) := fun u => by
    unfold monitorEnabled
    extract_lets _ u1
    have settles : NetworkKept P C u u1 := .beside rfl rfl
    exact settles.trans ((endAlarm_network .monitorOff 0 u1).trans (.beside rfl rfl))
  have disables : ∀ u, NetworkKept P C u (monitorDisabled u) := fun u => by
    unfold monitorDisabled
    extract_lets _ u1
    have stopped : NetworkKept P C u (driveSelect none u1) := .beside rfl rfl
    exact ((stopped.trans (clearJudgements_network _)).trans (decideTiers_network _)).trans (raiseAlarm_network .monitorOff 0 _)
  unfold applyMonitor
  extract_lets s1
  have h1 : NetworkKept P C s s1 := .ite (.refl s) restarts
  exact .ite (h1.trans (enables _)) (.ite (h1.trans (disables _)) h1)

/-! ### The port synchroniser -/

theorem entryTest_network (n : Nat) (s : State) : NetworkKept P C s (entryTest n s) :=
  .of_sync (entryTest_butSync n s) (entryTest_reports n s)

theorem entryTestOf_network (o : Option Nat) (s : State) : NetworkKept P C s (entryTestOf o s) := by
  cases o with
  | none => exact .refl s
  | some n => exact entryTest_network n s

theorem entryTestAll_network (s : State) : NetworkKept P C s (entryTestAll s) := forEach_network _ entryTest_network s

theorem setSync_network (n : Nat) (v : SyncStatus) (s : State) : NetworkKept P C s (setSync n v s) :=
  .of_sync (setSync_butSync n v s) (setSync_reports n v s)

theorem enterSync_network (n : Nat) (s : State) : NetworkKept P C s (enterSync n s) :=
  have listed : NetworkKept P C s { s with syncSet := s.syncSet ++ [n] } := .beside rfl rfl
  listed.trans (setSync_network n .queued _)

theorem rebuildSync_network (s : State) : NetworkKept P C s (rebuildSync s) :=
  .of_sync (rebuildSync_butSync s) (rebuildSync_reports s)

/-! ### The arbiter -/

/-- R98: what a grant makes of a watch record: the one whose poll it takes was due, and becomes POLLED. -/
def Watch.OrPolled (x y : Watch) : Prop := y = x ∨ (x.state = .pollDue ∧ y = { x with state := .polled }) ∨
  (x.state = .silent ∧ x.recovery = .due ∧ y = { x with recovery := .polled })

theorem WatchSound.orPolled {x y : Watch} {b : Branch} (h : WatchSound x b) (polled : x.OrPolled y) : WatchSound y b := by
  rcases polled with rfl | ⟨due, rfl⟩ | ⟨silent, -, rfl⟩
  · exact h
  · exact h.outstanding (by rw [due]; decide) (.inr rfl)
  · obtain ⟨-, -, -, -, recoveryDue, -⟩ := h.recovers silent
    exact h.recovering (v := .polled) silent nofun recoveryDue

theorem grantSurvey_watch (hs : TablesSound s) (k : Nat) : (s.watch k).OrPolled ((grantSurvey s).watch k) := by
  cases poll : s.choosePoll with
  | some n =>
    obtain ⟨d, due, -⟩ := choosePoll_eq_some hs poll
    obtain ⟨marked, others⟩ := markPolled_due hs due
    rw [grantSurvey_poll poll]
    change (s.watch k).OrPolled ((markPolled n s).watch k)
    by_cases hk : k = n
    · subst hk; exact .inr marked
    · exact .inl (others k hk)
  | none =>
    cases audit : s.chooseAudit with
    | some n => rw [grantSurvey_audit poll audit]; exact .inl rfl
    | none => rw [grantSurvey, poll, audit]; exact .inl rfl

theorem grantTo_watch (hs : TablesSound s) (r : Requester) (k : Nat) : (s.watch k).OrPolled ((grantTo r s).watch k) := by
  cases r with
  | broadcast => exact .inl rfl
  | technician =>
    cases waiting : s.techQ.waiting with
    | nil => rw [grantTo, grantTechnician, waiting]; exact .inl rfl
    | cons q rest => rw [grantTo, grantTechnician_eq waiting]; exact .inl rfl
  | sync =>
    cases queued : s.syncSet with
    | nil => rw [grantTo, grantSync, queued]; exact .inl rfl
    | cons n rest =>
      rw [grantTo, grantSync_eq queued]
      refine .inl (show (setSync n .inFlight _).watch k = _ from ?_)
      rw [show ∀ u : State, u.watch k = u.butSync.watch k from fun _ => rfl, setSync_butSync]
      rfl
  | survey => exact grantSurvey_watch hs k

theorem grantTo_clock (r : Requester) (s : State) : (grantTo r s).survey.clock = s.survey.clock := by
  cases r with
  | broadcast => rfl
  | technician =>
    cases waiting : s.techQ.waiting with
    | nil => rw [grantTo, grantTechnician, waiting]
    | cons q rest => rw [grantTo, grantTechnician_eq waiting]; rfl
  | sync =>
    cases queued : s.syncSet with
    | nil => rw [grantTo, grantSync, queued]
    | cons n rest =>
      rw [grantTo, grantSync_eq queued]
      change (setSync n .inFlight _).survey.clock = _
      rw [show ∀ u : State, u.survey = u.butSync.survey from fun _ => rfl, setSync_butSync]
      rfl
  | survey =>
    cases poll : s.choosePoll with
    | some n => rw [grantTo, grantSurvey_poll poll]; exact congrArg Survey.clock (markPolled_leaves n s).2.2
    | none =>
      cases audit : s.chooseAudit with
      | some n => rw [grantTo, grantSurvey_audit poll audit]; rfl
      | none => rw [grantTo, grantSurvey, poll, audit]

/-- R82: the arbiter's decision leaves every watch record, or makes a poll that was due. -/
theorem arbitrate_watch (hs : TablesSound s) (k : Nat) : (s.watch k).OrPolled ((arbitrate s).watch k) := by
  unfold arbitrate
  split
  · split
    · exact grantTo_watch (s := { s with arbiter := s.arbiter.granted _ }) hs _ k
    · exact .inl rfl
  · exact .inl rfl

theorem arbitrate_clock (s : State) : (arbitrate s).survey.clock = s.survey.clock := by
  unfold arbitrate
  split
  · split
    · exact grantTo_clock _ _
    · rfl
  · rfl

theorem arbitrate_branch (s : State) (k : Nat) : (arbitrate s).branch k = s.branch k :=
  branch_of_branches (branches_of_butCarrier (arbitrate_butCarrier s)) k

theorem arbitrate_network (s : State) : NetworkKept P C s (arbitrate s) := by
  have tables := (arbitrate_kept s).tables
  have outage : (arbitrate s).outage = s.outage := by
    have beside := congrArg (fun u : State => { u.outage with survey := { State.reset.survey with clock := s.survey.clock } })
      (arbitrate_butCarrier s)
    unfold State.outage
    rw [arbitrate_clock]
    exact beside
  refine ⟨.of_outage outage tables, fun _ => counts_of_tapView fun hs => ⟨tables hs, fun k => ?_⟩, fun hs h => ?_⟩
  · rw [State.tapView, (arbitrate_reports s hs).2 k, arbitrate_branch]
    rfl
  · refine watchesSound_iff.2 fun k => ?_
    rw [arbitrate_branch]
    exact (watchesSound_iff.1 h k).orPolled (arbitrate_watch hs k)

/-! ### The events and the accrual engine -/

theorem announceEvent_network {decide : State → State} (hd : ∀ u, NetworkKept P C u (decide u)) (e : Nat) (o : EventState)
    (s : State) : NetworkKept P C s (announceEvent decide e o s) := by
  have tested : NetworkKept P C s (testBuyers e s) := forEach_network _ (fun _ _ => entryTestOf_network _ _) s
  exact ((tested.trans (hd _)).trans (decideTiers_network _)).trans (.of_butPorts (noticeTo_butPorts _ _ _ _))

theorem mapPurchases_network (e : Nat) (g : Purchase → Purchase) (s : State) : NetworkKept P C s (mapPurchases e g s) :=
  forEach_network _ (fun n u => setSub_network n _ u) s

theorem startEvent_network {decide : State → State} (hd : ∀ u, NetworkKept P C u (decide u)) (e : Nat) (s : State) :
    NetworkKept P C s (startEvent decide e s) :=
  (setEvent_network e _ s).trans (announceEvent_network hd e _ _)

theorem endEvent_network {decide : State → State} (hd : ∀ u, NetworkKept P C u (decide u)) (e : Nat) (s : State) :
    NetworkKept P C s (endEvent decide e s) :=
  ((setEvent_network e _ s).trans (mapPurchases_network e _ _)).trans (announceEvent_network hd e _ _)

theorem evaluateEvents_network {decide : State → State} (hd : ∀ u, NetworkKept P C u (decide u)) (m : Nat) (s : State) :
    NetworkKept P C s (evaluateEvents decide m s) := by
  have shown : NetworkKept P C s (endShowing decide m s) := by
    unfold endShowing
    split
    · exact .ite (endEvent_network hd _ s) (.refl s)
    · exact .refl s
  have starts : ∀ e u, NetworkKept P C u (takeStart decide m e u) := fun e u =>
    .ite ((startEvent_network hd e u).trans (endEvent_network hd e _)) (startEvent_network hd e u)
  exact shown.trans (forEach_network _ starts _)

theorem cancelShowing_network (e : Nat) (s : State) : NetworkKept P C s (cancelShowing e s) :=
  ((setEvent_network e _ s).trans (mapPurchases_network e _ _)).trans (announceEvent_network arbitrate_network e _ _)

theorem cancelScheduled_network (e : Nat) (s : State) : NetworkKept P C s (cancelScheduled e s) :=
  ((forEach_network _ (fun n u => setSub_network n _ u) s).trans (setEvent_network e _ _)).trans
    (.of_butPorts (noticeTo_butPorts _ _ _ _))

/-- R127: an episode that grows older stays what it was. -/
theorem EpisodeSound.aged {e : Episode} {holds : Bool} (h : EpisodeSound e holds) : EpisodeSound e.aged holds := by
  obtain ⟨stands, opened, shut⟩ := h
  unfold Episode.aged
  split
  · rename_i isOpen
    exact ⟨stands, fun _ => ⟨(opened isOpen).1, Nat.min_le_left _ _⟩, fun no => absurd (isOpen.symm.trans no) (by decide)⟩
  · exact ⟨stands, opened, shut⟩

theorem ageEpisodes_network (s : State) : NetworkKept P C s (ageEpisodes s) := by
  have tables : TablesSound s → TablesSound (ageEpisodes s) := fun h => by simp_all [TablesSound, ageEpisodes, tabWf_tabMap]
  refine OutageKept.network ⟨⟨tables, fun _ => rfl, fun hs he => ?_⟩, fun _ hb => hb.congr fun _ => rfl⟩
    (fun hs => ⟨tables hs, fun _ => rfl⟩) (fun hs => ⟨tables hs, fun _ => rfl⟩)
  obtain ⟨-, -, -, -, -, -, -, -, branchEpisodes, tierEpisodes, -⟩ := hs
  obtain ⟨branches, tiers⟩ := he
  refine ⟨fun n => ?_, fun n hn => ?_⟩
  · have older : (ageEpisodes s).branchEpisode n = (s.branchEpisode n).aged := tabGet_tabMap (by rfl) branchEpisodes n
    rw [older]
    exact (branches n).aged
  · have older : (ageEpisodes s).tierEpisode n = (s.tierEpisode n).aged := tabGet_tabMap (by rfl) tierEpisodes n
    rw [older]
    exact (tiers n hn).aged

theorem countShown_network (e : Option Nat) (s : State) : NetworkKept P C s (countShown e s) := by
  cases e with
  | none => exact .refl s
  | some e => exact setEvent_network e _ s

theorem countCleanSweep_network (s : State) : NetworkKept P C s (countCleanSweep s) :=
  (NetworkKept.of_network (s := s) (t := s.countedClean) rfl id).trans (.of_butAlarms (countCleanSweep_butAlarms s))

theorem startSweep_network (s : State) : NetworkKept P C s (startSweep s) := by
  have begins : NetworkKept P C s (beginSweep s) := by
    unfold beginSweep
    extract_lets e s1 _ s2
    have h2 : NetworkKept P C s s2 := ((ageEpisodes_network s).trans (countShown_network e _)).trans (.of_network rfl id)
    exact .ite (h2.trans (raiseAlarm_network _ _ _)) h2
  have halts : NetworkKept P C s { s with billing := { s.billing with halted := true } } := .of_network rfl id
  exact .ite begins (halts.trans (countCleanSweep_network _))

theorem tickSweep_network (s : State) : NetworkKept P C s (tickSweep s) := by
  unfold tickSweep
  split
  · exact startSweep_network s
  · exact .of_network rfl id
  · have lost : NetworkKept P C s { s with billing := { s.billing with clean := 0, overrun := true } } := .of_network rfl id
    exact lost.trans (raiseAlarm_network _ _ _)

theorem closeNoiseMinute_network (s : State) : NetworkKept P C s (closeNoiseMinute s) :=
  (NetworkKept.of_network (s := s) (t := s.noiseClosed) rfl id).trans (.of_butAlarms (closeNoiseMinute_butAlarms s))

theorem takeTick_network (s : State) : NetworkKept P C s (takeTick s) := by
  unfold takeTick
  extract_lets clock _ s1
  have passed : NetworkKept P C s s1 := .of_network rfl id
  exact ((passed.trans (evaluateEvents_network arbitrate_network clock s1)).trans (tickSweep_network _)).trans
    (closeNoiseMinute_network _)

theorem closeCycle_network (s : State) : NetworkKept P C s (closeCycle s).1 := by
  have reset : ∀ u, NetworkKept P C u (resetCycle u) := fun u => by
    unfold resetCycle
    extract_lets overdue held u1
    have written : NetworkKept P C u u1 := .of_network rfl fun h => by simp_all [TablesSound, u1, held, tabWf_tabMap]
    exact .ite (written.trans (endAlarm_network _ _ _)) written
  have snapped : NetworkKept P C s { s with snapshot := some s.takeSnapshot } := .beside rfl rfl
  exact snapped.trans (reset _)

theorem completeSweep_network (s : State) : NetworkKept P C s (completeSweep s) := by
  have answers : ∀ a u, NetworkKept P C u (answerInProgress .office a u) := fun a u => by
    unfold answerInProgress
    split
    · exact (setPort_network _ _ u).trans (putAnswer_network _ _ _ _)
    · exact .refl u
  have closed : ∀ u, NetworkKept P C u (takeWaitingClose u) := fun u =>
    .ite ((closeCycle_network u).trans (answers _ _)) (.refl u)
  have pending : ∀ u, NetworkKept P C u (takePendingTick u) := fun u => by
    have cleared : NetworkKept P C u { u with billing := { u.billing with tickPending := false } } := .of_network rfl id
    exact .ite (cleared.trans (startSweep_network _)) (.refl u)
  have ended : NetworkKept P C s { s with billing := { s.billing with sweep := none } } := .of_network rfl id
  exact ((ended.trans (countCleanSweep_network _)).trans (closed _)).trans (pending _)

theorem sweepOne_network (w : Sweep) (s : State) : NetworkKept P C s (sweepOne w s) := by
  have visited : NetworkKept P C s (visitRecord w.shown w.cursor s) := by
    unfold visitRecord
    extract_lets r
    split
    · exact .refl s
    · exact setSub_network _ _ s
  exact .ite (visited.trans (completeSweep_network _)) (visited.trans (.of_network rfl id))

end HeadActs

end Sys2Proof.Machine

namespace Sys2Proof.Machine

/-! ## The taps and the survey unit leave the network sound -/

section TapActs
variable {P C : Prop} {s t u : State} {n : Nat}

/-! ### The reachability of a tap (R40) -/

theorem postReach_outage (o : Option Nat) (x y : Bool) (s : State) : OutageKept C s (postReach o x y s) := by
  unfold postReach
  split
  · exact .refl s
  · exact .ite (changeBranch_outage _ (fun _ => by rfl) s) (.ite (changeBranch_outage _ (fun _ => by rfl) s) (.refl s))

theorem Stands.same {β : Type} {g : State → Nat → β} (tables : TablesSound s → TablesSound t) (h : ∀ k, g t k = g s k) :
    Stands g s t := fun hs => ⟨tables hs, h⟩

theorem postReach_watchView (o : Option Nat) (x y : Bool) (s : State) : Stands State.watchView s (postReach o x y s) := by
  unfold postReach
  split
  · exact .refl s
  · exact .ite (changeBranch_watchView _ (fun _ => by rfl) s) (.ite (changeBranch_watchView _ (fun _ => by rfl) s) (.refl s))

/-- A tap's record written, with the branches and the watches as they stood. -/
structure TapWritten (n : Nat) (s t : State) : Prop where
  outage : t.outage = s.outage
  watches : t.watches = s.watches
  tables : TablesSound s → TablesSound t
  others : TablesSound s → ∀ k, k ≠ n → t.tap k = s.tap k
  hangs : TablesSound s → (t.tap n).installed = (s.tap n).installed ∧ (t.tap n).branch = (s.tap n).branch

/-- R40: an installed tap's record is written, and the change of its reachability posted. -/
theorem TapWritten.posted (h : TapWritten n s t) (installed : P → (s.tap n).installed = true) :
    NetworkKept P C s (postReachability n (s.tap n).reach t) := by
  have branches : t.branches = s.branches := show t.outage.branches = _ from h.outage ▸ rfl
  have branch := branch_of_branches branches
  have watchView : Stands State.watchView s t := .same h.tables fun k => by
    rw [State.watchView, branch, State.watch, h.watches]
    rfl
  have written : OutageKept C s t := .of_outage h.outage h.tables
  have outage := written.trans (postReach_outage (t.tap n).branch (decide ((s.tap n).reach = .unreachable))
    (decide ((t.tap n).reach = .unreachable)) t)
  have reached : NetworkKept P C s (postReach (t.tap n).branch (decide ((s.tap n).reach = .unreachable))
      (decide ((t.tap n).reach = .unreachable)) t) :=
    ⟨outage, fun hp hs hc =>
      have ⟨stays, hung⟩ := h.hangs hs
      hc.postReach hs (h.tables hs) branch (h.others hs) (installed hp) (stays.trans (installed hp)) hung,
      watches_of_watchView (watchView.trans (postReach_watchView _ _ _ t))⟩
  exact reached.trans (.of_butAlarms (postChange_butAlarms _ _ _ _ _))

theorem setTap_written {v : Tap} (hv : v.installed = (s.tap n).installed ∧ v.branch = (s.tap n).branch) :
    TapWritten n s (s.setTap n v) where
  outage := rfl
  watches := rfl
  tables h := h.setTap n v
  others h k hk := by rw [tap_setTap h.taps, if_neg hk]
  hangs h := by rw [tap_setTap h.taps, if_pos rfl]; exact hv

theorem setReach_network (installed : P → (s.tap n).installed = true) (v : Reach) : NetworkKept P C s (setReach n v s) :=
  (setTap_written (n := n) (v := { s.tap n with reach := v }) ⟨rfl, rfl⟩).posted installed

theorem statusWritten_written (n : Nat) (m : Quad TierSet) (rev : Nat) (housing : Bool) (s : State) :
    TapWritten n s (statusWritten n m rev housing s) := by
  have confirmed := confirmTiers_butSubs n m (s.setTap n ((s.tap n).taken m rev housing))
  have written := setTap_written (n := n) (s := s) (v := (s.tap n).taken m rev housing) ⟨rfl, rfl⟩
  have taps : ∀ k, (statusWritten n m rev housing s).tap k = (s.setTap n ((s.tap n).taken m rev housing)).tap k :=
    tap_of_taps (congrArg State.taps confirmed :)
  exact
    { outage := (congrArg State.outage confirmed :)
      watches := (congrArg State.watches confirmed :)
      tables := fun h => (confirmTiers_kept n m _).tables (written.tables h)
      others := fun h k hk => (taps k).trans (written.others h k hk)
      hangs := fun h => by rw [taps]; exact written.hangs h }

theorem takeStatus_network (installed : P → (s.tap n).installed = true) (m : Quad TierSet) (rev : Nat) (housing : Bool) :
    NetworkKept P C s (takeStatus n m rev housing s) :=
  ((statusWritten_written n m rev housing s).posted installed).trans (.of_butAlarms (postChange_butAlarms _ _ _ _ _))

theorem intakeReply_network (n : Nat) (m : Quad TierSet) (rev : Nat) (housing : Bool) (s : State) :
    NetworkKept P C s (intakeReply n m rev housing s) := by
  unfold intakeReply
  split
  · rename_i installed
    have taken : NetworkKept P C s (takeStatus n m rev housing s) := takeStatus_network (fun _ => installed) m rev housing
    refine taken.trans ?_
    extract_lets t
    split
    · exact enterSync_network n t
    · exact entryTest_network n t
    · exact entryTest_network n t
    · exact .ite (entryTest_network n t) (setSync_network n .inStep t)
    · exact .refl t
  · exact .refl s

theorem portSetAnswered_network (installed : P → (s.tap n).installed = true) (q : Quad TierSet) (x : Option TierMap)
    (m : Quad TierSet) (rev : Nat) (housing : Bool) : NetworkKept P C s (portSetAnswered n q x m rev housing s) := by
  have taken : NetworkKept P C s (takeStatus n m rev housing s) := takeStatus_network installed m rev housing
  exact .ite (taken.trans ((setSync_network n _ _).trans (entryTest_network n _)))
    (taken.trans ((setSync_network n _ _).trans (entryTest_network n _)))

theorem portSetFailed_network (installed : P → (s.tap n).installed = true) (o : TxnOutcome) :
    NetworkKept P C s (portSetFailed n o s) := by
  have kept : ∀ {Q : Prop}, (Q → ((setSync n .failed s).tap n).installed = true) → NetworkKept Q C s (portSetFailed n o s) :=
    fun stays => .ite ((setSync_network n _ s).trans (setReach_network stays _))
      ((enterSync_network n s).trans (entryTest_network n _))
  exact { kept False.elim with
    counts := fun hp hs => (kept (Q := P) fun hp =>
      (installed_of_reports ((setSync_reports n .failed s hs).2 n)).trans (installed hp)).counts hp hs }

theorem auditFailed_network (n : Nat) (o : TxnOutcome) (s : State) : NetworkKept P C s (auditFailed n o s) := by
  unfold auditFailed
  split
  · rename_i h
    obtain ⟨-, -, installed⟩ := h
    exact setReach_network (fun _ => installed) _
  · exact .refl s

/-! ### A tap removed and a tap installed (R45, R46) -/

theorem changeBranch_installedTaps (hs : TablesSound s) (n : Nat) (f : Branch → Branch) (k : Nat) :
    ((changeBranch n f s).branch k).installedTaps =
      if k = n then (f (s.branch n)).installedTaps else (s.branch k).installedTaps :=
  changeBranch_read (fun _ _ _ _ => rfl) hs n f k

theorem changeBranch_unreachableTaps (hs : TablesSound s) (n : Nat) (f : Branch → Branch) (k : Nat) :
    ((changeBranch n f s).branch k).unreachableTaps =
      if k = n then (f (s.branch n)).unreachableTaps else (s.branch k).unreachableTaps :=
  changeBranch_read (fun _ _ _ _ => rfl) hs n f k

/-- R46: the counts of the branch that a removed tap hung on. -/
theorem postTapGone_counts (hs : TablesSound s) {r : Tap} (installed : r.installed = true) {b : Nat}
    (hangs : r.hangsOn b = true → 1 ≤ (s.branch b).installedTaps) (gone : r.goneOn b = true → 1 ≤ (s.branch b).unreachableTaps) :
    ((postTapGone r s).branch b).installedTaps + (r.hangsOn b).toNat = (s.branch b).installedTaps ∧
      ((postTapGone r s).branch b).unreachableTaps + (r.goneOn b).toNat = (s.branch b).unreachableTaps := by
  have hangsOn : r.hangsOn b = decide (r.branch = some b) := by rw [Tap.hangsOn, installed, Bool.true_and]
  rw [hangsOn] at hangs
  rw [Tap.goneOn, hangsOn] at gone
  rw [Tap.goneOn, hangsOn]
  unfold postTapGone
  cases hung : r.branch with
  | none => simp
  | some c =>
    dsimp only
    rw [postRemoved, changeBranch_installedTaps hs, changeBranch_unreachableTaps hs]
    by_cases hb : b = c
    · subst hb
      rw [hung] at hangs gone
      simp only [decide_true, Bool.true_and] at hangs gone
      have := hangs trivial
      cases unreachable : decide (r.reach = .unreachable) with
      | false => simp; omega
      | true =>
        have := gone unreachable
        simp
        omega
    · simp [hb, Ne.symm hb]

theorem postTapGone_outage (r : Tap) (s : State) : OutageKept C s (postTapGone r s) := by
  unfold postTapGone
  split
  · exact changeBranch_outage _ (fun _ => by rfl) s
  · exact .refl s

theorem postTapGone_watchView (r : Tap) (s : State) : Stands State.watchView s (postTapGone r s) := by
  unfold postTapGone
  split
  · exact changeBranch_watchView _ (fun _ => by rfl) s
  · exact .refl s

theorem postTapGone_taps (r : Tap) (s : State) : (postTapGone r s).taps = s.taps := by
  unfold postTapGone
  split
  · exact taps_of_butBranches (postRemoved_butBranches _ _ _)
  · rfl

/-- R46: the correlator is told of a removed tap, and the tap's record returns to the cold-start values. -/
theorem dropTap_network (installed : (s.tap n).installed = true) :
    NetworkKept P C s ((postTapGone (s.tap n) s).setTap n .cold) := by
  have gone := postTapGone_outage (C := C) (s.tap n) s
  have dropped : OutageKept C (postTapGone (s.tap n) s) ((postTapGone (s.tap n) s).setTap n .cold) :=
    .of_outage rfl fun h => h.setTap n .cold
  refine ⟨gone.trans dropped, fun _ hs hc => ?_, watches_of_watchView
    ((postTapGone_watchView _ s).trans (.same dropped.tables fun _ => rfl))⟩
  have tap : ∀ k, ((postTapGone (s.tap n) s).setTap n .cold).tap k = if k = n then .cold else s.tap k := fun k => by
    rw [tap_setTap (gone.tables hs).taps, tap_of_taps (postTapGone_taps _ s)]
  have counts := fun b => postTapGone_counts hs installed (b := b)
    (fun hangs => by rw [(branchCountsSound_iff.1 hc b).1]; exact tapCount_pos hs rfl hangs)
    (fun gone => by rw [(branchCountsSound_iff.1 hc b).2]; exact tapCount_pos hs rfl gone)
  refine hc.of_changed (n := n) hs ((gone.trans dropped).tables hs) (fun k hk => ?_) (fun b => ?_) (fun b => ?_)
  · rw [State.reports, tap, if_neg hk]
    rfl
  · rw [tap, if_pos rfl]
    exact (counts b).1
  · rw [tap, if_pos rfl]
    exact (counts b).2

theorem removeTap_network (installed : (s.tap n).installed = true) : NetworkKept P C s (removeTap n s) := by
  have ended : ∀ c k u, (endIf c k n u).butAlarms = u.butAlarms := fun c k u => by
    unfold endIf
    split
    · exact endAlarm_butAlarms k n u
    · rfl
  have conditions : ∀ u, (endTapConditions n (s.tap n) u).butAlarms = u.butAlarms := fun u => by
    unfold endTapConditions
    rw [ended, ended, ended]
  have erased : NetworkKept P C s { s with syncSet := s.syncSet.erase n } := .beside rfl rfl
  unfold removeTap
  dsimp only
  set u := endTapConditions n (s.tap n) { s with syncSet := s.syncSet.erase n }
  have cleared : NetworkKept P C s u := erased.trans (.of_butAlarms (conditions _))
  have record : u.tap n = s.tap n := tap_of_taps (t := u) (s := { s with syncSet := s.syncSet.erase n })
    (taps_of_butAlarms (conditions _)) n
  rw [← record]
  exact (cleared.trans (dropTap_network (record ▸ installed))).trans (.of_butAlarms (ended _ _ _))

/-- R45: a tap that was not installed is written, and its branch told. -/
theorem installTap_network (absent : (s.tap n).installed = false) (b : Nat) : NetworkKept P C s (installTap n b s) := by
  have written : OutageKept C s (s.setTap n (.installedOn b)) := .of_outage rfl fun h => h.setTap n _
  have posted : NetworkKept P C s (postInstalled b (s.setTap n (.installedOn b))) := by
    refine ⟨written.trans (changeBranch_outage b (fun _ => by rfl) _), fun hp hs hc => ?_, fun hs hw => ?_⟩
    · have taps := tap_of_taps (taps_of_butBranches (postInstalled_butBranches b (s.setTap n (.installedOn b))))
      refine hc.of_changed (n := n) hs ((changeBranch_kept b _ _).tables (written.tables hs)) (fun k hk => ?_) (fun c => ?_)
        (fun c => ?_)
      · rw [State.reports, taps, tap_setTap hs.taps, if_neg hk]
        rfl
      · have before : (s.tap n).hangsOn c = false := by rw [Tap.hangsOn, absent, Bool.false_and]
        have after : (Tap.installedOn b).hangsOn c = decide (c = b) := by simp [Tap.hangsOn, Tap.installedOn, eq_comm]
        rw [taps, tap_setTap hs.taps, if_pos rfl, before, after, postInstalled, changeBranch_installedTaps (written.tables hs)]
        by_cases hc : c = b
        · subst hc; simp
        · simp [hc]
      · have before : (s.tap n).goneOn c = false := by rw [Tap.goneOn, Tap.hangsOn, absent, Bool.false_and, Bool.false_and]
        have after : (Tap.installedOn b).goneOn c = false := by simp [Tap.goneOn, Tap.installedOn, Tap.cold]
        rw [taps, tap_setTap hs.taps, if_pos rfl, before, after, postInstalled, changeBranch_unreachableTaps (written.tables hs)]
        by_cases hc : c = b
        · subst hc; simp
        · simp [hc]
    · exact watches_of_watchView (.trans (.same written.tables fun _ => by rfl) (changeBranch_watchView b (fun _ => by rfl) _)) hs hw
  exact (posted.trans (entryTest_network n _)).trans (arbitrate_network _)

end TapActs

end Sys2Proof.Machine

namespace Sys2Proof.Machine

section SurveyActs
variable {P C : Prop} {s t u : State} {n : Nat}

/-! ## The survey unit's acts (R97 to R102)

Each act writes one watch record and posts what follows to the correlator. What it posts leaves every record as it was written
and the inputs of every other branch. -/

theorem setWatch_network {w : Watch} (hw : WatchSound (s.watch n) (s.branch n) → WatchSound w (s.branch n)) :
    NetworkKept P C s (s.setWatch n w) where
  toOutageKept := .of_outage rfl fun h => h.setWatch n w
  counts _ := counts_of_tapView (.same (fun h => h.setWatch n w) fun _ => rfl)
  watches hs h := h.of_elsewhere hs (setWatch_elsewhere n w s) fun here => by
    rw [watch_setWatch hs.watches, if_pos rfl]
    exact hw here

/-- An act on branch `n` and its watch that leaves the taps. -/
theorem OutageKept.survey (h : OutageKept C s t) (taps : Stands State.tapView s t) (elsewhere : Elsewhere n s t)
    (here : TablesSound s → WatchSound (s.watch n) (s.branch n) → WatchSound (t.watch n) (t.branch n)) : NetworkKept P C s t :=
  ⟨h, fun _ => counts_of_tapView taps, fun hs hw => hw.of_elsewhere hs elsewhere (here hs)⟩

theorem setWatch_tapView (n : Nat) (w : Watch) (s : State) : Stands State.tapView s (s.setWatch n w) :=
  .same (fun h => h.setWatch n w) fun _ => rfl

theorem tapView_of_butAlarms (h : t.butAlarms = s.butAlarms) : Stands State.tapView s t :=
  .same (HeadKept.of_butAlarms h).tables fun k => show t.butAlarms.tapView k = _ from h ▸ rfl

theorem setWatch_outage (n : Nat) (w : Watch) (s : State) : OutageKept C s (s.setWatch n w) :=
  .of_outage rfl fun h => h.setWatch n w

theorem OutageKept.of_butAlarms (h : t.butAlarms = s.butAlarms) : OutageKept C s t :=
  (NetworkKept.of_butAlarms (P := True) h).toOutageKept

/-! ### What is posted -/

theorem postReport_outage (old new : Option StationReport) (s : State) : OutageKept C s (postReport n old new s) := by
  have listed : OutageKept C s (reportListed n old new s) := .of_butAlarms (reportListed_butAlarms n old new s)
  rw [postReport_eq]
  exact .ite listed (listed.trans (changeBranch_outage n (fun _ => by rfl) _))

theorem postReport_tapView (old new : Option StationReport) (s : State) : Stands State.tapView s (postReport n old new s) := by
  have listed := tapView_of_butAlarms (reportListed_butAlarms n old new s)
  rw [postReport_eq]
  exact .ite listed (listed.trans (changeBranch_tapView n (fun _ => by rfl) _))

theorem postSilenceEnd_outage (s : State) : OutageKept C s (postSilenceEnd n s) :=
  (changeBranch_outage n (fun _ => by rfl) s).trans (.of_butAlarms (endAlarm_butAlarms _ _ _))

theorem postSilenceEnd_tapView (s : State) : Stands State.tapView s (postSilenceEnd n s) :=
  (changeBranch_tapView n (fun _ => by rfl) s).trans (tapView_of_butAlarms (endAlarm_butAlarms _ _ _))

/-! ### Silence (R101, R102) -/

/-- R102: a record becomes SILENT. -/
def Watch.silenced (w : Watch) (clock : Nat) : Watch :=
  { w with state := .silent, due := none, deadline := none, deadlinePassed := false,
           recovery := .waiting, recoveryDue := some (clock + intervalMs w.interval) }

theorem becomeSilent_eq (n : Nat) (s : State) : becomeSilent n s =
    raiseAlarm .stationSilent n (postSilence n true (s.setWatch n ((s.watch n).silenced s.survey.clock))) := rfl

theorem becomeSilent_watch (hs : TablesSound s) (n k : Nat) :
    (becomeSilent n s).watch k = if k = n then (s.watch n).silenced s.survey.clock else s.watch k := by
  rw [becomeSilent_eq, watch_of_butAlarms (raiseAlarm_butAlarms _ _ _), watch_of_butBranches (postSilence_butBranches _ _ _),
    watch_setWatch hs.watches]

theorem becomeSilent_branch (hs : TablesSound s) (n : Nat) :
    ((becomeSilent n s).branch n).undecided = { (s.branch n).undecided with silent := true } := by
  rw [becomeSilent_eq, branch_of_butAlarms (raiseAlarm_butAlarms _ _ _), postSilence_branch n (hs.setWatch n _)]
  rfl

theorem becomeSilent_network (hw : (s.watch n).state ≠ .silent ∧ (s.watch n).state ≠ .unwatched) :
    NetworkKept P C s (becomeSilent n s) := by
  rw [becomeSilent_eq]
  refine OutageKept.survey (n := n) ?_ ?_ ?_ fun hs h => ?_
  · exact ((setWatch_outage n _ s).trans (changeBranch_outage n (fun _ => by rfl) _)).trans
      (.of_butAlarms (raiseAlarm_butAlarms _ _ _))
  · exact ((setWatch_tapView n _ s).trans (changeBranch_tapView n (fun _ => by rfl) _)).trans
      (tapView_of_butAlarms (raiseAlarm_butAlarms _ _ _))
  · exact ((setWatch_elsewhere n _ s).trans (changeBranch_elsewhere n _ _)).trans (.of_butAlarms (raiseAlarm_butAlarms _ _ _))
  · rw [← becomeSilent_eq, becomeSilent_watch hs, if_pos rfl]
    exact watchSound_silenced h hw _ (congrArg Branch.watched (becomeSilent_branch hs n) :)

theorem takeDeadline_network (n : Nat) (s : State) : NetworkKept P C s (takeDeadline n s) := by
  unfold takeDeadline
  extract_lets w
  split
  · exact setWatch_network fun h => h.passed (.inl ‹_›)
  · exact setWatch_network fun h => h.passed (.inr ‹_›)
  · rename_i watching
    exact becomeSilent_network (by rw [show (s.watch n).state = _ from watching]; decide)
  · exact .refl s
  · exact .refl s

/-! ### Completions (R99) -/

/-- R99: a record that starts anew with a report. -/
def Watch.heard (w : Watch) (clock : Nat) (r : Option StationReport) : Watch := { w.restarted clock with lastReport := r }

/-- R99, R102: the record of an answered poll is written and the end of its silence posted, before its report is. -/
def answerWritten (n : Nat) (r : StationReport) (s : State) : State :=
  if (s.watch n).state = .silent then postSilenceEnd n (s.setWatch n ((s.watch n).heard s.survey.clock (some r)))
  else s.setWatch n ((s.watch n).heard s.survey.clock (some r))

theorem pollAnswered_eq (n : Nat) (r : StationReport) (s : State) :
    pollAnswered n r s = postReport n (s.watch n).lastReport (some r) (answerWritten n r s) := rfl

theorem answerWritten_tables (n : Nat) (r : StationReport) (s : State) : TablesSound s → TablesSound (answerWritten n r s) := by
  unfold answerWritten
  split
  · exact fun h => (postSilenceEnd_kept n _).tables (h.setWatch n _)
  · exact fun h => h.setWatch n _

theorem pollAnswered_watch (hs : TablesSound s) (n : Nat) (r : StationReport) (k : Nat) :
    (pollAnswered n r s).watch k = if k = n then (s.watch n).heard s.survey.clock (some r) else s.watch k := by
  have written : (answerWritten n r s).butBranches = (s.setWatch n ((s.watch n).heard s.survey.clock (some r))).butBranches := by
    unfold answerWritten
    split
    · exact postSilenceEnd_butBranches n _
    · rfl
  rw [pollAnswered_eq, watch_of_butBranches (postReport_butBranches _ _ _ _), watch_of_butBranches written,
    watch_setWatch hs.watches]

theorem answerWritten_branch (hs : TablesSound s) (n : Nat) (r : StationReport) : ((answerWritten n r s).branch n).undecided =
    { (s.branch n).undecided with silent := if (s.watch n).state = .silent then false else (s.branch n).silent } := by
  unfold answerWritten
  split
  · rw [postSilenceEnd_branch n (hs.setWatch n _)]
    rfl
  · rfl

theorem pollAnswered_branch (hs : TablesSound s) (n : Nat) (r : StationReport) : ((pollAnswered n r s).branch n).undecided =
    { (s.branch n).undecided with
      silent := if (s.watch n).state = .silent then false else (s.branch n).silent
      supplyFailed := if reportHas StationReport.isFailed (s.watch n).lastReport = reportHas StationReport.isFailed (some r)
        then (s.branch n).supplyFailed else reportHas StationReport.isFailed (some r) } := by
  rw [pollAnswered_eq, postReport_branch n _ _ (answerWritten_tables n r s hs), answerWritten_branch hs]
  split <;> rfl

theorem pollAnswered_network (hw : (s.watch n).isPolled = true) (r : StationReport) : NetworkKept P C s (pollAnswered n r s) := by
  have watched : (s.watch n).state ≠ .unwatched := fun no => by simp [Watch.isPolled, no] at hw
  rw [pollAnswered_eq]
  refine OutageKept.survey (n := n) ?_ ?_ ?_ fun hs h => ?_
  · exact OutageKept.trans (.ite ((setWatch_outage n _ s).trans (postSilenceEnd_outage _)) (setWatch_outage n _ s))
      (postReport_outage _ _ _)
  · exact Stands.trans (.ite ((setWatch_tapView n _ s).trans (postSilenceEnd_tapView _)) (setWatch_tapView n _ s))
      (postReport_tapView _ _ _)
  · exact Elsewhere.trans (.ite ((setWatch_elsewhere n _ s).trans (postSilenceEnd_elsewhere n _)) (setWatch_elsewhere n _ s))
      (postReport_elsewhere n _ _ _)
  · rw [← pollAnswered_eq, pollAnswered_watch hs, if_pos rfl]
    have branch := pollAnswered_branch hs n r
    refine watchSound_restarted ?_ ?_ ?_ _ ?_
    · exact (congrArg Branch.station branch :).trans (Bool.eq_true_of_not_eq_false (h.unwatched.not.1 watched))
    · exact h.interval.trans (congrArg Branch.interval branch).symm
    · refine (congrArg Branch.silent branch :).trans ?_
      show (if (s.watch n).state = .silent then false else (s.branch n).silent) = false
      split
      · rfl
      · rename_i heard
        exact Bool.eq_false_of_not_eq_true (h.silent.not.2 heard)
    · refine (congrArg Branch.supplyFailed branch :).trans ?_
      show (if reportHas StationReport.isFailed (s.watch n).lastReport = reportHas StationReport.isFailed (some r)
        then (s.branch n).supplyFailed else reportHas StationReport.isFailed (some r)) = _
      split
      · rename_i same
        exact h.supply.trans same
      · rfl

theorem pollFailed_network (n : Nat) (s : State) : NetworkKept P C s (pollFailed n s) := by
  unfold pollFailed
  extract_lets w
  split
  · rename_i polled
    have running : w.state ≠ .silent ∧ w.state ≠ .unwatched := by rw [polled]; decide
    exact .ite (becomeSilent_network running) (setWatch_network fun h => h.outstanding running (.inl rfl))
  · exact setWatch_network fun h => h.recovering (v := .waiting) (d := some _) ‹_› nofun rfl
  · exact .refl s

theorem pollSaidNothing_network (n : Nat) (s : State) : NetworkKept P C s (pollSaidNothing n s) := by
  unfold pollSaidNothing
  extract_lets w
  split
  · rename_i polled
    exact setWatch_network fun h => h.outstanding (by rw [show (s.watch n).state = _ from polled]; decide) (.inl rfl)
  · rename_i silent
    refine setWatch_network fun h => ?_
    obtain ⟨-, -, -, -, recoveryDue, -⟩ := h.recovers silent
    exact h.recovering (v := .due) silent nofun recoveryDue
  · exact .refl s

theorem pollCompleted_network (n : Nat) (o : TxnOutcome) (r : Option StationReport) (s : State) :
    NetworkKept P C s (pollCompleted n o r s) := by
  have fails : NetworkKept P C s (if s.engine.returnOn then pollFailed n s else pollSaidNothing n s) :=
    .ite (pollFailed_network n s) (pollSaidNothing_network n s)
  unfold pollCompleted
  split
  · rename_i polled
    split
    · exact pollAnswered_network polled _
    · exact .refl s
    · exact pollSaidNothing_network n s
    · exact fails
    · exact fails
  · exact .refl s

/-! ### The survey clock's events (R98, R101, R102, R104) -/

theorem pollFallsDue_network (due : (s.watch n).state = .watching) : NetworkKept P C s (pollFallsDue n s) :=
  setWatch_network fun h => h.outstanding (by rw [due]; decide) (.inl rfl)

theorem recoveryFallsDue_network (silent : (s.watch n).state = .silent) : NetworkKept P C s (recoveryFallsDue n s) :=
  setWatch_network fun h => by
    obtain ⟨-, -, -, -, recoveryDue, -⟩ := h.recovers silent
    exact h.recovering (v := .due) silent nofun recoveryDue

/-- R94: an effect of the survey clock, taken where the record it concerns has the reading to reach. -/
theorem atSurveyTime_network (off : C → s.engine.returnOn = false) {o : Option Nat} {f : State → State}
    (hf : ∀ d u, o = some d → u.watches = s.watches → NetworkKept P C u (f u)) : NetworkKept P C s (atSurveyTime o f s) := by
  unfold atSurveyTime
  split
  · refine .ite ?_ (.refl s)
    exact ((passTime_network off _).trans (hf _ _ rfl (passTime_watches _ _))).trans (arbitrate_network _)
  · exact .refl s

end SurveyActs

end Sys2Proof.Machine

namespace Sys2Proof.Machine

/-! ## The requests on a branch (R96, R97, R123) -/

section BranchActs
variable {P C : Prop} {s t u : State} {n : Nat}

theorem decideBranches_tapView (s : State) : Stands State.tapView s (decideBranches s) := fun hs => by
  have counts := decideBranches_stands (g := fun r => (r.installedTaps, r.unreachableTaps)) (fun _ _ _ _ => rfl) s hs
  refine ⟨counts.1, fun k => ?_⟩
  rw [State.tapView, reports_of_taps (taps_of_butBranches (decideBranches_butBranches s))]
  exact congrArg (Prod.mk _) (counts.2 k)

/-! ### A station lost, a station gained, an interval changed -/

/-- R97: the record of a branch without a station is written and the end of its station conditions posted. -/
def lossReported (n : Nat) (s : State) : State :=
  postReport n (s.watch n).lastReport none (s.setWatch n { Watch.cold with interval := (s.watch n).interval })

theorem stationLost_eq (n : Nat) (s : State) : stationLost n s =
    if (s.watch n).state = .silent then postSilenceEnd n (lossReported n s) else lossReported n s := rfl

theorem stationLost_outage (n : Nat) (s : State) : OutageKept C s (stationLost n s) := by
  have reported : OutageKept C s (lossReported n s) := (setWatch_outage n _ s).trans (postReport_outage _ _ _)
  rw [stationLost_eq]
  exact .ite (reported.trans (postSilenceEnd_outage _)) reported

theorem stationLost_tapView (n : Nat) (s : State) : Stands State.tapView s (stationLost n s) := by
  have reported : Stands State.tapView s (lossReported n s) := (setWatch_tapView n _ s).trans (postReport_tapView _ _ _)
  rw [stationLost_eq]
  exact .ite (reported.trans (postSilenceEnd_tapView _)) reported

theorem stationLost_elsewhere (n : Nat) (s : State) : Elsewhere n s (stationLost n s) := by
  have reported : Elsewhere n s (lossReported n s) := (setWatch_elsewhere n _ s).trans (postReport_elsewhere n _ _ _)
  rw [stationLost_eq]
  exact .ite (reported.trans (postSilenceEnd_elsewhere n _)) reported

theorem stationLost_butBranches (n : Nat) (s : State) : (stationLost n s).butBranches =
    (s.setWatch n { Watch.cold with interval := (s.watch n).interval }).butBranches := by
  have reported : (lossReported n s).butBranches = _ := postReport_butBranches _ _ _ _
  rw [stationLost_eq]
  split
  · exact (postSilenceEnd_butBranches n _).trans reported
  · exact reported

/-- R97, R100, R102: a branch that loses its station counts neither as silent nor as failed on the station's account. -/
theorem stationLost_branch (hs : TablesSound s) (n : Nat) : ((stationLost n s).branch n).undecided =
    { (s.branch n).undecided with
      silent := if (s.watch n).state = .silent then false else (s.branch n).silent
      supplyFailed := if reportHas StationReport.isFailed (s.watch n).lastReport then false else (s.branch n).supplyFailed } := by
  have written : TablesSound (s.setWatch n { Watch.cold with interval := (s.watch n).interval }) := hs.setWatch n _
  have reported : ((lossReported n s).branch n).undecided = { (s.branch n).undecided with
      supplyFailed := if reportHas StationReport.isFailed (s.watch n).lastReport then false else (s.branch n).supplyFailed } := by
    refine (postReport_branch n _ _ written).trans ?_
    cases reportHas StationReport.isFailed (s.watch n).lastReport <;> rfl
  rw [stationLost_eq]
  split
  · have tables : TablesSound (lossReported n s) := (postReport_kept n _ _ _).tables written
    rw [postSilenceEnd_branch n tables, reported]
  · exact reported

/-- R97: what a change of station does to the watch record. -/
theorem postStation_watch (hs : TablesSound s) (n : Nat) (before after : Bool) (k : Nat) :
    (postStation n before after s).watch k =
      if k = n then
        if after && !before then (s.watch n).heard s.survey.clock none
        else if before && !after then { Watch.cold with interval := (s.watch n).interval }
        else s.watch n
      else s.watch k := by
  unfold postStation
  split
  · exact watch_setWatch hs.watches n k _
  · split
    · exact (watch_of_butBranches (stationLost_butBranches n s) k).trans (watch_setWatch hs.watches n k _)
    · split
      · rename_i hk; rw [hk]
      · rfl

theorem postStation_outage (n : Nat) (before after : Bool) (s : State) : OutageKept C s (postStation n before after s) :=
  .ite (setWatch_outage n _ s) (.ite (stationLost_outage n s) (.refl s))

theorem postStation_tapView (n : Nat) (before after : Bool) (s : State) : Stands State.tapView s (postStation n before after s) :=
  .ite (setWatch_tapView n _ s) (.ite (stationLost_tapView n s) (.refl s))

theorem postStation_elsewhere (n : Nat) (before after : Bool) (s : State) : Elsewhere n s (postStation n before after s) :=
  .ite (setWatch_elsewhere n _ s) (.ite (stationLost_elsewhere n s) (.refl n s))

/-- R97: the branch after a change of station has been posted. -/
theorem postStation_branch (hs : TablesSound s) (n : Nat) (before after : Bool) :
    ((postStation n before after s).branch n).undecided =
      if before && !after then { (s.branch n).undecided with
        silent := if (s.watch n).state = .silent then false else (s.branch n).silent
        supplyFailed := if reportHas StationReport.isFailed (s.watch n).lastReport then false else (s.branch n).supplyFailed }
      else (s.branch n).undecided := by
  unfold postStation
  cases before <;> cases after
  · rfl
  · rfl
  · exact stationLost_branch hs n
  · rfl

/-- R96: the watch after a changed interval has been posted. -/
theorem postInterval_watch (hs : TablesSound s) (n i k : Nat) : (postInterval n i s).watch k =
    if k = n ∧ (s.watch n).interval ≠ i then (s.watch n).withInterval i s.survey.clock else s.watch k := by
  unfold postInterval
  extract_lets w
  by_cases held : w.interval = i
  · rw [if_pos held, if_neg fun h => h.2 held]
  · rw [if_neg held, watch_setWatch hs.watches]
    exact if_congr ⟨fun hk => ⟨hk, held⟩, And.left⟩ rfl rfl

theorem postInterval_branch (n i k : Nat) (s : State) : (postInterval n i s).branch k = s.branch k := by
  unfold postInterval
  extract_lets w
  split <;> rfl

theorem postInterval_outage (n i : Nat) (s : State) : OutageKept C s (postInterval n i s) := .ite (.refl s) (setWatch_outage n _ s)

theorem postInterval_tapView (n i : Nat) (s : State) : Stands State.tapView s (postInterval n i s) :=
  .ite (.refl s) (setWatch_tapView n _ s)

theorem postInterval_elsewhere (n i : Nat) (s : State) : Elsewhere n s (postInterval n i s) :=
  .ite (.refl n s) (setWatch_elsewhere n _ s)

/-! ### A branch defined or changed (R123) -/

/-- R123: the state with a branch written and its interval and its station posted, before the correlator decides. -/
def branchPosted (n : Nat) (a : BranchArgs) (s : State) : State :=
  postStation n (s.branch n).station ((s.branch n).withArgs a).station
    (postInterval n ((s.branch n).withArgs a).interval (s.setBranch n ((s.branch n).withArgs a)))

theorem changeBranchRecord_eq (n : Nat) (a : BranchArgs) (s : State) :
    changeBranchRecord n a s = arbitrate (decideBranches (branchPosted n a s)) := rfl

theorem branchPosted_elsewhere (n : Nat) (a : BranchArgs) (s : State) : Elsewhere n s (branchPosted n a s) :=
  ((setBranch_elsewhere n _ s).trans (postInterval_elsewhere n _ _)).trans (postStation_elsewhere n _ _ _)

/-- R96: the watch record of a branch whose interval has been posted. -/
def State.intervalWatch (s : State) (n i : Nat) : Watch :=
  if (s.watch n).interval ≠ i then (s.watch n).withInterval i s.survey.clock else s.watch n

theorem postInterval_clock (n i : Nat) (s : State) : (postInterval n i s).survey.clock = s.survey.clock := by
  unfold postInterval
  extract_lets w
  split <;> rfl

theorem written_intervalWatch (hs : TablesSound s) (n : Nat) (b : Branch) (i k : Nat) :
    (postInterval n i (s.setBranch n b)).watch k = if k = n then s.intervalWatch n i else s.watch k := by
  rw [postInterval_watch (hs.setBranch n b), State.intervalWatch]
  by_cases hk : k = n
  · subst hk
    by_cases held : (s.watch k).interval = i <;> simp [held]
  · simp [hk]

/-- R96: a change of interval moves no record to or from SILENT, and no report. -/
theorem intervalWatch_silent (s : State) (n i : Nat) : ((s.intervalWatch n i).state = .silent ↔ (s.watch n).state = .silent) ∧
    (s.intervalWatch n i).lastReport = (s.watch n).lastReport := by
  unfold State.intervalWatch Watch.withInterval
  split
  · extract_lets good due deadline
    split <;> rename_i state <;> rw [state]
    · split <;> simp
    all_goals simp
  · exact ⟨.rfl, rfl⟩

/-- R96, R97: the watches after a branch has been written and posted. -/
theorem branchPosted_watch (hs : TablesSound s) (n : Nat) (a : BranchArgs) (k : Nat) : (branchPosted n a s).watch k =
    if k = n then
      if ((s.branch n).withArgs a).station && !(s.branch n).station
        then (s.intervalWatch n ((s.branch n).withArgs a).interval).heard s.survey.clock none
      else if (s.branch n).station && !((s.branch n).withArgs a).station
        then { Watch.cold with interval := (s.intervalWatch n ((s.branch n).withArgs a).interval).interval }
      else s.intervalWatch n ((s.branch n).withArgs a).interval
    else s.watch k := by
  have hv : TablesSound (s.setBranch n ((s.branch n).withArgs a)) := hs.setBranch n _
  have interval := written_intervalWatch hs n ((s.branch n).withArgs a) ((s.branch n).withArgs a).interval
  unfold branchPosted
  rw [postStation_watch ((postInterval_kept n _ _).tables hv), interval, interval, if_pos rfl, postInterval_clock]
  split <;> rfl

/-- R97, R123: the branch after it has been written and posted. -/
theorem branchPosted_branch (hs : TablesSound s) (n : Nat) (a : BranchArgs) : ((branchPosted n a s).branch n).undecided =
    if (s.branch n).station && !((s.branch n).withArgs a).station then { ((s.branch n).withArgs a).undecided with
        silent := if (s.watch n).state = .silent then false else (s.branch n).silent
        supplyFailed := if reportHas StationReport.isFailed (s.watch n).lastReport then false else (s.branch n).supplyFailed }
      else ((s.branch n).withArgs a).undecided := by
  have hv : TablesSound (s.setBranch n ((s.branch n).withArgs a)) := hs.setBranch n _
  have branch : (postInterval n ((s.branch n).withArgs a).interval (s.setBranch n ((s.branch n).withArgs a))).branch n =
      (s.branch n).withArgs a := by rw [postInterval_branch, branch_setBranch hs.branches, if_pos rfl]
  obtain ⟨silent, report⟩ := intervalWatch_silent s n ((s.branch n).withArgs a).interval
  unfold branchPosted
  rw [postStation_branch ((postInterval_kept n _ _).tables hv), branch, written_intervalWatch hs, if_pos rfl, report]
  simp only [silent]
  rfl

/-- R96: a record beside its branch with the interval given. -/
theorem WatchSound.interval_given (h : WatchSound (s.watch n) (s.branch n)) (i : Nat) :
    WatchSound (s.intervalWatch n i) { s.branch n with interval := i } := by
  unfold State.intervalWatch
  split
  · exact h.withInterval i _
  · rename_i held
    have same : (s.branch n).interval = i := h.interval.symm.trans (not_not.1 held)
    exact h.congr (by rw [← same])

/-- R97: a record beside its branch with the station gained, lost or held. -/
theorem WatchSound.station_given {w : Watch} {b b' : Branch} (h : WatchSound w b) (after : Bool) (clock : Nat)
    (hb : b'.watched = if b.station && !after then { b.watched with
        station := after
        silent := if w.state = .silent then false else b.silent
        supplyFailed := if reportHas StationReport.isFailed w.lastReport then false else b.supplyFailed }
      else { b.watched with station := after }) :
    WatchSound (if after && !b.station then w.heard clock none
      else if b.station && !after then { Watch.cold with interval := w.interval } else w) b' := by
  have silent : w.state ≠ .silent → b.silent = false := fun no => Bool.eq_false_of_not_eq_true (h.silent.not.2 no)
  cases before : b.station <;> cases after <;> simp only [before] at hb ⊢
  · exact h.congr (hb.trans (by rw [Branch.watched, before]; rfl))
  · have unwatched := h.unwatched.2 before
    have report : w.lastReport = none := by rw [h.empty unwatched]; rfl
    refine WatchSound.congr (b := { b with station := true }) ?_ hb
    refine watchSound_restarted (b := { b with station := true }) rfl h.interval (silent (by rw [unwatched]; decide)) clock ?_
    exact h.supply.trans (by rw [report])
  · have interval : b'.interval = w.interval := (congrArg Branch.interval hb :).trans h.interval.symm
    rw [← interval]
    refine watchSound_unwatched (congrArg Branch.station hb :) ((congrArg Branch.silent hb :).trans ?_)
      ((congrArg Branch.supplyFailed hb :).trans ?_)
    · show (if w.state = .silent then false else b.silent) = false
      split
      · rfl
      · exact silent ‹_›
    · show (if reportHas StationReport.isFailed w.lastReport then false else b.supplyFailed) = false
      rw [h.supply]
      cases reportHas StationReport.isFailed w.lastReport <;> rfl
  · exact h.congr (hb.trans (by rw [Branch.watched, before]; rfl))

theorem changeBranchRecord_network (n : Nat) (a : BranchArgs) (s : State) : NetworkKept P C s (changeBranchRecord n a s) := by
  have decided : NetworkKept P C s (decideBranches (branchPosted n a s)) := by
    have written : EpisodesKept C s (s.setBranch n ((s.branch n).withArgs a)) := setBranch_episodes rfl
    have taps : Stands State.tapView s (s.setBranch n ((s.branch n).withArgs a)) := fun hs => ⟨hs.setBranch n _, fun k => by
      simp only [State.tapView, branch_setBranch hs.branches]
      split
      · subst k; rfl
      · rfl⟩
    refine OutageKept.survey (n := n) ?_ ?_ ?_ fun hs h => ?_
    · exact EpisodesKept.decided ((written.trans (postInterval_outage n _ _).toEpisodesKept).trans
        (postStation_outage n _ _ _).toEpisodesKept)
    · exact ((taps.trans (postInterval_tapView n _ _)).trans (postStation_tapView n _ _ _)).trans (decideBranches_tapView _)
    · exact (branchPosted_elsewhere n a s).trans (decideBranches_elsewhere n _)
    · have posted : TablesSound (branchPosted n a s) := (branchPosted_elsewhere n a s hs).1
      rw [watch_of_butBranches (decideBranches_butBranches _), branchPosted_watch hs, if_pos rfl]
      have branch := (decideBranches_undecided posted n).trans (branchPosted_branch hs n a)
      obtain ⟨silent, report⟩ := intervalWatch_silent s n ((s.branch n).withArgs a).interval
      refine WatchSound.station_given (b := { s.branch n with interval := ((s.branch n).withArgs a).interval })
        (h.interval_given _) _ _ ((congrArg Branch.watched branch :).trans ?_)
      rw [report]
      simp only [silent]
      split <;> rfl
  exact decided.trans (arbitrate_network _)

/-! ### A branch removed (R123) -/

/-- R123: a branch record at its cold-start values, but for what its outage gave it. -/
def Branch.emptied (b : Branch) : Branch := { Branch.cold with out := b.out, affected := b.affected, shadowed := b.shadowed }

/-- R123: the state with a branch returned to its cold-start values but for what its outage gave it, and the loss of its station
posted, before the correlator decides. -/
def branchCleared (n : Nat) (s : State) : State :=
  postStation n (s.branch n).station false (s.setBranch n (s.branch n).emptied)

theorem removeBranch_eq (n : Nat) (s : State) :
    removeBranch n s = (decideBranches (branchCleared n s)).setWatch n .cold := rfl

theorem branchCleared_elsewhere (n : Nat) (s : State) : Elsewhere n s (branchCleared n s) :=
  (setBranch_elsewhere n _ s).trans (postStation_elsewhere n _ _ _)

/-- R123: nothing is left of a removed branch's inputs. -/
theorem branchCleared_branch (hs : TablesSound s) (n : Nat) : ((branchCleared n s).branch n).undecided = .cold := by
  unfold branchCleared
  rw [postStation_branch (hs.setBranch n _), branch_setBranch hs.branches, if_pos rfl]
  split
  · split <;> split <;> rfl
  · rfl

theorem removeBranch_elsewhere (n : Nat) (s : State) : Elsewhere n s (removeBranch n s) :=
  ((branchCleared_elsewhere n s).trans (decideBranches_elsewhere n _)).trans (setWatch_elsewhere n _ _)

theorem removeBranch_watch (hs : TablesSound s) (n : Nat) : (removeBranch n s).watch n = .cold := by
  have tables := (decideBranches_kept _).tables (branchCleared_elsewhere n s hs).1
  rw [removeBranch_eq, watch_setWatch tables.watches, if_pos rfl]

theorem removeBranch_undecided (hs : TablesSound s) (n : Nat) : ((removeBranch n s).branch n).undecided = .cold :=
  (decideBranches_undecided (branchCleared_elsewhere n s hs).1 n).trans (branchCleared_branch hs n)

/-- R123: a branch is removed with no tap installed on it. -/
theorem removeBranch_network (bare : (s.branch n).installedTaps = 0) : NetworkKept P C s (removeBranch n s) := by
  have written : EpisodesKept C s (s.setBranch n (s.branch n).emptied) := setBranch_episodes rfl
  have decided : OutageKept C s (decideBranches (branchCleared n s)) :=
    EpisodesKept.decided (written.trans (postStation_outage n _ _ _).toEpisodesKept)
  refine ⟨decided.trans (setWatch_outage n _ _), fun _ hs hc => ?_, fun hs hw => ?_⟩
  · have taps : Stands State.tapView (s.setBranch n (s.branch n).emptied) (removeBranch n s) :=
      ((postStation_tapView n _ _ _).trans (decideBranches_tapView _)).trans (setWatch_tapView n _ _)
    refine counts_of_tapView taps (hs.setBranch n _) ?_
    have gone : (s.branch n).unreachableTaps = 0 := by
      obtain ⟨installed, unreachable⟩ := branchCountsSound_iff.1 hc n
      have := tapCount_goneOn_le s n
      omega
    refine hc.congr hs (hs.setBranch n _) (fun _ => rfl) (fun k => ?_) (fun k => ?_) <;>
      rw [branch_setBranch hs.branches] <;> split
    · subst k; exact bare.symm
    · rfl
    · subst k; exact gone.symm
    · rfl
  · refine hw.of_elsewhere hs (removeBranch_elsewhere n s) fun _ => ?_
    have cold := removeBranch_undecided hs n
    rw [removeBranch_watch hs]
    have sound : WatchSound .cold .cold := watchSound_unwatched (b := .cold) rfl rfl rfl
    exact sound.congr (congrArg Branch.watched cold :)

end BranchActs

end Sys2Proof.Machine

namespace Sys2Proof.Machine

/-! ## The control carrier and the starts leave the network sound -/

section Carrier
variable {P C : Prop} {s t u : State}

/-! ### The control carrier (R64 to R68) -/

theorem countNoise_network (s : State) : NetworkKept P C s (countNoise s) := by
  have counted : ∀ n v, NetworkKept P C s { s with engine := { s.engine with noiseCount := n, noiseActive := v } } :=
    fun _ _ => .beside rfl rfl
  exact .ite ((counted _ true).trans (raiseAlarm_network .returnNoise 0 _)) (counted _ _)

theorem countFrames_network (n : Nat) (s : State) : NetworkKept P C s (countFrames n s) := by
  induction n generalizing s with
  | zero => exact .refl s
  | succ n ih => exact (countNoise_network s).trans (ih _)

theorem closeAttempt_network (s : State) : NetworkKept P C s (closeAttempt s) := by
  have emptied : NetworkKept P C s { s with engine := { s.engine with window := none, buffer := [] } } := .beside rfl rfl
  exact emptied.trans (countFrames_network _ _)

theorem countNoise_tap (s : State) (k : Nat) : (countNoise s).tap k = s.tap k :=
  have ⟨_, _, taps, _⟩ := countNoise_engine s
  tap_of_taps taps k

theorem closeAttempt_tap (s : State) (k : Nat) : (closeAttempt s).tap k = s.tap k :=
  have ⟨_, _, taps, _⟩ := countFrames_engine s.engine.buffer.length
    { s with engine := { s.engine with window := none, buffer := [] } }
  (tap_of_taps taps k).trans rfl

theorem receiveFrame_network (f : Frame) (s : State) : NetworkKept P C s (receiveFrame f s) := by
  rw [receiveFrame_eq]
  exact .ite (.beside rfl rfl) ((NetworkKept.beside (by rfl) (by rfl)).trans (countNoise_network _))

theorem technicianCompleted_network (c : Completion) (s : State) : NetworkKept P C s (technicianCompleted c s) := by
  have intake : ∀ u, NetworkKept P C u (technicianIntake c u) := fun u => by
    unfold technicianIntake
    split
    · exact intakeReply_network _ _ _ _ u
    · exact .refl u
  unfold technicianCompleted
  split
  · rename_i q _
    have told : NetworkKept P C s (putNotice .technician 163 (completionNotice q c) s) := .of_butPorts (putNotice_butPorts _ _ _ _)
    generalize putNotice .technician 163 (completionNotice q c) s = u at told ⊢
    refine told.trans (.trans ?_ (intake _))
    exact .beside rfl rfl
  · exact .refl s

theorem auditCompleted_network (c : Completion) (s : State) : NetworkKept P C s (auditCompleted c s) := by
  unfold auditCompleted
  extract_lets _ u
  have taken : NetworkKept P C s u := .beside rfl rfl
  split
  · exact taken.trans (intakeReply_network _ _ _ _ u)
  · exact taken.trans (auditFailed_network _ _ u)

/-- R68: a completion is handed over; the tap of a sync transaction is installed. -/
theorem handOver_network {c : Completion} (installed : P → c.requester = .sync → (s.tap c.addr).installed = true) :
    NetworkKept P C s (handOver c s) := by
  unfold handOver
  split
  · exact .ite (.beside rfl rfl) (.refl s)
  · exact technicianCompleted_network c s
  · rename_i sync
    unfold syncCompleted
    split
    · exact portSetAnswered_network (fun hp => installed hp sync) _ _ _ _ _
    · exact portSetFailed_network (fun hp => installed hp sync) _
  · unfold surveyCompleted
    split
    · exact pollCompleted_network _ _ _ s
    · exact auditCompleted_network c s

/-- The tap of a sync transaction is installed. -/
def SyncInstalled (x : Txn) (s : State) : Prop := x.requester = .sync → (s.tap x.addr).installed = true

theorem SyncInstalled.congr {x : Txn} (h : SyncInstalled x s) (taps : ∀ k, t.tap k = s.tap k) : SyncInstalled x t := fun sync =>
  (taps x.addr).symm ▸ h sync

theorem completeTxn_network {x : Txn} (installed : P → SyncInstalled x s) (o : TxnOutcome) (r : Option Reply) :
    NetworkKept P C s (completeTxn x o r s) :=
  ((handOver_network (c := ⟨x.requester, x.cls, x.addr, x.cmd, x.used, o, r⟩) installed).trans (.beside (by rfl) (by rfl))).trans
    (arbitrate_network _)

theorem failAttempt_network {x : Txn} (installed : P → SyncInstalled x s) (f : Failure) :
    NetworkKept P C s (failAttempt x f s) := by
  have closed : P → SyncInstalled x (closeAttempt s) := fun hp => (installed hp).congr (closeAttempt_tap s)
  exact (closeAttempt_network s).trans (.ite (completeTxn_network closed _ _) (.ite (.beside rfl rfl) (completeTxn_network closed _ _)))

theorem judgeFrame_network {x : Txn} (installed : P → SyncInstalled x s) (f : Frame) :
    NetworkKept P C s (judgeFrame x f s) := by
  have counted : P → SyncInstalled x (countNoise s) := fun hp => (installed hp).congr (countNoise_tap s)
  have fails := (countNoise_network s).trans (failAttempt_network (C := C) counted .faultyReply)
  have judged : NetworkKept P C s (judgeReply x f s) := by
    unfold judgeReply
    split
    · refine .ite ((closeAttempt_network s).trans (completeTxn_network (fun hp => ?_) _ _)) (failAttempt_network installed _)
      exact (installed hp).congr (closeAttempt_tap s)
    · exact failAttempt_network installed _
  exact .ite fails (.ite (.ite fails (countNoise_network s)) judged)

theorem takeFrame_network {x : Txn} (installed : P → SyncInstalled x s) : NetworkKept P C s (takeFrame x s) := by
  unfold takeFrame
  split
  · rename_i f rest _
    have taken : NetworkKept P C s { s with engine := { s.engine with buffer := rest } } := .beside rfl rfl
    refine taken.trans (judgeFrame_network (fun hp => ?_) f)
    exact (installed hp).congr fun _ => rfl
  · exact .refl s

theorem transmitted_network {x : Txn} (installed : P → SyncInstalled x s) : NetworkKept P C s (transmitted x s) := by
  unfold transmitted
  split
  · exact completeTxn_network installed _ _
  · exact .beside rfl rfl

/-- R39, R50: the tap of the transaction in flight is installed. -/
theorem SyncSound.syncInstalled (h : SyncSound s) {x : Txn} (hx : s.engine.txn = some x) : SyncInstalled x s := fun sync => by
  obtain ⟨-, -, flight, away⟩ := h
  by_contra absent
  exact absurd ((flight x hx sync).symm.trans (away x.addr (Bool.eq_false_of_not_eq_true absent))) (by decide)

/-! ### The warm restart (R108, R128, R175) -/

theorem restartSurvey_network (s : State) : NetworkKept P C s (restartSurvey s) := by
  have tables : TablesSound s → TablesSound (restartSurvey s) := fun h => by simp_all [TablesSound, restartSurvey, tabWf_tabMap]
  refine ⟨.of_outage rfl tables, fun _ => counts_of_tapView (.same tables fun _ => rfl), fun hs hw => watchesSound_iff.2 fun k => ?_⟩
  have warm : (restartSurvey s).watch k = (s.watch k).warm s.survey.clock :=
    tabGet_tabMap (f := fun w : Watch => w.warm s.survey.clock) (by rfl) hs.watches k
  rw [warm]
  exact (watchesSound_iff.1 hw k).warm _

/-- R128: a branch's counts taken anew are what the taps give. -/
theorem recountTaps_branch (hs : TablesSound s) (n k : Nat) : (recountTaps n s).branch k =
    if k = n then { s.branch n with
      installedTaps := s.tapCount (Tap.hangsOn n), unreachableTaps := s.tapCount (Tap.goneOn n) } else s.branch k := by
  have gone : ((tabWhere (fun _ r => r.installed && decide (r.branch = some n)) s.taps).filter
      fun t => decide ((s.tap t).reach = .unreachable)).length = s.tapCount (Tap.goneOn n) := by
    refine List.Perm.length_eq ((List.perm_ext_iff_of_nodup ((nodup_listedTaps hs (Tap.hangsOn n)).filter _)
      (nodup_listedTaps hs (Tap.goneOn n))).2 fun t => ?_)
    rw [List.mem_filter, mem_listedTaps hs rfl, mem_listedTaps hs rfl, Tap.goneOn, Bool.and_eq_true]
  rw [← gone]
  exact branch_setBranch hs.branches n k _

theorem recountTaps_keeps (n : Nat) (s : State) : EpisodesKept C s (recountTaps n s) ∧
    Stands State.watchView s (recountTaps n s) ∧ (TablesSound s → BranchCountsSound s → Stands State.tapView s (recountTaps n s)) := by
  have episodes : EpisodesKept C s (recountTaps n s) := setBranch_episodes rfl
  refine ⟨episodes, fun hs => ⟨episodes.tables hs, fun k => ?_⟩, fun _ hc hs => ⟨episodes.tables hs, fun k => ?_⟩⟩
  · rw [State.watchView, recountTaps_branch hs]
    split
    · subst k; rfl
    · rfl
  · rw [State.tapView, recountTaps_branch hs]
    split
    · subst k
      obtain ⟨installed, unreachable⟩ := branchCountsSound_iff.1 hc n
      rw [← installed, ← unreachable]
      rfl
    · rfl

theorem restartCorrelator_network (s : State) : NetworkKept P C s (restartCorrelator s) := by
  have recounted := forEach_keeps (P := fun u => EpisodesKept C s u ∧ Stands State.watchView s u ∧
      (TablesSound s → BranchCountsSound s → BranchCountsSound u)) branchNumbers recountTaps
    (fun n _ u ⟨episodes, watches, counts⟩ => by
      obtain ⟨episodes', watches', taps⟩ := recountTaps_keeps (C := C) n u
      refine ⟨episodes.trans episodes', watches.trans watches', fun hs hc => ?_⟩
      exact counts_of_tapView (taps (episodes.tables hs) (counts hs hc)) (episodes.tables hs) (counts hs hc))
    s ⟨(OutageKept.refl s).toEpisodesKept, .refl s, fun _ => id⟩
  obtain ⟨episodes, watches, counts⟩ := recounted
  have decided : NetworkKept P C s (decideBranches (forEach branchNumbers recountTaps s)) := by
    refine ⟨episodes.decided, fun _ hs hc => ?_, fun hs hw => ?_⟩
    · exact counts_of_tapView (decideBranches_tapView _) (episodes.tables hs) (counts hs hc)
    · refine watches_of_watchView (watches.trans fun ht => ⟨(decideBranches_kept _).tables ht, fun k => ?_⟩) hs hw
      rw [State.watchView, watched_of_undecided (decideBranches_undecided ht k),
        watch_of_butBranches (decideBranches_butBranches _)]
      rfl
  exact decided.trans (decideTiers_network _)

theorem restartHeadEnd_network (s : State) : NetworkKept P C s (restartHeadEnd s) := by
  have sources : ∀ n u, NetworkKept P C u (takeSource n u) := fun n u => by
    unfold takeSource
    extract_lets r u1
    have h1 : NetworkKept P C u u1 := setSource_network n _ u
    exact .ite h1 (h1.trans (presenceTaken_network n u1))
  have sponsors : ∀ n u, NetworkKept P C u (warmSponsors n u) := fun n u => by
    unfold warmSponsors
    extract_lets r
    split
    · exact (setSlot_network n _ u).trans (setSlot_network n _ _)
    · exact setSlot_network n _ u
  have monitor : ∀ u, NetworkKept P C u (restartMonitor u) := fun u =>
    (NetworkKept.beside (by rfl) (by rfl)).trans (clearJudgements_network _)
  have drops : ∀ n u, NetworkKept P C u (dropCarrier n u) := fun n u => (setSlot_network n _ u).trans (.beside rfl rfl)
  have mode : ∀ u, NetworkKept P C u (warmMode u) := fun u => by
    have supplied : NetworkKept P C u (takeSupply u) := .beside rfl rfl
    unfold warmMode
    extract_lets u1 old new
    have moded : NetworkKept P C u1 { u1 with power := { u1.power with mode := new } } := .of_network rfl id
    exact .ite supplied ((supplied.trans moded).trans (.of_butAlarms (announceMode_butAlarms _ _ _)))
  have ramp : ∀ u, NetworkKept P C u (restartRamp u) := fun u =>
    ((forEach_network _ drops u).trans (mode _)).trans (forEach_network _ recomputeAim_network _)
  exact (((forEach_network _ sources s).trans (forEach_network _ sponsors _)).trans (monitor _)).trans (ramp _)

theorem restartPlant_network (s : State) : NetworkKept P C s (restartPlant s) := by
  have carrier : NetworkKept P C s (restartCarrier s) := .beside rfl rfl
  exact ((carrier.trans (rebuildSync_network _)).trans (restartSurvey_network _)).trans (.of_network rfl id)

theorem announceStart_network (s : State) : NetworkKept P C s (announceStart s) := .of_butPorts (noticeTo_butPorts _ _ _ _)

theorem restartPorts_network (b : Straps) (s : State) : NetworkKept P C s (restartPorts b s) :=
  have port : ∀ b p u, NetworkKept P C u (restartPort b p u) := fun _ _ u => setPort_network _ _ u
  ((port _ _ s).trans (port _ _ _)).trans (port _ _ _)

theorem warmRestart_network (b : Straps) (s : State) : NetworkKept P C s (warmRestart b s) := by
  have counted : ∀ u, NetworkKept P C u (countRestart u) := fun u => .beside rfl rfl
  have minute : ∀ u, NetworkKept P C u (restartMinute u) := fun u => .of_network rfl id
  have resumed : ∀ u, NetworkKept P C u (resumeMonitor u) := fun u => .ite (.beside rfl rfl) (.refl u)
  unfold warmRestart
  extract_lets s1 s2 s3
  have h1 : NetworkKept P C s s1 := ((restartPorts_network b s).trans (counted _)).trans (announceStart_network _)
  have h2 : NetworkKept P C s1 s2 :=
    ((restartHeadEnd_network s1).trans (restartPlant_network _)).trans (restartCorrelator_network _)
  have h3 : NetworkKept P C s2 s3 := evaluateEvents_network (fun u => .refl u) _ s2
  have h4 : NetworkKept P C s3 (clearUntrue s3) := .of_butAlarms (clearUntrue_butAlarms s3)
  generalize clearUntrue s3 = s4 at h4 ⊢
  exact ((h1.trans h2).trans (h3.trans h4)).trans (((minute s4).trans (resumed _)).trans (arbitrate_network _))

/-! ### The cold start (R176) -/

/-- R176: a cold start leaves the outage correlator, the taps, the watches and the survey clock as a reset does. -/
theorem coldStart_network_eq (b : Straps) (s : State) : (coldStart b s).network = State.reset.network := by
  have but : ∀ u : State, u.butAlarms.network = u.network := fun _ => rfl
  rw [← but, coldStart_butAlarms, but]
  rfl

theorem coldStart_network (running : ¬ C) (b : Straps) (s : State) : NetworkKept P C s (coldStart b s) := by
  have tables := (coldStart_kept b s).tables
  have cold : TablesSound .reset := by unfold TablesSound; decide
  have fresh : TablesSound s → NetworkKept True True .reset (coldStart b s) := fun hs =>
    .of_network (coldStart_network_eq b s) fun _ => tables hs
  exact
    { tables := tables
      clock := fun hc => absurd hc running
      episodes := fun hs _ => (fresh hs).episodes cold reset_episodesSound
      branches := fun hs _ => (fresh hs).branches cold reset_branchesSound
      counts := fun _ hs _ => (fresh hs).counts trivial cold reset_branchCountsSound
      watches := fun hs _ => (fresh hs).watches cold reset_watchesSound }

end Carrier

end Sys2Proof.Machine

namespace Sys2Proof.Machine

/-! ## Every command leaves the network sound -/

section Requests
variable {P C : Prop} {s t : State}

/-! ### Requests -/

/-- A block that chooses by a check. -/
theorem NetworkKept.block_ite {c : Prop} [Decidable c] {x y : State × Ans} (h : NetworkKept P C s x.1)
    (h' : NetworkKept P C s y.1) : NetworkKept P C s (if c then x else y).1 := by split <;> assumption

/-- A block that refuses where a check fails. -/
theorem NetworkKept.guard {c : Prop} [Decidable c] {x : State × Ans} {a : AnswerCode} (h : NetworkKept P C s x.1) :
    NetworkKept P C s (if c then refused a s else x).1 := .block_ite (.refl s) h

/-- A block that acts and answers. -/
theorem NetworkKept.answered (h : NetworkKept P C s t) (content : State → List Byte) : NetworkKept P C s (answered content t).1 := h

/-- R48, R82: an act behind which the tap of a record is tested and the arbiter decides. -/
theorem NetworkKept.tested (h : NetworkKept P C s t) (o : Option Nat) : NetworkKept P C s (arbitrate (entryTestOf o t)) :=
  (h.trans (entryTestOf_network o t)).trans (arbitrate_network _)

theorem subscriberAdd_network (a : AddArgs) (s : State) : NetworkKept P C s (subscriberAdd a s).1 := by
  unfold subscriberAdd
  refine .guard (.guard (.guard ?_))
  split
  · exact .refl s
  · exact .block_ite ((setSub_network _ _ s).tested (some a.tap)) (.refl s)

theorem subscriberChange_network (a : Nat × TierSet) (s : State) : NetworkKept P C s (subscriberChange a s).1 :=
  .guard (.guard (.ite (.refl s) ((setSub_network _ _ s).tested _)))

theorem subscriberRemove_network (n : Nat) (s : State) : NetworkKept P C s (subscriberRemove n s).1 :=
  .guard (.guard (NetworkKept.tested
    ((setSub_network _ _ s).trans (forEach_network _ (fun e u => setEvent_network e _ u) _)) _))

theorem purchase_network (a : Nat × Nat) (s : State) : NetworkKept P C s (purchase a s).1 := by
  have bought : ∀ r, NetworkKept P C s (addBuyer a.2 (s.setSub a.1 r)) := fun r =>
    (setSub_network _ _ s).trans (setEvent_network _ _ _)
  exact .guard (.guard (.guard (.guard (.guard (.guard (.ite ((bought _).tested _) (bought _)))))))

theorem purchaseCancel_network (a : Nat × Nat) (s : State) : NetworkKept P C s (purchaseCancel a s).1 :=
  .guard (.guard (.guard ((setSub_network _ _ s).trans (setEvent_network _ _ _))))

theorem clockSet_network (m : Nat) (s : State) : NetworkKept P C s (clockSet m s).1 := by
  have set : NetworkKept P C s { s with billing := { s.billing with clock := m } } := .of_network rfl id
  exact set.trans (evaluateEvents_network arbitrate_network m _)

theorem statementRead_network (n : Nat) (s : State) : NetworkKept P C s (statementRead n s).1 := by
  rw [statementRead_eq]
  exact .refl s

theorem portLocking_network (v : Bool) (a : Nat × Nat) (s : State) : NetworkKept P C s (portLocking v a s).1 := by
  unfold portLocking
  refine .guard ?_
  split
  · exact .ite (.refl s) ((setSub_network _ _ s).tested _)
  · exact .refl s

theorem tapInstall_network (a : Nat × Nat) (s : State) : NetworkKept P C s (tapInstall a s).1 := by
  unfold tapInstall
  refine .guard ?_
  split
  · exact .refl s
  · rename_i absent
    exact .guard (installTap_network (Bool.eq_false_of_not_eq_true absent) a.2)

theorem tapRemove_network (n : Nat) (s : State) : NetworkKept P C s (tapRemove n s).1 := by
  unfold tapRemove
  refine .guard ?_
  split
  · exact .refl s
  · rename_i installed
    exact .guard (removeTap_network (by simpa using installed))

theorem branchForcing_network (v : Bool) (n : Nat) (s : State) : NetworkKept P C s (branchForcing v n s).1 := by
  have forced : NetworkKept P C s (changeBranch n (fun b => { b with forced := v }) s) :=
    (changeBranch_outage n (fun _ => by rfl) s).network (changeBranch_tapView n (fun _ => by rfl) s)
      (changeBranch_watchView n (fun _ => by rfl) s)
  exact .guard (.guard (.answered (.ite (.refl s) forced) _))

theorem branchSet_network (a : BranchArgs) (s : State) : NetworkKept P C s (branchSet a s).1 := by
  have change : NetworkKept P C s (branchChange a s).1 := by
    unfold branchChange
    split
    · exact .refl s
    · exact changeBranchRecord_network a.branch a s
  have removal : NetworkKept P C s (branchRemoval a.branch s).1 := by
    unfold branchRemoval
    refine .guard ?_
    split
    · exact .refl s
    · rename_i bare
      exact removeBranch_network (by simp at bare; exact bare.1)
  exact .guard (.block_ite removal change)

theorem carrierOn_network (s : State) : NetworkKept P C s (carrierOn s) := by
  unfold carrierOn
  refine .ite (.refl s) (.trans ?_ (arbitrate_network _))
  exact .beside rfl rfl

theorem returnOn_network (s : State) : NetworkKept P C s (returnOn s) := by
  unfold returnOn
  refine .ite (.refl s) (.trans ?_ (arbitrate_network _))
  exact .beside rfl rfl

theorem returnOff_network (s : State) : NetworkKept P C s (returnOff s) := .ite (.beside rfl rfl) (.refl s)

theorem acceptQuery_network (k : QueryKind) (n : Nat) (l : List Byte) (s : State) : NetworkKept P C s (acceptQuery k n l s).1 := by
  have queued : NetworkKept P C s (enqueueQuery k n l s) := .beside rfl rfl
  exact .block_ite (queued.trans (arbitrate_network _)) (.refl s)

theorem tapQuery_network (n : Nat) (s : State) : NetworkKept P C s (tapQuery n s).1 :=
  .block_ite (acceptQuery_network .tapQuery n [] s) (.refl s)

theorem tapEcho_network (a : Nat × List Byte) (s : State) : NetworkKept P C s (tapEcho a s).1 :=
  .block_ite (acceptQuery_network .tapEcho a.1 a.2 s) (.refl s)

theorem stationQuery_network (n : Nat) (s : State) : NetworkKept P C s (stationQuery n s).1 :=
  .block_ite (acceptQuery_network .stationQuery n [] s) (.refl s)

theorem monitorSet_network (a : MonitorArgs) (s : State) : NetworkKept P C s (monitorSet a s).1 := by
  have set : NetworkKept P C s { s with monitor := s.monitor.withArgs a } := .beside rfl rfl
  exact set.trans (applyMonitor_network _ _)

theorem postRevision_network (s : State) : NetworkKept P C s (postRevision s) := by
  have reloaded : NetworkKept P C s (reloadBroadcast s) := .beside rfl rfl
  exact ((reloaded.trans (arbitrate_network _)).trans (entryTestAll_network _)).trans (arbitrate_network _)

theorem slotSet_network (a : SlotArgs) (s : State) : NetworkKept P C s (slotSet a s).1 := by
  have settings : NetworkKept P C s (s.settingsWritten a) := by
    have sends : ∀ o o' u, NetworkKept P C u (selectIfChanged a.slot o o' u) := fun o o' u => .ite (.refl u) (.beside rfl rfl)
    have raises : ∀ u, NetworkKept P C u (raiseRevision u) := fun u => .beside rfl rfl
    have written := setSlot_network (P := P) (C := C) a.slot ((s.slot a.slot).withArgs a) s
    exact (written.trans (.ite (.refl _) (raises _))).trans (sends _ _ _)
  have refreshed := settings.trans (refreshSlot_network a.slot _)
  refine .guard (.guard ?_)
  change NetworkKept P C s (setSlotSettings a s)
  rw [setSlotSettings_eq]
  exact .ite refreshed (refreshed.trans (postRevision_network _))

theorem eventSchedule_network (a : ScheduleArgs) (s : State) : NetworkKept P C s (eventSchedule a s).1 := by
  unfold eventSchedule scheduleClamped
  refine .guard (.guard (.guard (.guard ?_)))
  split
  · exact setEvent_network _ _ s
  · exact .refl s

theorem eventCancel_network (e : Nat) (s : State) : NetworkKept P C s (eventCancel e s).1 := by
  unfold eventCancel
  refine .block_ite ?_ (.refl s)
  split
  · exact .refl s
  · exact (cancelScheduled_network e s).answered _
  · exact (cancelShowing_network e s).answered _
  · exact .refl s
  · exact .refl s

theorem sponsoring_network (p : Master) (v : Bool) (n : Nat) (s : State) : NetworkKept P C s (sponsoring p v n s).1 :=
  .block_ite ((setSlot_network n _ s).trans (refreshSlot_network n _)) (.refl s)

theorem alarmAck_network (p : Master) (n : Nat) (s : State) : NetworkKept P C s (alarmAck p n s).1 := by
  unfold alarmAck
  refine .block_ite ?_ (.refl s)
  split
  · exact .refl s
  · exact .block_ite (.of_butAlarms (retire_butAlarms _ _)) (.refl s)

theorem reading_network (hi : Nat) (content : Nat → State → List Byte) (n : Nat) (s : State) :
    NetworkKept P C s (reading hi content n s).1 := .block_ite (.refl s) (.refl s)

theorem subscriberRead_network (n : Nat) (s : State) : NetworkKept P C s (subscriberRead n s).1 := by
  have read := fun c => reading_network (P := P) (C := C) 2048 c n s
  exact .block_ite ((read _).trans (.beside (by rfl) (by rfl))) (read _)

theorem serve_network {α : Type} {block : Block α} (hb : ∀ a u, NetworkKept P C u (block a u).1) (p : Master) (m : Msg)
    (ok : Bool) (parse : List Byte → Option α) (s : State) : NetworkKept P C s (serve p m ok parse block s) := by
  unfold serve
  split
  · split
    · exact (hb _ s).trans (putAnswer_network _ _ _ _)
    · exact putAnswer_network _ _ _ s
  · exact putAnswer_network _ _ _ s

theorem serveClose_network (p : Master) (m : Msg) (s : State) : NetworkKept P C s (serveClose p m s) := by
  unfold serveClose
  split
  · split
    · unfold closeOrWait
      split
      · exact (closeCycle_network s).trans (putAnswer_network _ _ _ _)
      · have waits : NetworkKept P C s { s with billing := { s.billing with closeWaiting := true } } := .of_network rfl id
        exact waits.trans (setPort_network _ _ _)
    · exact putAnswer_network _ _ _ s
  · exact putAnswer_network _ _ _ s

theorem serveRestart_network (p : Master) (m : Msg) (b : Straps) (s : State) : NetworkKept P C s (serveRestart p m b s) := by
  unfold serveRestart
  split
  · split
    · exact warmRestart_network b s
    · exact putAnswer_network _ _ _ s
  · exact putAnswer_network _ _ _ s

/-! ### The ports -/

theorem acceptMessage_network (p : Master) (m : Msg) (s : State) : NetworkKept P C s (acceptMessage p m s) :=
  .ite (setPort_network _ _ s) (.ite (putAnswer_network _ _ _ s) (.refl s))

theorem takeByte_network (p : Master) (b : Byte) (s : State) : NetworkKept P C s (takeByte p b s) := by
  have sets : ∀ rx, NetworkKept P C s (setReceiver p rx s) := fun _ => setPort_network _ _ s
  have hunts : NetworkKept P C s (huntByte p b s) := .ite (sets _) (sets _)
  have finishes : ∀ l, NetworkKept P C s (finishMessage p l s) := fun l => by
    unfold finishMessage
    extract_lets s1
    have h1 : NetworkKept P C s s1 := sets _
    split
    · exact .ite (h1.trans (acceptMessage_network _ _ _)) h1
    · exact h1
  unfold takeByte
  split
  · exact hunts
  · exact .ite (sets _) hunts
  · exact .ite (sets _) (finishes _)

/-! ### Every command -/

/-- Where a command answers a next state, the network stays sound. -/
def NetworkBy (P C : Prop) (s : State) (r : Result) : Prop := ∀ t, r = .next t → NetworkKept P C s t

theorem NetworkBy.next (h : NetworkKept P C s t) : NetworkBy P C s (.next t) := fun u hu => by
  obtain rfl : t = u := by injection hu
  exact h

theorem NetworkBy.stays : NetworkBy P C s (.next s) := .next (.refl s)

theorem NetworkBy.fault (f : Fault) : NetworkBy P C s (.fault f) := fun _ hu => by cases hu

theorem NetworkBy.ite {c : Prop} [Decidable c] {x y : Result} (h : NetworkBy P C s x) (h' : NetworkBy P C s y) :
    NetworkBy P C s (if c then x else y) := by split <;> assumption

/-- A request that its port takes now. -/
theorem NetworkBy.taken {p : Master} {f : Nat → Bool} {g : Msg → State → State} (hg : ∀ m u, NetworkKept P C u (g m u)) :
    NetworkBy P C s (match s.takable p f with
      | some m => .next (g m (dropHead p s))
      | none => .next s) := by
  split
  · exact .next ((setPort_network _ _ s).trans (hg _ _))
  · exact .stays

theorem NetworkBy.request {α : Type} {block : Block α} (hb : ∀ a u, NetworkKept P C u (block a u).1) (p : Master) (k : Nat)
    (ok : Bool) (parse : List Byte → Option α) : NetworkBy P C s (.next (takeRequest p k ok parse block s)) := by
  unfold takeRequest
  split
  · exact .next ((setPort_network _ _ s).trans (serve_network hb p _ ok parse _))
  · exact .stays

section Events
variable (off : C → s.engine.returnOn = false)
include off

theorem execSourceQualificationExpiry_network (n : Nat) : NetworkBy P C s (execSourceQualificationExpiry n s) := by
  unfold execSourceQualificationExpiry
  refine .ite ?_ (.fault _)
  split
  · exact .next (((passTime_network off _).trans (setSource_network n _ _)).trans (presenceChanged_network n _))
  · exact .stays

theorem execSupplyQualificationExpiry_network (line : SupplyLine) : NetworkBy P C s (execSupplyQualificationExpiry line s) := by
  have mains : ∀ u, NetworkKept P C u (qualifyMains u) := fun u => (NetworkKept.beside (by rfl) (by rfl)).trans (decideMode_network _)
  have reserve : ∀ u, NetworkKept P C u (qualifyReserve u) := fun u =>
    (NetworkKept.beside (by rfl) (by rfl)).trans (decideMode_network _)
  cases line <;> unfold execSupplyQualificationExpiry <;> dsimp only <;> split
  · exact .next ((passTime_network off _).trans (mains _))
  · exact .stays
  · exact .next ((passTime_network off _).trans (reserve _))
  · exact .stays

theorem execStepTimerExpiry_network (n : Nat) : NetworkBy P C s (execStepTimerExpiry n s) := by
  unfold execStepTimerExpiry
  refine .ite ?_ (.fault _)
  split
  · exact .next ((passTime_network off _).trans (takeStep_network n _))
  · exact .stays

theorem execReplyWindowExpiry_network (installed : P → SyncSound s) : NetworkBy P C s (execReplyWindowExpiry s) := by
  unfold execReplyWindowExpiry
  split
  · rename_i x w _ hx _
    refine .next ((passTime_network off _).trans (failAttempt_network (fun hp => ?_) _))
    exact ((installed hp).syncInstalled hx).congr (tap_of_taps (passTime_taps s _))
  · exact .stays

theorem execDwellExpiry_network (r : Nat) : NetworkBy P C s (execDwellExpiry r s) := by
  unfold execDwellExpiry
  split
  · exact .next ((passTime_network off _).trans (completeConversion_network _ r _))
  · exact .stays

theorem execInterByteTimeout_network (p : Master) : NetworkBy P C s (execInterByteTimeout p s) := by
  unfold execInterByteTimeout
  split
  · exact .next ((passTime_network off _).trans (setPort_network _ _ _))
  · exact .stays

theorem execPollDueTime_network (n : Nat) : NetworkBy P C s (execPollDueTime n s) := by
  refine .ite (.next (atSurveyTime_network off fun d u pending same => pollFallsDue_network ?_)) (.fault _)
  have watching : (s.watch n).state = .watching := by
    by_contra no
    rw [Watch.pendingDue, if_neg no] at pending
    cases pending
  rw [State.watch, same]
  exact watching

theorem execRecoveryDueTime_network (n : Nat) : NetworkBy P C s (execRecoveryDueTime n s) := by
  refine .ite (.next (atSurveyTime_network off fun d u pending same => recoveryFallsDue_network ?_)) (.fault _)
  have silent : (s.watch n).state = .silent := by
    by_contra no
    rw [Watch.pendingRecovery, if_neg fun h => no h.1] at pending
    cases pending
  rw [State.watch, same]
  exact silent

end Events

theorem execTransmitCompletion_network (installed : P → SyncSound s) : NetworkBy P C s (execTransmitCompletion s) := by
  unfold execTransmitCompletion
  split
  · exact .next (transmitted_network fun hp => (installed hp).syncInstalled ‹_›)
  · exact .stays

theorem execReplyTake_network (installed : P → SyncSound s) : NetworkBy P C s (execReplyTake s) := by
  unfold execReplyTake
  split
  · exact .next (takeFrame_network fun hp => (installed hp).syncInstalled ‹_›)
  · exact .stays

theorem execSweepVisit_network : NetworkBy P C s (execSweepVisit s) := by
  unfold execSweepVisit
  split
  · exact .next (sweepOne_network _ s)
  · exact .stays

theorem execMessageSent_network (p : Master) : NetworkBy P C s (execMessageSent p s) := by
  unfold execMessageSent
  extract_lets q
  split
  · exact .next (setPort_network _ _ s)
  · exact .stays

theorem execRestartLine_network {intact : Bool} (warm : intact = false → ¬ C) (b : Straps) :
    NetworkBy P C s (execRestartLine intact b s) := by
  unfold execRestartLine
  split
  · exact .next (warmRestart_network b s)
  · exact .next (coldStart_network (warm (Bool.eq_false_of_not_eq_true ‹_›)) b s)

/-- Every command leaves the network sound, and the survey clock where the return is OFF and it is no cold start. -/
theorem exec_network (c : Instr) (s : State) :
    NetworkBy (SyncSound s) (s.engine.returnOn = false ∧ ∀ b, c ≠ .restartLine false b) s (exec c s) := by
  have off : (s.engine.returnOn = false ∧ ∀ b, c ≠ .restartLine false b) → s.engine.returnOn = false := And.left
  generalize hC : (s.engine.returnOn = false ∧ ∀ b, c ≠ .restartLine false b) = C at off ⊢
  cases c with
  | sourcePresenceLineChange n high => exact .ite (.ite .stays (.next (setSource_network n _ s))) (.fault _)
  | sourceQualificationExpiry n => exact execSourceQualificationExpiry_network off n
  | supplyLineChange line high => cases line <;> exact .ite .stays (.next (.beside rfl rfl))
  | supplyQualificationExpiry line => exact execSupplyQualificationExpiry_network off line
  | stepTimerExpiry n => exact execStepTimerExpiry_network off n
  | transmitCompletion => exact execTransmitCompletion_network id
  | frameReceived bytes stops => exact .ite (.ite (.next (receiveFrame_network _ s)) .stays) (.fault _)
  | frameStreamTimeout => exact .ite (.next (receiveFrame_network _ s)) .stays
  | replyTake => exact execReplyTake_network id
  | replyWindowExpiry => exact execReplyWindowExpiry_network off id
  | pollDueTime b => exact execPollDueTime_network off b
  | stationDeadline b =>
    exact .ite (.next (atSurveyTime_network off fun _ u _ _ => takeDeadline_network b u)) (.fault _)
  | recoveryDueTime b => exact execRecoveryDueTime_network off b
  | auditStepTimerExpiry => exact .next (atSurveyTime_network off fun _ u _ _ => .beside rfl rfl)
  | dwellExpiry r => exact execDwellExpiry_network off r
  | minuteTick => exact .next ((passTime_network off _).trans (takeTick_network _))
  | sweepVisit => exact execSweepVisit_network
  | messageReceived p kind tag body =>
    exact .ite (.next ((setPort_network p _ s).trans (acceptMessage_network _ _ _))) (.fault _)
  | interByteTimeout p => exact execInterByteTimeout_network off p
  | messageSent p => exact execMessageSent_network p
  | unknownRequest p => exact .taken fun m u => putAnswer_network p m _ u
  | subscriberAdd p => exact .request subscriberAdd_network p _ _ _
  | subscriberChange p => exact .request subscriberChange_network p _ _ _
  | subscriberRemove p => exact .request subscriberRemove_network p _ _ _
  | purchase p => exact .request purchase_network p _ _ _
  | purchaseCancel p => exact .request purchaseCancel_network p _ _ _
  | clockSet p => exact .request clockSet_network p _ _ _
  | rateSet p => exact .request (fun l u => .guard (.of_network (by rfl) (setRates_kept l u).tables)) p _ _ _
  | creditSet p => exact .request (fun _ u => .of_network (by rfl) id) p _ _ _
  | cycleClose p => exact .taken (serveClose_network p)
  | statementRead p => exact .request statementRead_network p _ _ _
  | portLock p => exact .request (portLocking_network true) p _ _ _
  | portUnlock p => exact .request (portLocking_network false) p _ _ _
  | tapInstall p => exact .request tapInstall_network p _ _ _
  | tapRemove p => exact .request tapRemove_network p _ _ _
  | branchSet p => exact .request branchSet_network p _ _ _
  | branchForce p => exact .request (branchForcing_network true) p _ _ _
  | branchRelease p => exact .request (branchForcing_network false) p _ _ _
  | carrierOn p => exact .request (fun _ u => carrierOn_network u) p _ _ _
  | carrierOff p => exact .request (fun _ u => .beside rfl rfl) p _ _ _
  | returnOn p => exact .request (fun _ u => returnOn_network u) p _ _ _
  | returnOff p => exact .request (fun _ u => returnOff_network u) p _ _ _
  | linkSet p => exact .request (fun _ u => .beside rfl rfl) p _ _ _
  | tapQuery p => exact .request tapQuery_network p _ _ _
  | tapEcho p => exact .request tapEcho_network p _ _ _
  | stationQuery p => exact .request stationQuery_network p _ _ _
  | monitorSet p => exact .request monitorSet_network p _ _ _
  | alarmResurvey p => exact .request (fun _ u => .of_butAlarms (resurvey_butAlarms u)) p _ _ _
  | restart p b => exact .taken fun m u => serveRestart_network p m b u
  | slotSet p => exact .request slotSet_network p _ _ _
  | eventSchedule p => exact .request eventSchedule_network p _ _ _
  | eventCancel p => exact .request eventCancel_network p _ _ _
  | sponsor p => exact .request (sponsoring_network p true) p _ _ _
  | withdraw p => exact .request (sponsoring_network p false) p _ _ _
  | audienceSet p => exact .request (fun _ u => .of_butAlarms (by rfl)) p _ _ _
  | alarmAck p => exact .request (alarmAck_network p) p _ _ _
  | identify p => exact .request (fun _ u => .refl u) p _ _ _
  | slotRead p => exact .request (reading_network _ _) p _ _ _
  | subscriberRead p => exact .request subscriberRead_network p _ _ _
  | tapRead p => exact .request (reading_network _ _) p _ _ _
  | branchRead p => exact .request (reading_network _ _) p _ _ _
  | stationRead p => exact .request (reading_network _ _) p _ _ _
  | alarmListRead p => exact .request (reading_network _ _) p _ _ _
  | eventRead p => exact .request (reading_network _ _) p _ _ _
  | billingRead p => exact .request (fun _ u => .refl u) p _ _ _
  | linkRead p => exact .request (fun _ u => .refl u) p _ _ _
  | restartLine intact b =>
    exact execRestartLine_network (fun cold hc => (hC ▸ hc).2 b (cold ▸ rfl)) b
  | startIndication a b c => exact .ite (.next (.beside rfl rfl)) .stays
  | masterPortByteReceived p byte stop => exact .ite (.next (takeByte_network p byte s)) (.next (setPort_network _ _ s))

/-- A step runs the front command on the queue's rest, or 1 ms passes. -/
theorem step_network (h : step s = .next t) : NetworkKept (SyncSound s) False s t := by
  unfold step at h
  split at h
  · rename_i c rest _
    have dequeued : NetworkKept (SyncSound s) False s { s with pending := rest } := .beside rfl rfl
    have run := exec_network c { s with pending := rest } t h
    exact dequeued.trans { run with clock := False.elim }
  · injection h with h
    exact h ▸ passTime_network False.elim 1

/-- Settles O56: every act keeps the decisions, the counts, the episodes and the watches, each as its own part of the network. -/
theorem branchesStaySound : Obligations.BranchesStaySound := by
  unfold Obligations.BranchesStaySound
  refine ⟨fun s t tables _ sync branches counts h => ?_, fun s t tables episodes h => ?_, fun s t tables watches h => ?_⟩
  · exact ⟨(step_network h).branches tables branches, (step_network h).counts sync tables counts⟩
  · exact (step_network h).episodes tables episodes
  · exact (step_network h).watches tables watches

/-- Settles O2: no act but the passing of time with the return ON moves the survey clock, and the cold start sets it to 0. -/
theorem surveyClockHoldsWhileReturnOff : Obligations.SurveyClockHoldsWhileReturnOff := by
  unfold Obligations.SurveyClockHoldsWhileReturnOff
  refine fun i s t off h => ⟨fun b hi => ?_, fun warm => (exec_network i s t h).clock ⟨off, warm⟩⟩
  subst hi
  injection h with h
  exact h ▸ congrArg (fun u : State => u.survey.clock) (coldStart_network_eq b s)

end Requests

end Sys2Proof.Machine


namespace Sys2Proof.Machine

/-! ## The alarms of a station's report (R100, R132, R135) -/

section Records
variable {k : AlarmKind} {o : Nat} {r x : AlarmRecord} {l : List AlarmRecord}

/-! ### The records that a change of the list leaves -/

theorem mem_replaceRecord_of_ne (h : x.kind ≠ r.kind) : x ∈ replaceRecord r l ↔ x ∈ l := by
  have other : x ≠ r := fun same => h (same ▸ rfl)
  induction l with
  | nil => rfl
  | cons y l ih =>
    unfold replaceRecord
    split
    · rename_i same
      have : x ≠ y := fun is => h (is ▸ same.1)
      simp [other, this]
    · simp [ih]

theorem mem_dropRecord_of_ne (h : x.kind ≠ k) : x ∈ dropRecord k o l ↔ x ∈ l := by
  induction l with
  | nil => rfl
  | cons y l ih =>
    unfold dropRecord
    split
    · rename_i same
      have : x ≠ y := fun is => h (is ▸ same.1)
      simp [this]
    · simp [ih]

theorem mem_evictCleared_of_active (h : x.state = .active) : x ∈ evictCleared l ↔ x ∈ l := by
  induction l with
  | nil => rfl
  | cons y l ih =>
    unfold evictCleared
    split
    · rename_i cleared
      have : x ≠ y := fun is => by rw [is, cleared] at h; cases h
      simp [this]
    · simp [ih]

end Records

section Kinds
variable {K : AlarmKind} {s t u : State} {k : AlarmKind} {o : Nat} {x : AlarmRecord}

theorem alarm_of_mem (once : ListedOnce s) (listed : x ∈ s.alarms.records) (condition : x.condition = (k, o)) :
    s.alarm k o = some x := by
  cases found : s.alarm k o with
  | none => exact absurd (List.mem_map.2 ⟨x, listed, condition⟩) (alarm_eq_none found)
  | some y =>
    obtain ⟨listed', condition'⟩ := alarm_eq_some found
    exact congrArg some (List.inj_on_of_nodup_map once listed' listed (condition'.trans condition.symm))

/-- An act that leaves the ACTIVE records of a kind, lists no condition twice and hides no missing record. -/
structure KindStands (K : AlarmKind) (s t : State) : Prop where
  listed : ListedOnce s → ListedOnce t
  active : ∀ x : AlarmRecord, x.kind = K → x.state = .active → (x ∈ t.alarms.records ↔ x ∈ s.alarms.records)
  incomplete : s.alarms.incomplete = true → t.alarms.incomplete = true

theorem KindStands.of_alarms (h : t.alarms = s.alarms) : KindStands K s t where
  listed hs := hs.congr h
  active _ _ _ := by rw [h]
  incomplete hs := h ▸ hs

theorem KindStands.refl (s : State) : KindStands K s s := .of_alarms rfl

theorem KindStands.trans (h : KindStands K s t) (h' : KindStands K t u) : KindStands K s u where
  listed hs := h'.listed (h.listed hs)
  active x kind active := (h'.active x kind active).trans (h.active x kind active)
  incomplete hs := h'.incomplete (h.incomplete hs)

theorem KindStands.ite {c : Prop} [Decidable c] (h : KindStands K s t) (h' : KindStands K s u) :
    KindStands K s (if c then t else u) := by split <;> assumption

theorem forEach_kindStands (l : List Nat) {f : Nat → State → State} (h : ∀ n u, KindStands K u (f n u)) (s : State) :
    KindStands K s (forEach l f s) :=
  forEach_keeps (P := KindStands K s) l f (fun n _ u hu => hu.trans (h n u)) s (.refl s)

/-! ### One posting (R132, R135) -/

theorem appendRecord_alarms (l : List AlarmRecord) (s : State) : ∃ r : AlarmRecord, r.condition = (k, o) ∧ r.state = .active ∧
    (appendRecord k o l s).alarms.records = l ++ [r] ∧ (appendRecord k o l s).alarms.incomplete = s.alarms.incomplete := by
  unfold appendRecord
  extract_lets n r
  refine ⟨r, rfl, rfl, ?_, ?_⟩ <;> rw [alarmNotice, noticeTo_alarms]

theorem reopenRecord_alarms (r : AlarmRecord) (s : State) : ∃ r' : AlarmRecord, r'.condition = r.condition ∧ r'.state = .active ∧
    (reopenRecord r s).alarms = { s.alarms with records := replaceRecord r' s.alarms.records } := by
  unfold reopenRecord
  extract_lets r'
  exact ⟨r', rfl, rfl, by rw [alarmNotice, noticeTo_alarms]; rfl⟩

theorem newRecord_active (other : x.kind ≠ k) (active : x.state = .active) :
    x ∈ (newRecord k o s).alarms.records ↔ x ∈ s.alarms.records := by
  have appended : ∀ l, x ∈ (appendRecord k o l s).alarms.records ↔ x ∈ l := fun l => by
    obtain ⟨r, condition, -, records, -⟩ := appendRecord_alarms (k := k) (o := o) l s
    rw [records, List.mem_append, List.mem_singleton]
    exact or_iff_left fun is => other (is ▸ congrArg Prod.fst condition)
  unfold newRecord
  extract_lets l
  split
  · exact appended l
  · split
    · exact (appended _).trans (mem_evictCleared_of_active active)
    · rfl

theorem newRecord_incomplete (h : s.alarms.incomplete = true) : (newRecord k o s).alarms.incomplete = true := by
  have appended : ∀ l, (appendRecord k o l s).alarms.incomplete = true := fun l => by
    obtain ⟨-, -, -, -, same⟩ := appendRecord_alarms (k := k) (o := o) l s
    exact same.trans h
  unfold newRecord
  extract_lets l
  split
  · exact appended l
  · split
    · exact appended _
    · rfl

/-- A condition whose gate is open, posted as raised, has an ACTIVE record, or the list is incomplete. -/
theorem raiseAlarm_lists (h : s.gateOpen k o = true) :
    (∃ x ∈ (raiseAlarm k o s).alarms.records, x.condition = (k, o) ∧ x.state = .active) ∨
      (raiseAlarm k o s).alarms.incomplete = true := by
  have appended : ∀ l, ∃ x ∈ (appendRecord k o l s).alarms.records, x.condition = (k, o) ∧ x.state = .active := fun l => by
    obtain ⟨r, condition, active, records, -⟩ := appendRecord_alarms (k := k) (o := o) l s
    exact ⟨r, by simp [records], condition, active⟩
  unfold raiseAlarm
  rw [if_pos h]
  split
  · unfold newRecord
    extract_lets l
    split
    · exact .inl (appended l)
    · split
      · exact .inl (appended _)
      · exact .inr rfl
  · rename_i r found
    obtain ⟨listed, condition⟩ := alarm_eq_some found
    split
    · obtain ⟨r', same, active, alarms⟩ := reopenRecord_alarms r s
      refine .inl ⟨r', ?_, same.trans condition, active⟩
      rw [alarms]
      exact mem_replaceRecord (List.mem_map.2 ⟨r, listed, same.symm⟩)
    · rename_i uncleared
      refine .inl ⟨r, listed, condition, ?_⟩
      cases state : r.state with
      | active => rfl
      | cleared => exact absurd state uncleared

theorem raiseAlarm_kindStands (h : K ≠ k) (o : Nat) (s : State) : KindStands K s (raiseAlarm k o s) := by
  have listed : ListedOnce s → ListedOnce (raiseAlarm k o s) := fun hs => hs.raiseAlarm k o
  revert listed
  unfold raiseAlarm
  split
  · split
    · exact fun listed => ⟨listed, fun x kind active => newRecord_active (kind ▸ h) active, newRecord_incomplete⟩
    · rename_i r found
      split
      · obtain ⟨r', same, -, alarms⟩ := reopenRecord_alarms r s
        have kind' : r'.kind = k := congrArg Prod.fst (same.trans (alarm_eq_some found).2)
        refine fun listed => ⟨listed, fun x kind _ => ?_, fun hs => alarms ▸ hs⟩
        rw [alarms]
        exact mem_replaceRecord_of_ne (by rw [kind, kind']; exact h)
      · exact fun _ => .refl s
  · exact fun _ => .refl s

theorem clearRecord_alarms (r : AlarmRecord) (s : State) : ∃ r' : AlarmRecord, r'.condition = r.condition ∧
    ((clearRecord r s).alarms = { s.alarms with records := replaceRecord r' s.alarms.records } ∨
      (clearRecord r s).alarms =
        { s.alarms with records := dropRecord r.kind r.object (replaceRecord r' s.alarms.records) }) := by
  unfold clearRecord retire
  extract_lets r'
  have told := noticeTo_alarms r'.audience AlarmNotice.cleared.byte r'.noticeBody (setRecords (replaceRecord r' s.alarms.records) s)
  refine ⟨r', rfl, ?_⟩
  split
  · exact .inr (congrArg (fun a : Alarms => { a with records := dropRecord r.kind r.object a.records }) told)
  · exact .inl told

theorem endAlarm_kindStands (h : K ≠ k) (o : Nat) (s : State) : KindStands K s (endAlarm k o s) := by
  have listed : ListedOnce s → ListedOnce (endAlarm k o s) := fun hs => hs.endAlarm k o
  revert listed
  unfold endAlarm
  split
  · rename_i r found
    have kind' : r.kind = k := congrArg Prod.fst (alarm_eq_some found).2
    split
    · obtain ⟨r', same, alarms⟩ := clearRecord_alarms r s
      have other : ∀ x : AlarmRecord, x.kind = K → x.kind ≠ r.kind := fun x kind => by rw [kind, kind']; exact h
      have replaced : ∀ x : AlarmRecord, x.kind = K → (x ∈ replaceRecord r' s.alarms.records ↔ x ∈ s.alarms.records) :=
        fun x kind => mem_replaceRecord_of_ne fun is => other x kind (is.trans (congrArg Prod.fst same))
      refine fun listed => ⟨listed, fun x kind _ => ?_, fun hs => ?_⟩
      · rcases alarms with alarms | alarms <;> rw [alarms]
        · exact replaced x kind
        · exact (mem_dropRecord_of_ne (other x kind)).trans (replaced x kind)
      · rcases alarms with alarms | alarms <;> exact alarms ▸ hs
    · exact fun _ => .refl s
  · exact fun _ => .refl s

theorem postChange_kindStands (h : K ≠ k) (o : Nat) (b a : Bool) (s : State) : KindStands K s (postChange k o b a s) :=
  .ite (raiseAlarm_kindStands h o s) (.ite (endAlarm_kindStands h o s) (.refl s))

/-! ### The outage correlator posts three kinds (R125, R136) -/

/-- The kinds that a decision of the branches posts. -/
def AlarmKind.correlated (k : AlarmKind) : Prop := k = .branchOut ∨ k = .stationSilent ∨ k = .tapUnreachable

theorem handOnBranch_kindStands (h : ¬ K.correlated) (old : Branch) (n : Nat) (s : State) :
    KindStands K s (handOnBranch old n s) := by
  have out : K ≠ .branchOut := fun is => h (.inl is)
  have silent : K ≠ .stationSilent := fun is => h (.inr (.inl is))
  have unreachable : K ≠ .tapUnreachable := fun is => h (.inr (.inr is))
  have affected : ∀ u, KindStands K u (correlateAffected n u) :=
    fun u => forEach_kindStands _ (endAlarm_kindStands unreachable) u
  have unaffected : ∀ u, KindStands K u (correlateUnaffected n u) :=
    fun u => forEach_kindStands _ (raiseAlarm_kindStands unreachable) u
  have shadowed : ∀ u, KindStands K u (correlateShadowed n u) :=
    fun u => (endAlarm_kindStands out n u).trans (endAlarm_kindStands silent n _)
  have unshadowed : ∀ u, KindStands K u (correlateUnshadowed n u) := fun u => by
    unfold correlateUnshadowed
    extract_lets u1
    have h1 : KindStands K u u1 := .ite (raiseAlarm_kindStands out n u) (.refl u)
    exact .ite (h1.trans (raiseAlarm_kindStands silent n u1)) h1
  unfold handOnBranch
  extract_lets new s1 s2 s3
  have h1 : KindStands K s s1 := .of_alarms rfl
  have h2 : KindStands K s s2 := h1.trans (postChange_kindStands out _ _ _ _)
  have h3 : KindStands K s s3 := .ite (h2.trans (affected s2)) (.ite (h2.trans (unaffected s2)) h2)
  exact .ite (h3.trans (shadowed s3)) (.ite (h3.trans (unshadowed s3)) h3)

theorem decideBranches_kindStands (h : ¬ K.correlated) (s : State) : KindStands K s (decideBranches s) := by
  unfold decideBranches
  extract_lets keys s1 s2
  have decided : KindStands K s s2 :=
    (KindStands.of_alarms (by rfl)).trans (forEach_kindStands keys (f := decideFlags) (fun _ _ => .of_alarms (by rfl)) s1)
  exact decided.trans (forEach_kindStands keys (fun m u => handOnBranch_kindStands h (s.branch m) m u) s2)

theorem changeBranch_kindStands (h : ¬ K.correlated) (n : Nat) (f : Branch → Branch) (s : State) :
    KindStands K s (changeBranch n f s) :=
  (KindStands.of_alarms (by rfl)).trans (decideBranches_kindStands h (s.setBranch n (f (s.branch n))))

end Kinds

/-! ### A change of report (R100) -/

section Reports
variable {k K : AlarmKind} {n : Nat} {f : StationReport → Bool} {old new : Option StationReport} {s t u v : State}

theorem endStation_kindStands (h : K ≠ k) (s : State) : KindStands K s (endStation k f n old new s) :=
  .ite (endAlarm_kindStands h n s) (.refl s)

theorem raiseStation_kindStands (h : K ≠ k) (s : State) : KindStands K s (raiseStation k f n old new s) :=
  .ite (raiseAlarm_kindStands h n s) (.refl s)

/-- What a change of report, from `old` to `new`, does to the records of one condition `f` of branch `n`, of kind `k`. -/
structure ReportPosted (k : AlarmKind) (n : Nat) (f : StationReport → Bool) (old new : Option StationReport) (s t : State) : Prop where
  begins : ListedOnce s → reportHas f new = true → reportHas f old = false →
    (∃ x, t.alarm k n = some x ∧ x.state = .active) ∨ t.alarms.incomplete = true
  ends : ListedOnce s → reportHas f old = true → reportHas f new = false → ∀ x, t.alarm k n = some x → x.state = .cleared
  stands : ListedOnce s → reportHas f old = reportHas f new → ∀ x, s.alarm k n = some x → x.state = .active → t.alarm k n = some x

theorem AlarmRecord.kind_of_condition {x : AlarmRecord} (h : x.condition = (k, n)) : x.kind = k := congrArg Prod.fst h

theorem KindStands.alarm_active {x : AlarmRecord} (h : KindStands k s t) (once : ListedOnce s) (hx : s.alarm k n = some x)
    (active : x.state = .active) : t.alarm k n = some x := by
  obtain ⟨listed, condition⟩ := alarm_eq_some hx
  exact alarm_of_mem (h.listed once) ((h.active x (AlarmRecord.kind_of_condition condition) active).2 listed) condition

theorem KindStands.alarm_cleared (h : KindStands k s t) (once : ListedOnce s)
    (none : ∀ x, s.alarm k n = some x → x.state = .cleared) (x : AlarmRecord) (hx : t.alarm k n = some x) : x.state = .cleared := by
  obtain ⟨listed, condition⟩ := alarm_eq_some hx
  cases state : x.state with
  | cleared => rfl
  | active =>
    have before := (h.active x (AlarmRecord.kind_of_condition condition) state).1 listed
    exact (none x (alarm_of_mem once before condition)) ▸ state.symm

/-- The postings of a report end a condition or raise it; the postings around them are of other kinds. -/
theorem ReportPosted.of_steps (gate : ∀ u : State, u.gateOpen k n = true) (before : KindStands k s t)
    (between : KindStands k (endStation k f n old new t) u) (after : KindStands k (raiseStation k f n old new u) v) :
    ReportPosted k n f old new s v where
  begins once hn ho := by
    have unended : endStation k f n old new t = t := if_neg (by simp [ho])
    have raised : raiseStation k f n old new u = raiseAlarm k n u := if_pos (by simp [hn, ho])
    rw [unended] at between
    rw [raised] at after
    have once' := (between.listed (before.listed once)).raiseAlarm k n
    rcases raiseAlarm_lists (gate u) with ⟨x, listed, condition, active⟩ | incomplete
    · exact .inl ⟨x, after.alarm_active once' (alarm_of_mem once' listed condition) active, active⟩
    · exact .inr (after.incomplete incomplete)
  ends once ho hn := by
    have ended : endStation k f n old new t = endAlarm k n t := if_pos (by simp [hn, ho])
    have unraised : raiseStation k f n old new u = u := if_neg (by simp [hn])
    rw [ended] at between
    rw [unraised] at after
    have once' := before.listed once
    exact (between.trans after).alarm_cleared (once'.endAlarm k n) fun x => endAlarm_cleared once'
  stands once same x hx active := by
    have unended : endStation k f n old new t = t := if_neg (by simp [same])
    have unraised : raiseStation k f n old new u = u := if_neg (by simp [same])
    rw [unended] at between
    rw [unraised] at after
    exact ((before.trans between).trans after).alarm_active once hx active

/-- R100: each of the three station conditions is posted as its change of report has it. -/
theorem postReport_posted (n : Nat) (old new : Option StationReport) (s : State) :
    ReportPosted .stationSupplyFailed n StationReport.isFailed old new s (postReport n old new s) ∧
    ReportPosted .stationOnStandby n StationReport.isStandby old new s (postReport n old new s) ∧
    ReportPosted .stationDoorOpen n StationReport.doorOpen old new s (postReport n old new s) := by
  unfold postReport
  extract_lets s1 s2 s3 s4 s5 s6
  have told : ∀ {K : AlarmKind}, ¬ K.correlated → KindStands K s6 (if reportHas StationReport.isFailed old =
      reportHas StationReport.isFailed new then s6 else postSupply n (reportHas StationReport.isFailed new) s6) :=
    fun h => .ite (.refl s6) (changeBranch_kindStands h n _ s6)
  refine ⟨.of_steps (t := s) (u := s3) (fun _ => rfl) (.refl s) ?_ ?_, .of_steps (t := s1) (u := s4) (fun _ => rfl) ?_ ?_ ?_,
    .of_steps (t := s2) (u := s5) (fun _ => rfl) ?_ ?_ ?_⟩
  · exact (endStation_kindStands (by decide) s1).trans (endStation_kindStands (by decide) s2)
  · exact ((raiseStation_kindStands (by decide) s4).trans (raiseStation_kindStands (by decide) s5)).trans
      (told (by simp [AlarmKind.correlated]))
  · exact endStation_kindStands (by decide) s
  · exact (endStation_kindStands (by decide) s2).trans (raiseStation_kindStands (by decide) s3)
  · exact (raiseStation_kindStands (by decide) s5).trans (told (by simp [AlarmKind.correlated]))
  · exact (endStation_kindStands (by decide) s).trans (endStation_kindStands (by decide) s1)
  · exact (raiseStation_kindStands (by decide) s3).trans (raiseStation_kindStands (by decide) s4)
  · exact told (by simp [AlarmKind.correlated])

/-- R100: a report that changes no condition posts nothing. -/
theorem postReport_of_same (s : State) (failed : reportHas StationReport.isFailed old = reportHas StationReport.isFailed new)
    (standby : reportHas StationReport.isStandby old = reportHas StationReport.isStandby new)
    (door : reportHas StationReport.doorOpen old = reportHas StationReport.doorOpen new) : postReport n old new s = s := by
  simp [postReport, endStation, raiseStation, failed, standby, door]

end Reports

end Sys2Proof.Machine


namespace Sys2Proof.Machine

/-! ## A poll's completion (R99, R100) -/

section Completions
variable {n : Nat} {k : AlarmKind} {old new : Option StationReport} {r : StationReport} {o : TxnOutcome} {s : State}

/-- The three conditions of a station's report (R129). -/
def stationKinds : List AlarmKind := [.stationSupplyFailed, .stationOnStandby, .stationDoorOpen]

/-- What a report says of a condition (R129). -/
def StationReport.tells : AlarmKind → StationReport → Bool
  | .stationSupplyFailed => StationReport.isFailed
  | .stationOnStandby => StationReport.isStandby
  | .stationDoorOpen => StationReport.doorOpen
  | _ => fun _ => false

theorem reportHas_tells (k : AlarmKind) (x : Option StationReport) : (∃ r, x = some r ∧
    ((k = .stationSupplyFailed ∧ r.supply = .failed) ∨ (k = .stationOnStandby ∧ r.supply = .standby) ∨
      (k = .stationDoorOpen ∧ r.doorOpen = true))) ↔ reportHas (StationReport.tells k) x = true := by
  cases x with
  | none => simp [reportHas]
  | some r => cases k <;> simp [reportHas, StationReport.tells, StationReport.isFailed, StationReport.isStandby]

theorem postReport_posted_tells (hk : k ∈ stationKinds) (n : Nat) (old new : Option StationReport) (s : State) :
    ReportPosted k n (StationReport.tells k) old new s (postReport n old new s) := by
  obtain ⟨failed, standby, door⟩ := postReport_posted n old new s
  simp only [stationKinds, List.mem_cons, List.not_mem_nil, or_false] at hk
  rcases hk with rfl | rfl | rfl
  · exact failed
  · exact standby
  · exact door

theorem postReport_of_same_tells (h : ∀ k ∈ stationKinds, reportHas (StationReport.tells k) old = reportHas (StationReport.tells k) new) :
    postReport n old new s = s :=
  postReport_of_same s (h .stationSupplyFailed (by decide)) (h .stationOnStandby (by decide)) (h .stationDoorOpen (by decide))

theorem postReport_supplyFailed (hs : TablesSound s)
    (h : reportHas StationReport.isFailed old ≠ reportHas StationReport.isFailed new) :
    ((postReport n old new s).branch n).supplyFailed = reportHas StationReport.isFailed new := by
  have branch := postReport_branch n old new hs
  rw [if_neg h] at branch
  exact congrArg Branch.supplyFailed branch

theorem isPolled_iff (w : Watch) : w.isPolled = true ↔ w.state = .polled ∨ (w.state = .silent ∧ w.recovery = .polled) := by
  simp [Watch.isPolled]

theorem pollCompleted_of_not_polled (h : ¬ (s.watch n).isPolled = true) (x : Option StationReport) : pollCompleted n o x s = s :=
  if_neg h

theorem pollCompleted_done (h : (s.watch n).isPolled = true) (r : StationReport) :
    pollCompleted n .done (some r) s = pollAnswered n r s := if_pos h

theorem pollCompleted_failed (h : (s.watch n).isPolled = true) (ho : o = .noReply ∨ o = .faultyReply)
    (on : s.engine.returnOn = true) : pollCompleted n o none s = pollFailed n s := by
  unfold pollCompleted
  rcases ho with rfl | rfl <;> simp [h, on]

theorem pollCompleted_unsaid (h : (s.watch n).isPolled = true)
    (ho : o = .carrierOff ∨ ((o = .noReply ∨ o = .faultyReply) ∧ s.engine.returnOn = false)) :
    pollCompleted n o none s = pollSaidNothing n s := by
  unfold pollCompleted
  rcases ho with rfl | ⟨rfl | rfl, off⟩ <;> simp [*]

theorem pollFailed_of_polled (h : (s.watch n).state = .polled) : pollFailed n s =
    if (s.watch n).deadlinePassed then becomeSilent n s else s.setWatch n { s.watch n with state := .pollDue } := by
  simp [pollFailed, h]

theorem pollFailed_of_silent (h : (s.watch n).state = .silent) : pollFailed n s = s.setWatch n { s.watch n with
    recovery := .waiting, recoveryDue := some (s.survey.clock + intervalMs (s.watch n).interval) } := by
  simp [pollFailed, h]

theorem pollSaidNothing_of_polled (h : (s.watch n).state = .polled) :
    pollSaidNothing n s = s.setWatch n { s.watch n with state := .pollDue } := by
  simp [pollSaidNothing, h]

theorem pollSaidNothing_of_silent (h : (s.watch n).state = .silent) :
    pollSaidNothing n s = s.setWatch n { s.watch n with recovery := .due } := by
  simp [pollSaidNothing, h]

/-- The answered poll as the report's postings on the written record. -/
theorem pollAnswered_posts (hs : TablesSound s) (n : Nat) (r : StationReport) :
    let u := s.setWatch n ((pollAnswered n r s).watch n)
    pollAnswered n r s = postReport n (s.watch n).lastReport (some r)
      (if (s.watch n).state = .silent then endAlarm .stationSilent n (postSilence n false u) else u) := by
  intro u
  have written : u = s.setWatch n ((s.watch n).heard s.survey.clock (some r)) := by
    rw [show u = s.setWatch n ((pollAnswered n r s).watch n) from rfl, pollAnswered_watch hs, if_pos rfl]
  rw [written, pollAnswered_eq]
  rfl

/-- Settles O46: each outcome is one act of the survey, and the report's postings are those of its three conditions. -/
theorem pollCompletionDecidesTheWatch : Obligations.PollCompletionDecidesTheWatch := by
  unfold Obligations.PollCompletionDecidesTheWatch
  intro s n o hs w polled
  have isPolled : w.isPolled = true ↔ polled := isPolled_iff w
  refine ⟨fun h r => pollCompleted_of_not_polled (h ∘ isPolled.1) r, fun h r => ?_, fun old new => ?_,
    fun ho on => ⟨fun h passed => ?_, fun h passed => ?_, fun h recovery => ?_⟩, fun ho => ⟨fun h => ?_, fun h recovery => ?_⟩⟩
  · rw [pollCompleted_done (isPolled.2 h)]
    refine ⟨?_, congrArg Branch.silent (pollAnswered_branch hs n r), pollAnswered_posts hs n r⟩
    rw [pollAnswered_watch hs, if_pos rfl]
    rfl
  · intro holds t kinds
    have tells : ∀ k x, holds k x ↔ reportHas (StationReport.tells k) x = true := reportHas_tells
    have unsaid : ∀ k x, ¬ holds k x ↔ reportHas (StationReport.tells k) x = false := fun k x => by simp [tells]
    have same : ∀ k, (holds k old ↔ holds k new) → reportHas (StationReport.tells k) old = reportHas (StationReport.tells k) new :=
      fun k h => Bool.eq_iff_iff.2 (((tells k old).symm.trans h).trans (tells k new))
    refine ⟨fun h => postReport_of_same_tells fun k hk => same k (h k hk), ⟨fun hn ho => ?_, fun ho hn => ?_⟩,
      fun alarms k hk => ?_, postReport_butBranches n old new s⟩
    · have begins : reportHas StationReport.isFailed new = true := (tells _ _).1 hn
      have before : reportHas StationReport.isFailed old = false := (unsaid _ _).1 ho
      exact (postReport_supplyFailed hs (by simp [begins, before])).trans begins
    · have ends : reportHas StationReport.isFailed new = false := (unsaid _ _).1 hn
      have before : reportHas StationReport.isFailed old = true := (tells _ _).1 ho
      exact (postReport_supplyFailed hs (by simp [ends, before])).trans ends
    · have posted := postReport_posted_tells hk n old new s
      have once := alarms.listedOnce
      exact ⟨fun hn ho => posted.begins once ((tells k new).1 hn) ((unsaid k old).1 ho),
        fun ho hn => posted.ends once ((tells k old).1 ho) ((unsaid k new).1 hn), fun h => posted.stands once (same k h)⟩
  · rw [pollCompleted_failed (isPolled.2 (.inl h)) ho on, pollFailed_of_polled h, if_neg (by simp [w, passed])]
  · rw [pollCompleted_failed (isPolled.2 (.inl h)) ho on, pollFailed_of_polled h, if_pos passed, becomeSilent_watch hs, if_pos rfl]
    exact ⟨rfl, congrArg Branch.silent (becomeSilent_branch hs n)⟩
  · exact (pollCompleted_failed (isPolled.2 (.inr ⟨h, recovery⟩)) ho on).trans (pollFailed_of_silent h)
  · exact (pollCompleted_unsaid (isPolled.2 (.inl h)) ho).trans (pollSaidNothing_of_polled h)
  · exact (pollCompleted_unsaid (isPolled.2 (.inr ⟨h, recovery⟩)) ho).trans (pollSaidNothing_of_silent h)

end Completions

end Sys2Proof.Machine


namespace Sys2Proof.Machine

/-! ## BRANCH SET (R96, R97, R123) -/

section BranchSet
variable {s t u : State} {n k : Nat} {a : BranchArgs}

/-! ### The frame: the branches, their episodes, the watches and the alarms apart -/

/-- What a BRANCH SET leaves, but for the arbiter's decision. -/
def State.besideBranches (s : State) : State := ({ s with watches := [] } : State).butBranches

theorem besideBranches_of_butBranches (h : t.butBranches = s.butBranches) : t.besideBranches = s.besideBranches :=
  congrArg (fun u : State => { u with watches := [] }) h

theorem subs_of_besideBranches (h : t.besideBranches = s.besideBranches) : t.subs = s.subs :=
  show t.besideBranches.subs = _ from h ▸ rfl

theorem butGrant_of_besideBranches (h : t.besideBranches = s.besideBranches) : t.butGrant = s.butGrant :=
  show t.besideBranches.butGrant = _ from h ▸ rfl

theorem postInterval_besideBranches (n i : Nat) (s : State) : (postInterval n i s).besideBranches = s.besideBranches := by
  unfold postInterval
  extract_lets w
  split <;> rfl

theorem postStation_besideBranches (n : Nat) (before after : Bool) (s : State) :
    (postStation n before after s).besideBranches = s.besideBranches := by
  unfold postStation
  split
  · rfl
  · split
    · exact (besideBranches_of_butBranches (stationLost_butBranches n s)).trans rfl
    · rfl

theorem branchPosted_besideBranches (n : Nat) (a : BranchArgs) (s : State) : (branchPosted n a s).besideBranches = s.besideBranches :=
  (postStation_besideBranches n _ _ _).trans (postInterval_besideBranches n _ _)

theorem decideBranches_besideBranches (s : State) : (decideBranches s).besideBranches = s.besideBranches :=
  besideBranches_of_butBranches (decideBranches_butBranches s)

theorem removeBranch_besideBranches (n : Nat) (s : State) : (removeBranch n s).besideBranches = s.besideBranches :=
  (decideBranches_besideBranches _).trans (postStation_besideBranches n _ _ _)

theorem changeBranchRecord_subs (n : Nat) (a : BranchArgs) (s : State) : (changeBranchRecord n a s).subs = s.subs :=
  (subs_of_butCarrier (arbitrate_butCarrier _)).trans
    (subs_of_besideBranches ((decideBranches_besideBranches _).trans (branchPosted_besideBranches n a s)))

theorem changeBranchRecord_butGrant (n : Nat) (a : BranchArgs) (s : State) : (changeBranchRecord n a s).butGrant = s.butGrant :=
  (arbitrate_butGrant _).trans
    (butGrant_of_besideBranches ((decideBranches_besideBranches _).trans (branchPosted_besideBranches n a s)))

/-! ### The branch records after a change (R97, R123) -/

/-- Whether a change takes the branch's station away. -/
def State.losesStation (s : State) (n : Nat) (a : BranchArgs) : Bool :=
  (s.branch n).station && !((s.branch n).withArgs a).station

/-- Whether a change gives the branch a station. -/
def State.gainsStation (s : State) (n : Nat) (a : BranchArgs) : Bool :=
  ((s.branch n).withArgs a).station && !(s.branch n).station

theorem changeBranchRecord_undecided (hs : TablesSound s) (n : Nat) (a : BranchArgs) :
    ((changeBranchRecord n a s).branch n).undecided =
      if s.losesStation n a then { ((s.branch n).withArgs a).undecided with
        silent := if (s.watch n).state = .silent then false else (s.branch n).silent
        supplyFailed := if reportHas StationReport.isFailed (s.watch n).lastReport then false else (s.branch n).supplyFailed }
      else ((s.branch n).withArgs a).undecided := by
  rw [changeBranchRecord_eq, arbitrate_branch, decideBranches_undecided (branchPosted_elsewhere n a s hs).1]
  exact branchPosted_branch hs n a

/-- The fields of a branch that a BRANCH SET writes or keeps, whatever becomes of the station. -/
def Branch.settings (b : Branch) : Branch := { b.undecided with silent := false, supplyFailed := false }

theorem changeBranchRecord_settings (hs : TablesSound s) (n : Nat) (a : BranchArgs) :
    ((changeBranchRecord n a s).branch n).settings = ((s.branch n).withArgs a).settings := by
  have branch := congrArg Branch.settings (changeBranchRecord_undecided hs n a)
  rw [apply_ite Branch.settings] at branch
  exact branch.trans (ite_self _)

theorem changeBranchRecord_elsewhere (hs : TablesSound s) (a : BranchArgs) (hk : k ≠ n) :
    (s.watch k).OrPolled ((changeBranchRecord n a s).watch k) ∧
      ((changeBranchRecord n a s).branch k).undecided = (s.branch k).undecided := by
  have elsewhere := (branchPosted_elsewhere n a s).trans (decideBranches_elsewhere n _)
  obtain ⟨tables, others⟩ := elsewhere hs
  obtain ⟨watch, branch⟩ := others k hk
  rw [changeBranchRecord_eq, arbitrate_branch]
  exact ⟨watch ▸ arbitrate_watch tables k, branch⟩

/-! ### The watch record after a change (R96, R97) -/

/-- The interval of the branch after a change. -/
abbrev State.newInterval (s : State) (n : Nat) (a : BranchArgs) : Nat := ((s.branch n).withArgs a).interval

/-- The watch record that the change posts. -/
def State.postedWatch (s : State) (n : Nat) (a : BranchArgs) : Watch :=
  if s.gainsStation n a then (s.intervalWatch n (s.newInterval n a)).heard s.survey.clock none
  else if s.losesStation n a then { Watch.cold with interval := (s.intervalWatch n (s.newInterval n a)).interval }
  else s.intervalWatch n (s.newInterval n a)

theorem changeBranchRecord_watch (hs : TablesSound s) (n : Nat) (a : BranchArgs) :
    (s.postedWatch n a).OrPolled ((changeBranchRecord n a s).watch n) := by
  have posted := branchPosted_watch hs n a n
  rw [if_pos rfl] at posted
  have decided := watch_of_butBranches (decideBranches_butBranches (branchPosted n a s)) n
  have polled := arbitrate_watch ((branchPosted_elsewhere n a s).trans (decideBranches_elsewhere n _) hs).1 n
  rw [decided, posted] at polled
  exact polled

/-- A record of which no poll is due is not handed to the engine. -/
theorem Watch.OrPolled.eq {x y : Watch} (h : x.OrPolled y) (due : x.state ≠ .pollDue) (silent : x.state ≠ .silent) : y = x := by
  rcases h with h | ⟨is, -⟩ | ⟨is, -⟩
  · exact h
  · exact absurd is due
  · exact absurd is silent

theorem withInterval_interval (w : Watch) (i clock : Nat) : (w.withInterval i clock).interval = i := by
  unfold Watch.withInterval
  extract_lets good due deadline
  split
  · split <;> rfl
  all_goals rfl

theorem intervalWatch_interval (s : State) (n i : Nat) : (s.intervalWatch n i).interval = i := by
  unfold State.intervalWatch
  split
  · exact withInterval_interval _ _ _
  · rename_i held
    exact not_not.1 held

theorem withInterval_of_still {w : Watch} (h : w.state = .unwatched ∨ w.state = .silent) (i clock : Nat) :
    w.withInterval i clock = { w with interval := i } := by
  rcases h with h | h <;> simp [Watch.withInterval, h]

theorem withInterval_of_outstanding {w : Watch} {g : Nat} (h : w.state = .pollDue ∨ w.state = .polled) (hg : w.lastGood = some g)
    (i clock : Nat) : w.withInterval i clock = { w with
      interval := i, deadline := some (g + intervalMs i), deadlinePassed := decide (g + intervalMs i ≤ clock) } := by
  rcases h with h | h <;> simp [Watch.withInterval, h, hg]

theorem withInterval_of_watching {w : Watch} {g : Nat} (h : w.state = .watching) (hg : w.lastGood = some g) (i clock : Nat) :
    w.withInterval i clock = if g + dueAfter i ≤ clock then { w with
        interval := i, state := .pollDue, due := some (g + dueAfter i), deadline := some (g + intervalMs i)
        deadlinePassed := decide (g + intervalMs i ≤ clock) }
      else { w with interval := i, due := some (g + dueAfter i), deadline := some (g + intervalMs i) } := by
  simp [Watch.withInterval, h, hg]

/-- R97: the record of a station gained. -/
theorem postedWatch_gained (gains : s.gainsStation n a = true) (h : (s.watch n).state = .unwatched) :
    s.postedWatch n a = { s.watch n with interval := s.newInterval n a }.heard s.survey.clock none := by
  rw [State.postedWatch, if_pos gains, State.intervalWatch]
  split
  · rw [withInterval_of_still (.inl h)]
  · rename_i held
    rw [← not_not.1 held]

/-- R97: the record of a station lost. -/
theorem postedWatch_lost (loses : s.losesStation n a = true) :
    s.postedWatch n a = { Watch.cold with interval := s.newInterval n a } := by
  have gains : ¬ s.gainsStation n a = true := by
    simp only [State.losesStation, Bool.and_eq_true, Bool.not_eq_true'] at loses
    simp [State.gainsStation, loses]
  rw [State.postedWatch, if_neg gains, if_pos loses, intervalWatch_interval]

/-- R96: the record of a station neither gained nor lost. -/
theorem postedWatch_kept (same : (s.branch n).station = ((s.branch n).withArgs a).station) :
    s.postedWatch n a = s.intervalWatch n (s.newInterval n a) := by
  rw [State.postedWatch, if_neg (by simp [State.gainsStation, same]), if_neg (by simp [State.losesStation, same])]

/-! ### A branch removed (R123) -/

/-- A branch record with nothing in it is OUT for nothing, and shadowed by nothing. -/
theorem decided_flagged_of_emptied {b : Branch} (h : b.undecided = .cold) : b.decided.flagged false = .cold := by
  have inputs : b.isOut = Branch.cold.isOut := (congrArg Branch.isOut h :)
  have out : b.isOut = false := inputs
  calc b.decided.flagged false = { b.undecided with out := b.isOut, affected := b.isOut || false, shadowed := b.isOut && false } := rfl
    _ = .cold := by rw [h, out]; rfl

theorem removeBranch_branch (hs : TablesSound s) (n : Nat) : (removeBranch n s).branch n = .cold := by
  have tables := (branchCleared_elsewhere n s hs).1
  have emptied := branchCleared_branch hs n
  have root : ((branchCleared n s).branchesDecided.branch n).parent = none := by
    rw [branchesDecided_branch tables]
    exact (congrArg Branch.parent emptied :)
  show (decideBranches (branchCleared n s)).branch n = .cold
  rw [decideBranches_branch tables, ancestorOut_of_root root]
  exact decided_flagged_of_emptied emptied

theorem childrenOf_isEmpty (hs : TablesSound s) (n : Nat) :
    (s.childrenOf n).isEmpty = true ↔ ∀ k, (s.branch k).defined = true → (s.branch k).parent ≠ some n := by
  rw [List.isEmpty_iff, List.eq_nil_iff_forall_not_mem]
  refine forall_congr' fun k => ?_
  rw [State.childrenOf, mem_tabWhere hs.branches]
  have listed : (s.branch k).defined = true → s.branch k ≠ .cold := fun defined cold => by
    rw [cold] at defined; cases defined
  simp only [Bool.and_eq_true, decide_eq_true_eq, not_and]
  exact ⟨fun h defined => h (listed defined) defined, fun h _ defined => h defined⟩

/-! ### The answers (R123) -/

theorem branchSet_changes (hb : 1 ≤ a.branch ∧ a.branch ≤ 64) (hq : a.parent.getD 0 ≤ 64) (hr : a.remove = false)
    (hp : s.parentRefusal a.branch (a.parent.getD 0) = none) :
    branchSet a s = answered (branchContent a.branch) (changeBranchRecord a.branch a s) := by
  simp [branchSet, branchChange, within, hb, hq, hr, hp]

theorem branchSet_removal (hb : 1 ≤ a.branch ∧ a.branch ≤ 64) (hq : a.parent.getD 0 ≤ 64) (hr : a.remove = true) :
    branchSet a s = branchRemoval a.branch s := by
  simp [branchSet, within, hb, hq, hr]

theorem branchRemoval_removes (defined : (s.branch n).defined = true) (bare : (s.branch n).installedTaps = 0)
    (childless : (s.childrenOf n).isEmpty = true) :
    branchRemoval n s = answered (branchContent n) (removeBranch n s) := by
  simp [branchRemoval, defined, bare, childless]

theorem branchRemoval_notFound (undefined : (s.branch n).defined = false) : branchRemoval n s = refused .notFound s := by
  simp [branchRemoval, undefined]

theorem branchRemoval_conflict (defined : (s.branch n).defined = true)
    (held : (s.branch n).installedTaps ≠ 0 ∨ ¬ (s.childrenOf n).isEmpty = true) : branchRemoval n s = refused .conflict s := by
  have held : ((decide ((s.branch n).installedTaps ≠ 0)) || !(s.childrenOf n).isEmpty) = true := by
    rcases held with h | h <;> simp [h]
  unfold branchRemoval
  rw [if_neg (by simp [defined]), if_pos held]

/-- R96: what a change of interval leaves of a record, before the arbiter decides. -/
theorem intervalWatch_polled {i : Nat} {y : Watch} (polled : (s.intervalWatch n i).OrPolled y) :
    ((s.watch n).interval = i → (s.watch n).OrPolled y) ∧
    ((s.watch n).interval ≠ i →
      ((s.watch n).state = .unwatched ∨ (s.watch n).state = .silent →
        Watch.OrPolled { s.watch n with interval := i } y) ∧
      ∀ g, (s.watch n).lastGood = some g →
        ((s.watch n).state = .watching → s.survey.clock < g + dueAfter i → y = { s.watch n with
          interval := i, due := some (g + dueAfter i), deadline := some (g + intervalMs i) }) ∧
        ((s.watch n).state = .watching → g + dueAfter i ≤ s.survey.clock → Watch.OrPolled { s.watch n with
          interval := i, state := .pollDue, due := some (g + dueAfter i), deadline := some (g + intervalMs i)
          deadlinePassed := decide (g + intervalMs i ≤ s.survey.clock) } y) ∧
        ((s.watch n).state = .pollDue ∨ (s.watch n).state = .polled → Watch.OrPolled { s.watch n with
          interval := i, deadline := some (g + intervalMs i)
          deadlinePassed := decide (g + intervalMs i ≤ s.survey.clock) } y)) := by
  refine ⟨fun held => ?_, fun changed => ?_⟩
  · rwa [State.intervalWatch, if_neg (not_not.2 held)] at polled
  · rw [State.intervalWatch, if_pos changed] at polled
    refine ⟨fun still => withInterval_of_still still i _ ▸ polled, fun g good => ⟨fun watching early => ?_, fun watching late => ?_,
      fun outstanding => withInterval_of_outstanding outstanding good i _ ▸ polled⟩⟩
    · rw [withInterval_of_watching watching good, if_neg (Nat.not_le.2 early)] at polled
      exact polled.eq (by simp [watching]) (by simp [watching])
    · rwa [withInterval_of_watching watching good, if_pos late] at polled

theorem reportHas_isFailed (x : Option StationReport) :
    reportHas StationReport.isFailed x = true ↔ ∃ r, x = some r ∧ r.supply = .failed := by
  cases x <;> simp [reportHas, StationReport.isFailed]

/-- R97: the watch of a station gained, and the branch's account and the watch of a station lost and of one kept. -/
theorem changeBranchRecord_station (hs : TablesSound s) (n : Nat) (a : BranchArgs) :
    let t := changeBranchRecord n a s
    (s.gainsStation n a = true → (s.watch n).state = .unwatched →
      t.watch n = { s.watch n with interval := s.newInterval n a }.heard s.survey.clock none) ∧
    (s.losesStation n a = true →
      t.watch n = { Watch.cold with interval := s.newInterval n a } ∧
      (t.branch n).silent = (if (s.watch n).state = .silent then false else (s.branch n).silent) ∧
      (t.branch n).supplyFailed = (if ∃ r, (s.watch n).lastReport = some r ∧ r.supply = .failed then false
        else (s.branch n).supplyFailed)) ∧
    ((s.branch n).station = ((s.branch n).withArgs a).station →
      (t.branch n).silent = (s.branch n).silent ∧ (t.branch n).supplyFailed = (s.branch n).supplyFailed ∧
      (s.intervalWatch n (s.newInterval n a)).OrPolled (t.watch n)) := by
  intro t
  have posted := changeBranchRecord_watch hs n a
  have branch := changeBranchRecord_undecided hs n a
  refine ⟨fun gains unwatched => ?_, fun loses => ?_, fun same => ?_⟩
  · rw [postedWatch_gained gains unwatched] at posted
    exact posted.eq nofun nofun
  · rw [postedWatch_lost loses] at posted
    rw [if_pos loses] at branch
    exact ⟨posted.eq nofun nofun, (congrArg Branch.silent branch :),
      (congrArg Branch.supplyFailed branch :).trans (if_congr (reportHas_isFailed _) rfl rfl)⟩
  · rw [postedWatch_kept same] at posted
    rw [if_neg (by simp [State.losesStation, same])] at branch
    exact ⟨(congrArg Branch.silent branch :), (congrArg Branch.supplyFailed branch :), posted⟩

/-- Settles O21: a change writes the branch, posts its interval and its station and has the branches decided; a removal posts the
loss of the station from an emptied branch. -/
theorem branchSetWritesTheBranch : Obligations.BranchSetWritesTheBranch := by
  unfold Obligations.BranchSetWritesTheBranch
  intro s m a asks parsed hs range parents
  have taken := exec_branchSet asks parsed
  have parent : a.parent.getD 0 ≤ 64 := by
    cases given : a.parent with
    | none => exact Nat.zero_le _
    | some q => exact parents q given
  have tables : TablesSound (dropHead .technician s) := dropHead_tables .technician hs
  have branch : ∀ k, (dropHead .technician s).branch k = s.branch k := dropHead_get_branch .technician s
  have watch : ∀ k, (dropHead .technician s).watch k = s.watch k := dropHead_get_watch .technician s
  have clock : (dropHead .technician s).survey.clock = s.survey.clock := congrArg Survey.clock (dropHead_survey .technician s)
  have childless : ((dropHead .technician s).childrenOf a.branch).isEmpty = true ↔
      ∀ k, (s.branch k).defined = true → (s.branch k).parent ≠ some a.branch := childrenOf_isEmpty tables a.branch
  refine ⟨fun keep allowed => ?_, fun remove defined bare leaf => ?_, fun remove undefined => ?_, fun remove defined held => ?_⟩
  · have free : (dropHead .technician s).parentRefusal a.branch (a.parent.getD 0) = none :=
      (parentRefusal_of_branches (dropHead_branches .technician s) _ _).trans allowed
    rw [branchSet_changes range parent keep free] at taken
    refine ⟨changeBranchRecord a.branch a (dropHead .technician s), taken, ?_⟩
    have settings := changeBranchRecord_settings tables a.branch a
    obtain ⟨gained, lost, kept⟩ := changeBranchRecord_station tables a.branch a
    have others := fun k (hk : k ≠ a.branch) => changeBranchRecord_elsewhere tables a hk
    have subs := (changeBranchRecord_subs a.branch a _).trans (dropHead_subs .technician s)
    have frame := (changeBranchRecord_butGrant a.branch a _).trans (dropHead_butGrant .technician s)
    rw [← show (dropHead .technician s).branch = s.branch from funext branch,
      ← show (dropHead .technician s).watch = s.watch from funext watch, ← clock]
    generalize changeBranchRecord a.branch a (dropHead .technician s) = t at *
    generalize dropHead .technician s = u at *
    have station : (t.branch a.branch).station = ((u.branch a.branch).withArgs a).station := (congrArg Branch.station settings :)
    have interval : (t.branch a.branch).interval = u.newInterval a.branch a := (congrArg Branch.interval settings :)
    refine ⟨(congrArg Branch.defined settings :), (congrArg Branch.parent settings :), station, interval,
      (congrArg Branch.forced settings :), fun k hk => (others k hk).2, ⟨fun k hk => (others k hk).1, ?_⟩, subs, frame⟩
    rw [station, interval]
    refine ⟨fun without given unwatched => ?_, fun given without => ?_, fun same => ?_⟩
    · exact gained (by simp [State.gainsStation, without, given]) unwatched
    · exact lost (by simp [State.losesStation, without, given])
    · obtain ⟨silent, supply, polled⟩ := kept same
      exact ⟨silent, supply, intervalWatch_polled polled⟩
  · rw [branchSet_removal range parent remove, branchRemoval_removes ((branch _).symm ▸ defined) ((branch _).symm ▸ bare)
      (childless.2 leaf)] at taken
    refine ⟨removeBranch a.branch (dropHead .technician s), taken, removeBranch_branch tables a.branch,
      removeBranch_watch tables a.branch, fun k hk => ?_, fun k hk => ?_, ?_⟩
    · exact (((removeBranch_elsewhere a.branch _) tables).2 k hk).1.trans (watch k)
    · exact (((removeBranch_elsewhere a.branch _) tables).2 k hk).2.trans (congrArg Branch.undecided (branch k))
    · exact (removeBranch_besideBranches a.branch _).trans (besideBranches_of_butBranches (dropHead_butBranches .technician s))
  · rw [branchSet_removal range parent remove, branchRemoval_notFound ((branch _).symm ▸ undefined)] at taken
    exact taken
  · rw [branchSet_removal range parent remove, branchRemoval_conflict ((branch _).symm ▸ defined) (by
      rw [branch, childless]
      simpa using held)] at taken
    exact taken

end BranchSet

end Sys2Proof.Machine
